-- ==== Sys2Proof/Word.lean ====
section
/-! DEFINITION. The word types of the NC-640: bytes of a port frame, 40-bit positions, decimal digits. -/

namespace Sys2Proof

/-- A byte of a port frame (R172). -/
abbrev Byte := BitVec 8

/-- A position of the web: a 40-bit count of ticks, taken modulo 2^40 (00_scope, Positions and Travel; R1). -/
abbrev Pos := BitVec 40

/-- A decimal digit of a printed string or of a read result (R57, R117). -/
abbrev Digit := Fin 10

end Sys2Proof
end

