-- ==== Sys2Proof/Syntax.lean ====
section
/-! DEFINITION. The commands of the NC-640: one constructor of `Instr` for each row of spec/opcode_table.json, with
the operands the event or the message carries. -/

namespace Sys2Proof

/-- The six plies (00_scope, Plies, Lanes, Drivers and Rows). -/
inductive Ply where
  | p1 | p2 | p3 | p4 | p5 | p6
deriving DecidableEq, Repr

/-- The three numbering-head drivers. Driver d serves plies 2d − 1 and 2d. -/
inductive Driver where
  | d1 | d2 | d3
deriving DecidableEq, Repr

/-- The four lanes. -/
inductive Lane where
  | l1 | l2 | l3 | l4
deriving DecidableEq, Repr

/-- The four event monitors (R162). -/
inductive Mon where
  | m1 | m2 | m3 | m4
deriving DecidableEq, Repr

/-- The two message ports (Table 0-1); also the owner of a job (R124). -/
inductive Port where
  | line | panel
deriving DecidableEq, Repr

/-- The PANEL strap (R175). -/
inductive PanelAuthority where
  | absent | view | full
deriving DecidableEq, Repr

/-- The LINK_RATE strap, in baud (Table 11-6). -/
inductive LinkRate where
  | baud19200 | baud57600 | baud115200 | baud460800
deriving DecidableEq, Repr

/-- The RESET_HOLD strap (R176). -/
inductive ResetHold where
  | defer | refuse
deriving DecidableEq, Repr

/-- The strap values sampled at power-up (R180). `plies` is the PLIES value n: plies 1 to n are installed. -/
structure Straps where
  plies : Ply
  panel : PanelAuthority
  rate : LinkRate
  hold : ResetHold
deriving DecidableEq, Repr

/-- The fields of a driver's reply (Table 6-1), as the link carries them: any tag, ply number and row index. -/
structure LinkReply where
  tag : Byte
  ply : Nat
  row : Nat
deriving DecidableEq, Repr

/-- One character of a reader's string: a decimal digit, or anything else (R117). -/
inductive ReadChar where
  | digit (d : Digit)
  | other
deriving DecidableEq, Repr

/-- What arrives on a reader input (R117): a result cut short or corrupted, the word NOREAD, or a string. Lane numbers
and strings are as received, so that the malformed ones can be written. -/
inductive ReadReport where
  | corrupted
  | noRead (lane : Nat)
  | string (lane : Nat) (chars : List ReadChar)
deriving DecidableEq, Repr

/-- The commands: every row of spec/opcode_table.json, in the table's order. A request names the port it arrived on
and carries its tag and its body as received (R172, R173). -/
inductive Instr where
  | powerUp (straps : Straps)
  | recoveryComplete
  | forwardCount
  | reverseCount
  | cueMarkDetection (p : Ply)
  | markWindowEnd (p : Ply)
  | spliceDetection (p : Ply)
  | zoneExpiry (p : Ply)
  | sendPosition (p : Ply) (row : Nat)
  | doneReply (d : Driver) (m : LinkReply)
  | lateReply (d : Driver) (m : LinkReply)
  | faultReply (d : Driver) (m : LinkReply) (lanes : List Nat)
  | notReadyReply (d : Driver) (m : LinkReply)
  | readyNotice (d : Driver)
  | headLinkDiscard (d : Option Driver)
  | readResult (p : Ply) (r : ReadReport)
  | merge (row : Nat)
  | marker (row : Nat)
  | pulseEnd (l : Lane)
  | delivery (row : Nat)
  | appendComplete
  | resetLine
  | resetComplete
  | powerFailWarning (asserted : Bool)
  | saveComplete
  | frameGapTimeout (port : Port)
  | frameDiscard (port : Port) (bytes : List Byte)
  | frameSent (port : Port)
  | unknownRequest (port : Port) (kind : Byte) (tag : Byte) (body : List Byte)
  | loadJob (port : Port) (tag : Byte) (body : List Byte)
  | startJob (port : Port) (tag : Byte) (body : List Byte)
  | haltJob (port : Port) (tag : Byte) (body : List Byte)
  | abortJob (port : Port) (tag : Byte) (body : List Byte)
  | queryJob (port : Port) (tag : Byte) (body : List Byte)
  | collectEnd (port : Port) (tag : Byte) (body : List Byte)
  | feedNumbers (port : Port) (tag : Byte) (body : List Byte)
  | readVoids (port : Port) (tag : Byte) (body : List Byte)
  | releaseVoids (port : Port) (tag : Byte) (body : List Byte)
  | readMakeUp (port : Port) (tag : Byte) (body : List Byte)
  | releaseMakeUp (port : Port) (tag : Byte) (body : List Byte)
  | readRecovery (port : Port) (tag : Byte) (body : List Byte)
  | discardRecovery (port : Port) (tag : Byte) (body : List Byte)
  | setLine (port : Port) (tag : Byte) (body : List Byte)
  | readLine (port : Port) (tag : Byte) (body : List Byte)
  | setPly (port : Port) (tag : Byte) (body : List Byte)
  | readPly (port : Port) (tag : Byte) (body : List Byte)
  | setDriver (port : Port) (tag : Byte) (body : List Byte)
  | readDriver (port : Port) (tag : Byte) (body : List Byte)
  | readReader (port : Port) (tag : Byte) (body : List Byte)
  | armCapture (port : Port) (tag : Byte) (body : List Byte)
  | readCapture (port : Port) (tag : Byte) (body : List Byte)
  | setStopMask (port : Port) (tag : Byte) (body : List Byte)
  | readStop (port : Port) (tag : Byte) (body : List Byte)
  | clearStop (port : Port) (tag : Byte) (body : List Byte)
  | setMonitor (port : Port) (tag : Byte) (body : List Byte)
  | readMonitor (port : Port) (tag : Byte) (body : List Byte)
  | readTallies (port : Port) (tag : Byte) (body : List Byte)
  | clearShift (port : Port) (tag : Byte) (body : List Byte)
  | setNotify (port : Port) (tag : Byte) (body : List Byte)
  | acknowledgeAttention (port : Port) (tag : Byte) (body : List Byte)
  | lineSummary (port : Port) (tag : Byte) (body : List Byte)
  | reset (port : Port) (tag : Byte) (body : List Byte)
deriving DecidableEq, Repr

end Sys2Proof
end

