-- ==== Sys2Proof/Decode.lean ====
section
/-! DEFINITION. The commands that a word of the opcode table's bits spells. -/

namespace Sys2Proof

/-- The command of an opcode-table word. No row of spec/opcode_table.json gives its command any bits (every row's
`fields` is empty and none has a `fixed`), so no word spells a command. -/
def decodeTableWord (_nbits _w : Nat) : Option Instr := none

end Sys2Proof
end

