-- ==== Sys2Proof/Config.lean ====
section
/-! DEFINITION. What the spec leaves open and the model leaves free: a value here has no body, so no proof can
rest on what it is. -/

namespace Sys2Proof

/-- The `n`-th free choice among things the spec gives no order of: which of several position events due at one
value of H is taken first (R2: "The Tracker gives them no order among themselves"), and which port's held request
is served first where both may be (R174). It is read through `State.freeIndex`. DESIGN CHOICE, log entries 3 and 4. -/
opaque Config.freeChoice : Nat → Nat

end Sys2Proof
end

