-- ==== Sys2Proof/Machine/Types.lean ====
section
/-! DEFINITION. The records of which the state of the NC-640 is made: plain data, block by block. -/

namespace Sys2Proof.Machine

/-! ## Families indexed by ply, driver, lane and monitor -/

/-- One value for each of the six plies. -/
structure PerPly (α : Type) where
  p1 : α
  p2 : α
  p3 : α
  p4 : α
  p5 : α
  p6 : α
deriving DecidableEq, Repr

/-- One value for each of the three drivers. -/
structure PerDriver (α : Type) where
  d1 : α
  d2 : α
  d3 : α
deriving DecidableEq, Repr

/-- One value for each of the four lanes. -/
structure PerLane (α : Type) where
  l1 : α
  l2 : α
  l3 : α
  l4 : α
deriving DecidableEq, Repr

/-- One value for each of the four monitors. -/
structure PerMon (α : Type) where
  m1 : α
  m2 : α
  m3 : α
  m4 : α
deriving DecidableEq, Repr

/-! ## Sets, held as the masks the messages carry (R173) -/

/-- A set of plies: bit p − 1 for ply p (Table 11-7). -/
abbrev PlyMask := BitVec 6

/-- A set of lanes: bit l − 1 for lane l. -/
abbrev LaneSet := BitVec 4

/-- A set of void causes: bit b for the cause in row b + 1 of Table 5-6 (Table 11-8). -/
abbrev CauseSet := BitVec 15

/-- A set of stop causes, in the order of Table 10-6 (R173: three bytes). -/
abbrev StopSet := BitVec 17

/-- A set of attention classes: bit b for the class in row b + 1 of Table 11-2 (R181). -/
abbrev AttentionSet := BitVec 10

/-- The void causes, in the order of Table 5-6. -/
inductive VoidCause where
  | splice | register | noMark | plyMissing | headOverrun | headLate | headFault | headNoReply | driverDown
  | misread | noRead | aborted | reversed | reset | power
deriving DecidableEq, Repr

/-- The blank causes (R73, Table 5-5). -/
inductive BlankCause where
  | spliceAhead | feedStarved | held | waitMakeUp | bankEnd | countEnd
deriving DecidableEq, Repr

/-- The stop causes of Table 10-6. -/
inductive StopCause where
  | markLost (p : Ply)
  | driverDown (d : Driver)
  | voidReserve
  | changeover
  | reversed
  | monitor (n : Mon)
  | feedStarved
deriving DecidableEq, Repr

/-- The attention classes, in the order of Table 11-2. -/
inductive Attention where
  | jobEnd | voidReady | makeUp | feedLow | stop | drift | monitor | changeover | resetDone | recovery
deriving DecidableEq, Repr

/-! ## Web Tracker -/

/-- Reverse-excursion states (Table 1-1). -/
inductive Excursion where
  | none | backing | excursion
deriving DecidableEq, Repr

/-- Web Tracker states (R5). -/
inductive TrackerState where
  | free | originPending | tracking
deriving DecidableEq, Repr

/-- What a scheduled position is for, and so which block scheduled it (R2). -/
inductive PosEvent where
  | windowEnd (p : Ply)
  | zoneExpiry (p : Ply)
  | send (p : Ply) (row : Nat)
  | merge (row : Nat)
  | marker (row : Nat)
  | delivery (row : Nat)
  | pulseEnd (l : Lane)
deriving DecidableEq, Repr

/-- One kept position (R2). It is due, that is raised and not yet taken by its owner, once H has reached it. -/
structure Scheduled where
  pos : Pos
  ev : PosEvent
deriving DecidableEq, Repr

/-- A geometry epoch (Table 1-3), with the ply mask of the job that opened it. `o0` is absent in ORIGIN_PENDING.
Rt_min = floor(R/50) is `rtMin` of it. -/
structure Epoch where
  repeatUm : Nat
  mask : PlyMask
  refPly : Ply
  dRef : Nat
  o0 : Option Pos
deriving DecidableEq, Repr

/-- The row and register error of a mark that has a row. -/
structure RowError where
  k : Nat
  e : Int
deriving DecidableEq, Repr

/-- One mark in a capture slot (Table 1-9): k and e are both present or both absent. -/
structure CaptureRecord where
  row : Option RowError
  c : Pos
deriving DecidableEq, Repr

/-- Mark capture (Table 1-8): sixteen slots. -/
structure Capture where
  ply : Option Ply
  enabled : Bool
  index : Nat
  slots : List (Option CaptureRecord)
deriving DecidableEq, Repr

/-- Web Tracker (Table 1-11). The Tracker state is FREE without an epoch, ORIGIN_PENDING with an epoch whose origin
is absent, TRACKING with one whose origin is set (R5). -/
structure Tracker where
  a : Pos
  h : Pos
  excursion : Excursion
  epoch : Option Epoch
  schedule : List Scheduled
  v : Nat
  x : Nat
  reverseLimit : Nat
  capture : Capture
deriving DecidableEq, Repr

/-! ## Ply settings and the Mark Unit -/

/-- The settings of a ply given by Set Ply (R22, R41, R98, R114), in ticks but for `reader`. -/
structure PlySettings where
  d : Nat
  l : Nat
  q : Nat
  s : Nat
  mb : Nat
  ma : Nat
  reader : Bool
  w : Nat
  t : Nat
  driftLimit : Nat
deriving DecidableEq, Repr

/-- Sync states of a ply (Table 2-2). -/
inductive SyncState where
  | off | seeking | locked | coasting | lost
deriving DecidableEq, Repr

/-- The expected mark E with the row, or pre-job row, of the mark that set it (R35, R36). -/
structure Expected where
  pos : Pos
  row : Int
deriving DecidableEq, Repr

/-- The last accepted mark of a ply (Table 2-1). -/
structure LastMark where
  c : Pos
  row : Option RowError
deriving DecidableEq, Repr

/-- The spacing reference: a position G and a distance g (R25). -/
structure Spacing where
  pos : Pos
  dist : Int
deriving DecidableEq, Repr

/-- The six counts of a ply in the Mark Unit (Table 2-1), 32-bit and saturating. -/
structure MarkCounts where
  accepted : Nat
  spurious : Nat
  retravel : Nat
  duplicate : Nat
  flywheel : Nat
  outOfTolerance : Nat
deriving DecidableEq, Repr

/-- Mark Unit state of one ply (Table 2-1). The sync state follows from the rest (Table 2-2). -/
structure MarkPly where
  expected : Option Expected
  missed : Nat
  trend : Int
  last : Option LastMark
  spacing : Option Spacing
  lastRow : Option Nat
  drift : Bool
  counts : MarkCounts
deriving DecidableEq, Repr

/-- A spoil zone (R42), both ends included, with the expiry position scheduled for it (R45). -/
structure Zone where
  start : Pos
  stop : Pos
  expiry : Pos
deriving DecidableEq, Repr

/-! ## Plans and the Number Generator -/

/-- Number direction of a plan. -/
inductive Direction where
  | up | down
deriving DecidableEq, Repr

/-- Lane mode of a plan (R55, R56). -/
inductive LaneMode where
  | interleaved | banked
deriving DecidableEq, Repr

/-- Check scheme of a plan (R57). -/
inductive CheckScheme where
  | none | mod7 | mod10w
deriving DecidableEq, Repr

/-- Where a plan takes its numbers from (R51). -/
inductive SourceKind where
  | sequence | list
deriving DecidableEq, Repr

/-- Accounting mode of a plan. -/
inductive Accounting where
  | strict | logOnly
deriving DecidableEq, Repr

/-- Read policy of a plan (R121). -/
inductive ReadPolicy where
  | off | lenient | strict
deriving DecidableEq, Repr

/-- The fields of a plan (Table 4-1). -/
structure Plan where
  width : Nat
  first : Nat
  step : Nat
  direction : Direction
  count : Nat
  lanes : Nat
  mode : LaneMode
  check : CheckScheme
  source : SourceKind
  accounting : Accounting
  policy : ReadPolicy
  repeatUm : Nat
  mask : PlyMask
deriving DecidableEq, Repr

/-- Phases of the running job (R53). -/
inductive Phase where
  | sequence | makeUp
deriving DecidableEq, Repr

/-- Number Generator (Table 4-2). The served job is the RUNNING job, the make-up cursor is the oldest WAITING entry of
it in the MAKEUP phase, and the feed's job follows from the Job Table (R63): these are views of the rest. Phase, r, list count
and draw complete have no meaning while no job is served (R53, Table 4-9); what they hold then is a DESIGN CHOICE, log entry 29. -/
structure Generator where
  phase : Phase
  r : Nat
  listCount : Nat
  complete : Bool
  feed : List Nat
  lowMark : Nat
deriving DecidableEq, Repr

/-! ## Row Pipeline -/

/-- Source of a numbered lane (Table 5-2). -/
inductive LaneSource where
  | sequence
  | list
  | makeUp (attempt : Nat)
deriving DecidableEq, Repr

/-- What a draw gives a numbered lane: its number, printed string, whether the string ends in a check digit, and its
source. -/
structure LaneNumber where
  n : Nat
  str : List Digit
  checked : Bool
  source : LaneSource
deriving DecidableEq, Repr

/-- A lane record (Table 5-2); a blank lane has no number. -/
structure LaneRec where
  number : Option LaneNumber
  causes : CauseSet
  marked : Bool
deriving DecidableEq, Repr

/-- Form assignment of a ply on a row (R75). -/
inductive Assignment where
  | none
  | mark (c : Pos) (e : Int)
  | flywheel (pos : Pos)
deriving DecidableEq, Repr

/-- Order states of a ply record (Table 5-3). `late true` is LATE on a reply, `late false` LATE given at merge. -/
inductive OrderState where
  | notDue | scheduled | sent | done
  | late (onReply : Bool)
  | fault (lanes : List Nat)
  | overrun | noReply | notSentDown
deriving DecidableEq, Repr

/-- Read states of a lane on a ply (R75). -/
inductive ReadState where
  | noneExpected | awaited | matched | misread | noRead
deriving DecidableEq, Repr

/-- A ply record of a row (R75). -/
structure PlyRec where
  ply : Ply
  assign : Assignment
  order : OrderState
  reads : PerLane ReadState
deriving DecidableEq, Repr

/-- Row kinds (Table 5-1). -/
inductive RowKind where
  | numbered | partialRow | blank
deriving DecidableEq, Repr

/-- Stages of a row (R73). -/
inductive Stage where
  | opened | merged | marked
deriving DecidableEq, Repr

/-- A row record (Table 5-1), with the counts the Tally and Monitor Unit keeps for it (R163). -/
structure Row where
  k : Nat
  origin : Pos
  job : Nat
  kind : RowKind
  blank : Option BlankCause
  lanes : List LaneRec
  plies : List PlyRec
  stage : Stage
  misreads : Nat
  headFaults : Nat
deriving DecidableEq, Repr

/-- Row Pipeline (R73, R76, R170): the rows oldest first, and the void-marker outputs it drives. The in-flight counts
are the numbered lanes of the rows. -/
structure Pipeline where
  rows : List Row
  nextIndex : Option Nat
  reserve : Bool
  formsDiscarded : Nat
  markers : PerLane Bool
deriving DecidableEq, Repr

/-- What a draw answers: the lane entries of the row, and the blank cause where a lane is blank (R59, R60, R65, R69). -/
structure Drawn where
  lanes : List LaneRec
  blank : Option BlankCause
deriving DecidableEq, Repr

/-! ## Imprint Unit and head link -/

/-- Orientation of a driver (Table 6-2). -/
inductive Orientation where
  | normal | inverted
deriving DecidableEq, Repr

/-- Driver states (R100). -/
inductive DriverState where
  | ready | suspect | down
deriving DecidableEq, Repr

/-- An outstanding order (Table 6-3). -/
structure Order where
  tag : Byte
  ply : Ply
  row : Nat
  fire : Pos
deriving DecidableEq, Repr

/-- The eleven counts of a driver (Table 6-3), 32-bit and saturating. -/
structure DriverCounts where
  ordersSent : Nat
  done : Nat
  late : Nat
  fault : Nat
  notReady : Nat
  noReply : Nat
  overrun : Nat
  notSentDown : Nat
  abandoned : Nat
  stray : Nat
  linkErrors : Nat
deriving DecidableEq, Repr

/-- A driver's settings (Table 6-2) and state (Table 6-3). -/
structure DriverRec where
  orientation : Orientation
  lead : Nat
  dropClass : Nat
  state : DriverState
  orders : List Order
  noReply : Nat
  nextTag : Byte
  counts : DriverCounts
deriving DecidableEq, Repr

/-- A pending send request (R101). -/
structure SendRequest where
  ply : Ply
  row : Nat
  send : Pos
  fire : Pos
deriving DecidableEq, Repr

/-- A lane entry of an IMPRINT order: the lane number and its digits in the driver's order (R103). -/
structure LaneEntry where
  lane : Nat
  digits : List Digit
deriving DecidableEq, Repr

/-- The IMPRINT message (Table 6-1, R103). -/
structure ImprintOrder where
  tag : Byte
  ply : Ply
  row : Nat
  fire : Pos
  send : Pos
  dropClass : Nat
  lanes : List LaneEntry
deriving DecidableEq, Repr

/-- A message the controller sends on the head link, with the driver it addresses (Table 6-1). -/
inductive HeadMessage where
  | imprint (d : Driver) (order : ImprintOrder)
  | sync (d : Driver) (a : Pos) (h : Pos)
deriving DecidableEq, Repr

/-! ## Read Unit -/

/-- An expectation (R115). -/
structure Expectation where
  row : Nat
  pos : Pos
  awaited : LaneSet
deriving DecidableEq, Repr

/-- The seven counts of a ply in the Read Unit (R115), 32-bit and saturating. -/
structure ReadCounts where
  results : Nat
  matched : Nat
  misread : Nat
  noRead : Nat
  stray : Nat
  retravel : Nat
  readErrors : Nat
deriving DecidableEq, Repr

/-- Read Unit state of one ply (R115). -/
structure ReaderPly where
  expectations : List Expectation
  counts : ReadCounts
deriving DecidableEq, Repr

/-! ## Job Table -/

/-- Job states (R124). -/
inductive JobState where
  | loaded | running | draining | ended
deriving DecidableEq, Repr

/-- End reasons (R139); the first three are also the drain reasons (R124). -/
inductive EndReason where
  | complete | halted | aborted | reset | cancelled
deriving DecidableEq, Repr

/-- The draw values handed back by the Generator (R54). -/
structure DrawValues where
  r : Nat
  listCount : Nat
  discarded : Nat
deriving DecidableEq, Repr

/-- The eight audit tallies (Table 8-3), 32-bit and saturating. -/
structure JobTallies where
  rows : Nat
  drawn : Nat
  withdrawn : Nat
  good : Nat
  void : Nat
  blank : Nat
  makeUpDrawn : Nat
  feedIn : Nat
deriving DecidableEq, Repr

/-- The end record of a job (R139). -/
structure EndRecord where
  job : Nat
  reason : EndReason
  tallies : JobTallies
  nextIndex : Nat
  feedConsumed : Nat
  makeUpOutstanding : Nat
  feedDiscarded : Nat
deriving DecidableEq, Repr

/-- A job record (Table 8-1). -/
structure Job where
  id : Nat
  owner : Port
  plan : Plan
  follow : Bool
  state : JobState
  drain : Option EndReason
  draw : Option DrawValues
  tallies : JobTallies
  endRec : Option EndRecord
deriving DecidableEq, Repr

/-! ## Audit Store -/

/-- Operating conditions (Table 9-1). -/
inductive Condition where
  | recovering | normal | resetting | saving | saved
deriving DecidableEq, Repr

/-- A void record (Table 9-2). Its number, printed string, source and attempt are `lane`. -/
structure VoidRecord where
  sequence : Nat
  job : Nat
  owner : Port
  row : Nat
  laneNo : Nat
  lane : LaneNumber
  causes : CauseSet
  unmarked : Bool
  notQueued : Bool
  exhausted : Bool
  retire : Pos
deriving DecidableEq, Repr

/-- States of a make-up entry (Table 9-3). -/
inductive EntryState where
  | waiting | issued | unresolved
deriving DecidableEq, Repr

/-- A make-up entry (Table 9-3). -/
structure MakeUpEntry where
  job : Nat
  number : Nat
  lane : Nat
  attempts : Nat
  state : EntryState
deriving DecidableEq, Repr

/-- States of a recovery record (R153). -/
inductive RecordState where
  | opened | clean | unclean
deriving DecidableEq, Repr

/-- A recovery record (Table 9-4). -/
structure RecoveryRecord where
  job : Nat
  owner : Port
  plan : Plan
  state : RecordState
  r : Nat
  retiredRows : Nat
  listCount : Nat
  retiredList : Nat
  drawn : Nat
  withdrawn : Nat
  good : Nat
  void : Nat
deriving DecidableEq, Repr

/-- How far a warm reset in progress has gone through the steps of R155: the pipeline emptied (steps 1 and 2), the jobs ended
too (step 3), or the blocks cleared too (step 4), with only the end of the reset to come. -/
inductive ResetStage where
  | emptied | ended | cleared
deriving DecidableEq, Repr

/-- Audit Store: the operating condition (R144), the visible void records and the appends in flight, oldest first
(R146, R147), the notify level, the make-up queue (R150) and the recovery records (R153). `resetDue` says that a reset
waits for the end of a save (R156), `resetNotQueued` that a record appended by the reset in progress was flagged
NOT_QUEUED (R155 step 5), and `resetStage`, which bears on RESETTING alone, how far that reset has gone. -/
structure AuditStore where
  condition : Condition
  voids : List VoidRecord
  inFlight : List VoidRecord
  notifyLevel : Nat
  queue : List MakeUpEntry
  records : List RecoveryRecord
  resetDue : Bool
  resetNotQueued : Bool
  resetStage : ResetStage
deriving DecidableEq, Repr

/-! ## Tally and Monitor Unit, Stop Unit -/

/-- The eight shift tallies (Table 10-1), 32-bit and saturating. -/
structure ShiftTallies where
  rows : Nat
  good : Nat
  void : Nat
  blank : Nat
  marksSpurious : Nat
  readsStray : Nat
  splices : Nat
  repliesStray : Nat
deriving DecidableEq, Repr

/-- Monitor sources (Table 10-2). -/
inductive MonitorSource where
  | none
  | lanesVoid
  | voidCause (c : VoidCause)
  | lanesBlank
  | blankCause (b : BlankCause)
  | misreads | flywheels | headFaults
deriving DecidableEq, Repr

/-- A monitor (R162): its settings, counter, previous-row condition and ALARMS count. -/
structure Monitor where
  source : MonitorSource
  threshold : Nat
  invert : Bool
  edge : Bool
  consecutive : Bool
  level : Nat
  stopEnable : Bool
  counter : Nat
  previous : Bool
  alarms : Nat
deriving DecidableEq, Repr

/-- Stop Unit (R166): latched, mask and held flags, and the line-stop request output (R167). -/
structure StopUnit where
  latched : StopSet
  mask : StopSet
  held : StopSet
  output : Bool
deriving DecidableEq, Repr

/-! ## Port Unit -/

/-- Receiver states (R172). `got` are the bytes gathered since the start byte, oldest first. -/
inductive Receiver where
  | hunting
  | inFrame (got : List Byte)
deriving DecidableEq, Repr

/-- A received request (R172): its kind byte, tag and body. -/
structure Request where
  kind : Byte
  tag : Byte
  body : List Byte
deriving DecidableEq, Repr

/-- Refusal reasons (Table 11-5). -/
inductive Reason where
  | unknownKind | badLength | range | notOwner | notPermitted | notNext | wrongState | noSuchJob | geometry | plies
  | duplicateId | full
deriving DecidableEq, Repr

/-- Reply classes (Table 11-5). -/
inductive ReplyClass where
  | ok | held | busy | notReady
  | refused (why : Reason)
deriving DecidableEq, Repr

/-- Summary values (R179). -/
inductive Summary where
  | full | attention | ready
deriving DecidableEq, Repr

/-- What Query Job reports of a job that has not ended (R137). `place` counts from 0, the oldest record. -/
structure JobReport where
  job : Job
  place : Nat
  gen : Generator
  inFlight : Nat
  rows : Nat
deriving DecidableEq, Repr

/-- What Read Line reports (R179). -/
structure LineReport where
  v : Nat
  x : Nat
  reverseLimit : Nat
  a : Pos
  h : Pos
  tracker : TrackerState
  excursion : Excursion
  epoch : Option Epoch
deriving DecidableEq, Repr

/-- What Read Reader reports (R123). -/
structure ReaderReport where
  q : Nat
  reader : Bool
  orientation : Orientation
  count : Nat
  expectations : List Expectation
  counts : ReadCounts
deriving DecidableEq, Repr

/-- What Line Summary reports (R179). -/
structure SummaryReport where
  summary : Summary
  running : Nat
  tracker : TrackerState
  stopOutput : Bool
  pending : Option AttentionSet
deriving DecidableEq, Repr

/-- The data of a reply: the fields the owning rule names (R173). -/
inductive ReplyData where
  | none
  | endRecord (e : EndRecord)
  | job (r : JobReport)
  | voids (visible : Nat) (inFlight : Nat) (records : List VoidRecord)
  | remaining (n : Nat)
  | makeUp (count : Nat) (entries : List MakeUpEntry)
  | removed (n : Nat)
  | recovery (records : List RecoveryRecord)
  | line (r : LineReport)
  | ply (settings : PlySettings) (sync : SyncState) (m : MarkPly)
  | driver (r : DriverRec)
  | reader (r : ReaderReport)
  | capture (ply : Option Ply) (enabled : Bool) (index : Nat) (slots : List (Option CaptureRecord))
  | stop (latched mask held : StopSet) (output : Bool)
  | latched (set : StopSet)
  | monitor (m : Monitor)
  | shift (t : ShiftTallies) (formsDiscarded : Nat)
  | jobTallies (state : JobState) (t : JobTallies)
  | pending (set : AttentionSet)
  | summary (r : SummaryReport)
deriving DecidableEq, Repr

/-- A reply: its class, its reason and its data. -/
structure Reply where
  cls : ReplyClass
  data : ReplyData
deriving DecidableEq, Repr

/-- A reply frame before it is coded: the request's kind and tag, and the reply (R173). -/
structure ReplyFrame where
  kind : Byte
  tag : Byte
  reply : Reply
deriving DecidableEq, Repr

/-- What the transmitter is sending: the oldest formed reply, or an ATTENTION notice with its contents (R178). -/
inductive Sending where
  | reply
  | notice (set : AttentionSet)
deriving DecidableEq, Repr

/-- One port (R172, R174, R178): its receiver, held requests, the formed replies not yet sent (the one being sent among
them), what is being sent, the pending set and whether a notice is unsent. -/
structure PortState where
  receiver : Receiver
  held : List Request
  replies : List ReplyFrame
  sending : Option Sending
  pending : AttentionSet
  unsent : Bool
deriving DecidableEq, Repr

end Sys2Proof.Machine
end

