-- ==== Sys2Proof/Machine/PowerUp.lean ====
section
/-! DEFINITION. The power-up values of each block, as its chapter gives them. POWER_UP and the reset state share them. -/

namespace Sys2Proof.Machine

/-- Mark capture at power-up and at warm reset (R15, Table 1-8): no ply, not enabled, index 0, all slots empty. -/
def powerUpCapture : Capture :=
  { ply := none, enabled := false, index := 0, slots := List.replicate 16 none }

/-- Web Tracker at power-up (R19, Table 1-11): A and H are 0, FREE, reverse limit 200 ticks. -/
def powerUpTracker : Tracker :=
  { a := 0, h := 0, excursion := .none, epoch := none, schedule := [], v := 0, x := 0, reverseLimit := 200,
    capture := powerUpCapture }

/-- The same value for every ply. -/
def PerPly.all {α : Type} (x : α) : PerPly α := ⟨x, x, x, x, x, x⟩

/-- The same value for every driver. -/
def PerDriver.all {α : Type} (x : α) : PerDriver α := ⟨x, x, x⟩

/-- The same value for every lane. -/
def PerLane.all {α : Type} (x : α) : PerLane α := ⟨x, x, x, x⟩

/-- The same value for every monitor. -/
def PerMon.all {α : Type} (x : α) : PerMon α := ⟨x, x, x, x⟩

/-- The settings of a ply at power-up (Tables 2-3, 3-1, 6-2 and 7-1). -/
def powerUpPly : PlySettings :=
  { d := 0, l := 0, q := 0, s := 0, mb := 1000, ma := 1000, reader := false, w := 200, t := 40, driftLimit := 0 }

/-- Mark Unit state of a ply at power-up (Table 2-6). -/
def powerUpMark : MarkPly :=
  { expected := none, missed := 0, trend := 0, last := none, spacing := none, lastRow := none, drift := false,
    counts := ⟨0, 0, 0, 0, 0, 0⟩ }

/-- Number Generator at power-up (Table 4-2). -/
def powerUpGenerator : Generator :=
  { phase := .sequence, r := 0, listCount := 0, complete := false, feed := [], lowMark := 64 }

/-- Row Pipeline at power-up (R76), with every void-marker output deasserted (R170). -/
def powerUpPipeline : Pipeline :=
  { rows := [], nextIndex := none, reserve := false, formsDiscarded := 0, markers := PerLane.all false }

/-- A driver at power-up (Table 6-7): SUSPECT, since its condition is unknown until it answers (R111). -/
def powerUpDriver : DriverRec :=
  { orientation := .normal, lead := 200, dropClass := 2, state := .suspect, orders := [], noReply := 0, nextTag := 0,
    counts := ⟨0, 0, 0, 0, 0, 0, 0, 0, 0, 0, 0⟩ }

/-- Read Unit state of a ply at power-up (R115). -/
def powerUpReader : ReaderPly :=
  { expectations := [], counts := ⟨0, 0, 0, 0, 0, 0, 0⟩ }

/-- Audit tallies of a newly loaded job (R127, R140). -/
def zeroTallies : JobTallies := ⟨0, 0, 0, 0, 0, 0, 0, 0⟩

/-- Shift tallies at power-up and after Clear Shift (R160, R161). -/
def zeroShift : ShiftTallies := ⟨0, 0, 0, 0, 0, 0, 0, 0⟩

/-- A monitor at power-up (R162, Table 10-2). -/
def powerUpMonitor : Monitor :=
  { source := .none, threshold := 0, invert := false, edge := false, consecutive := false, level := 65535,
    stopEnable := false, counter := 0, previous := false, alarms := 0 }

/-- The default stop mask (Table 10-6): every cause enabled but FEED_STARVED, bit 16. -/
def defaultStopMask : StopSet := 0x0ffff

/-- Stop Unit at power-up (R169). -/
def powerUpStop : StopUnit :=
  { latched := 0, mask := defaultStopMask, held := 0, output := false }

/-- A port at power-up (R172, R178, R180). -/
def powerUpPort : PortState :=
  { receiver := .hunting, held := [], replies := [], sending := none, pending := 0, unsent := false }

/-- Audit Store when the controller is first put into service (R146, R150, R153), at power-up: RECOVERING (R144),
notify level 1 (R147). -/
def powerUpAudit : AuditStore :=
  { condition := .recovering, voids := [], inFlight := [], notifyLevel := 1, queue := [], records := [],
    resetDue := false, resetNotQueued := false, resetStage := .cleared }

/-- The strap values of the reset state. The spec leaves them to the pins (R180). DESIGN CHOICE, log entry 1. -/
def resetStraps : Straps :=
  { plies := .p6, panel := .full, rate := .baud19200, hold := .defer }

end Sys2Proof.Machine
end

