-- ==== Sys2Proof/Machine/State.lean ====
section
/-! DEFINITION. The state of the NC-640: one field for each block of Table 0-2, the straps, the level of the power-fail
warning, the history of the head link, and the queue of commands that wait. -/

namespace Sys2Proof.Machine

/-- Faults. The NC-640 stops on none: an event or message that a rule does not take is disregarded, counted or refused
by a reply, and the controller goes on. No command raises a fault, so the type has no constructor. -/
inductive Fault where
deriving DecidableEq, Repr

/-- Refusals. -/
inductive Refusal where
  /-- A command that has no meaning in the model yet: raised by `exec`'s arm for it. Safe: the model stops where the
  controller goes on. No arm answers it, since every command has its meaning. -/
  | notModelled (mnemonic : String)
deriving DecidableEq, Repr

/-- The state of the controller. -/
structure State where
  /-- Strap values sampled at power-up (R180). -/
  straps : Straps
  /-- Web Tracker (R1 to R20). -/
  trk : Tracker
  /-- Settings of each ply (R22, R41, R98, R114). -/
  plies : PerPly PlySettings
  /-- Mark Unit, per ply (R21). -/
  marks : PerPly MarkPly
  /-- Splice Unit: the zone list of each ply, oldest first (R42). -/
  zones : PerPly (List Zone)
  /-- Number Generator (R53). -/
  gen : Generator
  /-- Row Pipeline (R73, R76). -/
  pipe : Pipeline
  /-- Imprint Unit, per driver (R98, R100). -/
  drivers : PerDriver DriverRec
  /-- Imprint Unit: the pending send requests (R101). -/
  requests : List SendRequest
  /-- Read Unit, per ply (R115). -/
  readers : PerPly ReaderPly
  /-- Job Table: the records in load order, oldest first; a slot is EMPTY for each record short of four (R124). -/
  jobs : List Job
  /-- Audit Store (R144 to R158). -/
  audit : AuditStore
  /-- Shift tallies (R160). -/
  shift : ShiftTallies
  /-- Event monitors (R162). -/
  monitors : PerMon Monitor
  /-- Stop Unit (R166). -/
  stop : StopUnit
  /-- The line port. -/
  line : PortState
  /-- The panel port. -/
  panel : PortState
  /-- Messages sent on the head link since power-up, oldest first. The MODEL's own: the output of the link (log 6). -/
  headLink : List HeadMessage
  /-- Level of the power-fail warning input (R158). -/
  powerFail : Bool
  /-- Count of free choices taken. The MODEL's own: it selects values of `Config.freeChoice` (log 3). -/
  freeIndex : Nat
  /-- Commands that wait, first in, first out. The MODEL's own. -/
  pending : List Instr
deriving DecidableEq, Repr

/-- The controller as power is first applied: every block at its power-up value, the nonvolatile collections empty as
when first put into service, the condition RECOVERING (R19, R40, R72, R76, R111, R115, R124, R144, R158, R160, R162,
R169, R180). The strap values are a DESIGN CHOICE (log 1). -/
def State.reset : State :=
  { straps := resetStraps
    trk := powerUpTracker
    plies := PerPly.all powerUpPly
    marks := PerPly.all powerUpMark
    zones := PerPly.all []
    gen := powerUpGenerator
    pipe := powerUpPipeline
    drivers := PerDriver.all powerUpDriver
    requests := []
    readers := PerPly.all powerUpReader
    jobs := []
    audit := powerUpAudit
    shift := zeroShift
    monitors := PerMon.all powerUpMonitor
    stop := powerUpStop
    line := powerUpPort
    panel := powerUpPort
    headLink := []
    powerFail := false
    freeIndex := 0
    pending := [] }

end Sys2Proof.Machine
end

