-- ==== Sys2Proof/Machine/Ops.lean ====
section
/-! DEFINITION. The named operations over the state that every block shares: numbers of plies, lanes, drivers and
monitors; positions and the row schedule; sets; saturating counts; access to records. -/

namespace Sys2Proof

/-! ## Plies, drivers, lanes and monitors by number -/

/-- Place of a ply in a mask, from 0. -/
def Ply.index : Ply → Nat
  | .p1 => 0 | .p2 => 1 | .p3 => 2 | .p4 => 3 | .p5 => 4 | .p6 => 5

/-- The ply's number, 1 to 6. -/
def Ply.number (p : Ply) : Nat := p.index + 1

/-- The plies in increasing number. -/
def Ply.all : List Ply := [.p1, .p2, .p3, .p4, .p5, .p6]

/-- The ply of a number, none outside 1 to 6. -/
def Ply.ofNumber (n : Nat) : Option Ply := Ply.all.find? (fun p => decide (p.number = n))

/-- Driver d serves plies 2d − 1 and 2d (00_scope, Plies, Lanes, Drivers and Rows). -/
def Ply.driver : Ply → Driver
  | .p1 => .d1 | .p2 => .d1 | .p3 => .d2 | .p4 => .d2 | .p5 => .d3 | .p6 => .d3

/-- Place of a driver, from 0. -/
def Driver.index : Driver → Nat
  | .d1 => 0 | .d2 => 1 | .d3 => 2

/-- The driver's number, 1 to 3. -/
def Driver.number (d : Driver) : Nat := d.index + 1

/-- The drivers in increasing number. -/
def Driver.all : List Driver := [.d1, .d2, .d3]

/-- The driver of a number, none outside 1 to 3. -/
def Driver.ofNumber (n : Nat) : Option Driver := Driver.all.find? (fun d => decide (d.number = n))

/-- Place of a lane, from 0. -/
def Lane.index : Lane → Nat
  | .l1 => 0 | .l2 => 1 | .l3 => 2 | .l4 => 3

/-- The lane's number, 1 to 4. -/
def Lane.number (l : Lane) : Nat := l.index + 1

/-- The lanes in increasing number. -/
def Lane.all : List Lane := [.l1, .l2, .l3, .l4]

/-- The lane of a number, none outside 1 to 4. -/
def Lane.ofNumber (n : Nat) : Option Lane := Lane.all.find? (fun l => decide (l.number = n))

/-- Place of a monitor, from 0. -/
def Mon.index : Mon → Nat
  | .m1 => 0 | .m2 => 1 | .m3 => 2 | .m4 => 3

/-- The monitors in increasing number. -/
def Mon.all : List Mon := [.m1, .m2, .m3, .m4]

/-- The monitor of a number, none outside 1 to 4. -/
def Mon.ofNumber (n : Nat) : Option Mon := Mon.all.find? (fun m => decide (m.index + 1 = n))

/-- The ply is installed by the PLIES strap (R180). -/
def Straps.installed (st : Straps) (p : Ply) : Bool := decide (p.index ≤ st.plies.index)

/-- A driver is installed when either of its plies is (R180). -/
def Straps.driverInstalled (st : Straps) (d : Driver) : Bool :=
  Ply.all.any (fun p => decide (p.driver = d) && st.installed p)

namespace Machine

/-- The value for one ply. -/
def PerPly.get {α : Type} (x : PerPly α) : Ply → α
  | .p1 => x.p1 | .p2 => x.p2 | .p3 => x.p3 | .p4 => x.p4 | .p5 => x.p5 | .p6 => x.p6

/-- The family with one ply's value replaced. -/
def PerPly.set {α : Type} (x : PerPly α) (p : Ply) (v : α) : PerPly α :=
  match p with
  | .p1 => { x with p1 := v } | .p2 => { x with p2 := v } | .p3 => { x with p3 := v }
  | .p4 => { x with p4 := v } | .p5 => { x with p5 := v } | .p6 => { x with p6 := v }

/-- The family with a function applied to every ply's value. -/
def PerPly.map {α β : Type} (f : α → β) (x : PerPly α) : PerPly β :=
  ⟨f x.p1, f x.p2, f x.p3, f x.p4, f x.p5, f x.p6⟩

/-- The value for one driver. -/
def PerDriver.get {α : Type} (x : PerDriver α) : Driver → α
  | .d1 => x.d1 | .d2 => x.d2 | .d3 => x.d3

/-- The family with one driver's value replaced. -/
def PerDriver.set {α : Type} (x : PerDriver α) (d : Driver) (v : α) : PerDriver α :=
  match d with
  | .d1 => { x with d1 := v } | .d2 => { x with d2 := v } | .d3 => { x with d3 := v }

/-- The family with a function applied to every driver's value. -/
def PerDriver.map {α β : Type} (f : α → β) (x : PerDriver α) : PerDriver β := ⟨f x.d1, f x.d2, f x.d3⟩

/-- The value for one lane. -/
def PerLane.get {α : Type} (x : PerLane α) : Lane → α
  | .l1 => x.l1 | .l2 => x.l2 | .l3 => x.l3 | .l4 => x.l4

/-- The family with one lane's value replaced. -/
def PerLane.set {α : Type} (x : PerLane α) (l : Lane) (v : α) : PerLane α :=
  match l with
  | .l1 => { x with l1 := v } | .l2 => { x with l2 := v } | .l3 => { x with l3 := v } | .l4 => { x with l4 := v }

/-- The family with a function applied to every lane's value. -/
def PerLane.map {α β : Type} (f : α → β) (x : PerLane α) : PerLane β := ⟨f x.l1, f x.l2, f x.l3, f x.l4⟩

/-- The value for one monitor. -/
def PerMon.get {α : Type} (x : PerMon α) : Mon → α
  | .m1 => x.m1 | .m2 => x.m2 | .m3 => x.m3 | .m4 => x.m4

/-- The family with one monitor's value replaced. -/
def PerMon.set {α : Type} (x : PerMon α) (m : Mon) (v : α) : PerMon α :=
  match m with
  | .m1 => { x with m1 := v } | .m2 => { x with m2 := v } | .m3 => { x with m3 := v } | .m4 => { x with m4 := v }

/-- The family with a function applied to every monitor's value. -/
def PerMon.map {α β : Type} (f : α → β) (x : PerMon α) : PerMon β := ⟨f x.m1, f x.m2, f x.m3, f x.m4⟩

/-! ## Updates of the state, one for each field -/

/-- `s` with `straps` replaced. -/
def State.setStraps (s : State) (x : Straps) : State := { s with straps := x }

/-- `s` with `trk` replaced. -/
def State.setTrk (s : State) (x : Tracker) : State := { s with trk := x }

/-- `s` with `plies` replaced. -/
def State.setPlies (s : State) (x : PerPly PlySettings) : State := { s with plies := x }

/-- `s` with `marks` replaced. -/
def State.setMarks (s : State) (x : PerPly MarkPly) : State := { s with marks := x }

/-- `s` with `zones` replaced. -/
def State.setZones (s : State) (x : PerPly (List Zone)) : State := { s with zones := x }

/-- `s` with `gen` replaced. -/
def State.setGen (s : State) (x : Generator) : State := { s with gen := x }

/-- `s` with `pipe` replaced. -/
def State.setPipe (s : State) (x : Pipeline) : State := { s with pipe := x }

/-- `s` with `drivers` replaced. -/
def State.setDrivers (s : State) (x : PerDriver DriverRec) : State := { s with drivers := x }

/-- `s` with `requests` replaced. -/
def State.setRequests (s : State) (x : List SendRequest) : State := { s with requests := x }

/-- `s` with `readers` replaced. -/
def State.setReaders (s : State) (x : PerPly ReaderPly) : State := { s with readers := x }

/-- `s` with `jobs` replaced. -/
def State.setJobs (s : State) (x : List Job) : State := { s with jobs := x }

/-- `s` with `audit` replaced. -/
def State.setAudit (s : State) (x : AuditStore) : State := { s with audit := x }

/-- `s` with `shift` replaced. -/
def State.setShift (s : State) (x : ShiftTallies) : State := { s with shift := x }

/-- `s` with `monitors` replaced. -/
def State.setMonitors (s : State) (x : PerMon Monitor) : State := { s with monitors := x }

/-- `s` with `stop` replaced. -/
def State.setStop (s : State) (x : StopUnit) : State := { s with stop := x }

/-- `s` with `line` replaced. -/
def State.setLine (s : State) (x : PortState) : State := { s with line := x }

/-- `s` with `panel` replaced. -/
def State.setPanel (s : State) (x : PortState) : State := { s with panel := x }

/-- `s` with `headLink` replaced. -/
def State.setHeadLink (s : State) (x : List HeadMessage) : State := { s with headLink := x }

/-- `s` with `powerFail` replaced. -/
def State.setPowerFail (s : State) (x : Bool) : State := { s with powerFail := x }

/-- `s` with `freeIndex` replaced. -/
def State.setFreeIndex (s : State) (x : Nat) : State := { s with freeIndex := x }

/-- `s` with `pending` replaced. -/
def State.setPending (s : State) (x : List Instr) : State := { s with pending := x }

/-! ## Positions (00_scope, Positions and Travel) -/

/-- The difference of two positions, read as a signed value in −2^39 to 2^39 − 1. -/
def posDiff (p q : Pos) : Int := (p - q).toInt

/-- `p` lies ahead of `q`: their difference, so read, is positive. -/
def isAhead (p q : Pos) : Bool := decide (0 < posDiff p q)

/-- The position `n` ticks ahead of `p`, modulo 2^40. -/
def posFwd (p : Pos) (n : Nat) : Pos := p + BitVec.ofNat 40 n

/-- The position `n` ticks behind `p`, modulo 2^40. -/
def posBack (p : Pos) (n : Nat) : Pos := p - BitVec.ofNat 40 n

/-- The position a signed distance from `p`, modulo 2^40. -/
def posShift (p : Pos) (i : Int) : Pos := p + BitVec.ofInt 40 i

/-- `c` lies in the span from `lo` to `hi`, both included (R46, R47). -/
def inSpan (lo hi c : Pos) : Bool := !isAhead lo c && !isAhead c hi

/-! ## The row schedule -/

/-- floor((k·R + 25)/50): the distance of row k's origin from O0, for negative k too (R11, R26). -/
def rowOffset (repeatUm : Nat) (k : Int) : Int := (k * (repeatUm : Int) + 25) / 50

/-- O(k) (R11). -/
def rowOrigin (o0 : Pos) (repeatUm : Nat) (k : Int) : Pos := posShift o0 (rowOffset repeatUm k)

/-- Rt(k) = O(k + 1) − O(k) (R11, R26). -/
def rowDistance (repeatUm : Nat) (k : Int) : Int := rowOffset repeatUm (k + 1) - rowOffset repeatUm k

/-- Rt_min of the epoch: floor(R/50) (Table 1-3). -/
def Epoch.rtMin (e : Epoch) : Nat := e.repeatUm / 50

/-- The Web Tracker's state (R5). -/
def Tracker.state (t : Tracker) : TrackerState :=
  match t.epoch with
  | none => .free
  | some e => if e.o0.isSome then .tracking else .originPending

/-- The web is re-travelling: A is behind H (R3). -/
def Tracker.retravel (t : Tracker) : Bool := isAhead t.h t.a

/-! ## Counts -/

/-- A 32-bit count that saturates at its largest value (00_scope, Arithmetic). -/
def satAdd (n k : Nat) : Nat := min (n + k) 4294967295

/-! ## Sets -/

/-- Ply p is in the mask. -/
def inMask (m : PlyMask) (p : Ply) : Bool := m.getLsbD p.index

/-- The plies of a mask, in increasing number. -/
def maskPlies (m : PlyMask) : List Ply := Ply.all.filter (inMask m)

/-- Place of a void cause in Table 5-6, from 0. -/
def VoidCause.bit : VoidCause → Nat
  | .splice => 0 | .register => 1 | .noMark => 2 | .plyMissing => 3 | .headOverrun => 4 | .headLate => 5
  | .headFault => 6 | .headNoReply => 7 | .driverDown => 8 | .misread => 9 | .noRead => 10 | .aborted => 11
  | .reversed => 12 | .reset => 13 | .power => 14

/-- The set holds the cause. -/
def CauseSet.has (s : CauseSet) (c : VoidCause) : Bool := s.getLsbD c.bit

/-- The set with the cause added; a cause already in it is not added twice (R74). -/
def CauseSet.insert (s : CauseSet) (c : VoidCause) : CauseSet := s ||| BitVec.twoPow 15 c.bit

/-- The set of the causes of a list. -/
def CauseSet.ofList (cs : List VoidCause) : CauseSet := cs.foldl CauseSet.insert 0#15

/-- Lane l is in the set. -/
def inLanes (s : LaneSet) (l : Lane) : Bool := s.getLsbD l.index

/-- The set without lane l. -/
def dropLane (s : LaneSet) (l : Lane) : LaneSet := s &&& ~~~ (BitVec.twoPow 4 l.index)

/-! ## Rows and lanes -/

/-- The lane is numbered (R74). -/
def LaneRec.isNumbered (l : LaneRec) : Bool := l.number.isSome

/-- A blank lane (R74). -/
def blankLane : LaneRec := { number := none, causes := 0, marked := false }

/-- A numbered lane as a draw gives it: no cause, no marker pulse (R74). -/
def freshLane (n : LaneNumber) : LaneRec := { number := some n, causes := 0, marked := false }

/-- The lane with a cause added; evidence that names a blank lane has no effect on it (R74). -/
def LaneRec.addCause (l : LaneRec) (c : VoidCause) : LaneRec :=
  if l.isNumbered then { l with causes := CauseSet.insert l.causes c } else l

/-- The lane with a set of causes added. -/
def LaneRec.addCauses (l : LaneRec) (cs : CauseSet) : LaneRec :=
  if l.isNumbered then { l with causes := l.causes ||| cs } else l

/-- The lane is numbered and void: its cause set is not empty (R74). -/
def LaneRec.isVoid (l : LaneRec) : Bool := l.isNumbered && decide (l.causes ≠ 0)

/-- The count of numbered lanes among lane records. -/
def countNumbered (ls : List LaneRec) : Nat := (ls.filter LaneRec.isNumbered).length

/-- The count of numbered lanes of a row. -/
def Row.numbered (r : Row) : Nat := countNumbered r.lanes

/-- The numbered lanes of a row, as a set. -/
def Row.numberedSet (r : Row) : LaneSet :=
  Lane.all.foldl (fun m l =>
    match r.lanes[l.index]? with
    | some x => if x.isNumbered then m ||| BitVec.twoPow 4 l.index else m
    | none => m) 0#4

/-- The row with a whole-row cause added to every numbered lane (R83). -/
def Row.addCause (r : Row) (c : VoidCause) : Row := { r with lanes := r.lanes.map (fun l => l.addCause c) }

/-- The row with a cause added to the lanes of the given numbers that are numbered (R83). -/
def Row.addCauseAt (r : Row) (c : VoidCause) (nums : List Nat) : Row :=
  { r with lanes := r.lanes.mapIdx (fun i l => if (i + 1) ∈ nums then l.addCause c else l) }

/-- The ply record of ply p, if the epoch's mask has it. -/
def Row.plyRec (r : Row) (p : Ply) : Option PlyRec := r.plies.find? (fun x => decide (x.ply = p))

/-- The row with ply p's record changed. -/
def Row.updPly (r : Row) (p : Ply) (f : PlyRec → PlyRec) : Row :=
  { r with plies := r.plies.map (fun x => if x.ply = p then f x else x) }

/-- The row is printed: at least one IMPRINT order for it has gone out (R75). -/
def Row.printed (r : Row) : Bool :=
  r.plies.any (fun x =>
    match x.order with
    | .sent | .done | .late true | .fault _ | .noReply => true
    | _ => false)

/-- The row of an index, if the pipeline holds it. -/
def State.row (s : State) (k : Nat) : Option Row := s.pipe.rows.find? (fun r => decide (r.k = k))

/-- The state with the pipeline's rows replaced. -/
def State.setRows (s : State) (rows : List Row) : State := s.setPipe { s.pipe with rows := rows }

/-- The state with row k changed. -/
def State.updRow (s : State) (k : Nat) (f : Row → Row) : State :=
  s.setRows (s.pipe.rows.map (fun r => if r.k = k then f r else r))

/-- The state with row k changed if its stage is OPEN: evidence is taken in that stage alone (R83). -/
def State.updOpenRow (s : State) (k : Nat) (f : Row → Row) : State :=
  s.updRow k (fun r => if r.stage = .opened then f r else r)

/-- Row k is held and its stage is OPEN. -/
def State.rowOpen (s : State) (k : Nat) : Bool :=
  match s.row k with
  | some r => decide (r.stage = .opened)
  | none => false

/-- The pipeline's in-flight count: its numbered lanes (R76). -/
def inFlightOfRows (rows : List Row) : Nat := (rows.map Row.numbered).sum

/-- The pipeline's in-flight count. -/
def State.inFlight (s : State) : Nat := inFlightOfRows s.pipe.rows

/-- The in-flight count of one job (R76). -/
def State.jobInFlight (s : State) (id : Nat) : Nat :=
  inFlightOfRows (s.pipe.rows.filter (fun r => decide (r.job = id)))

/-- The pipeline holds a row of the job. -/
def State.jobHasRow (s : State) (id : Nat) : Bool := s.pipe.rows.any (fun r => decide (r.job = id))

/-! ## Jobs -/

/-- The record of a job id. -/
def State.job (s : State) (id : Nat) : Option Job := s.jobs.find? (fun j => decide (j.id = id))

/-- The RUNNING job; it is the job the Number Generator serves (R53, R125). -/
def State.running (s : State) : Option Job := s.jobs.find? (fun j => decide (j.state = .running))

/-- The oldest LOADED job in load order (R125). -/
def State.oldestLoaded (s : State) : Option Job := s.jobs.find? (fun j => decide (j.state = .loaded))

/-- The state with the record of a job id changed. -/
def State.updJob (s : State) (id : Nat) (f : Job → Job) : State :=
  s.setJobs (s.jobs.map (fun j => if j.id = id then f j else j))

/-- The state with the audit tallies of a job changed (R140). -/
def State.updTallies (s : State) (id : Nat) (f : JobTallies → JobTallies) : State :=
  s.updJob id (fun j => { j with tallies := f j.tallies })

/-! ## Per ply, per driver -/

/-- The state with the Mark Unit state of ply p changed. -/
def State.updMark (s : State) (p : Ply) (f : MarkPly → MarkPly) : State :=
  s.setMarks (s.marks.set p (f (s.marks.get p)))

/-- The state with driver d changed. -/
def State.updDriver (s : State) (d : Driver) (f : DriverRec → DriverRec) : State :=
  s.setDrivers (s.drivers.set d (f (s.drivers.get d)))

/-- The state with one count of driver d raised by one. -/
def State.countDriver (s : State) (d : Driver) (f : DriverCounts → DriverCounts) : State :=
  s.updDriver d (fun r => { r with counts := f r.counts })

/-- The state with the Read Unit state of ply p changed. -/
def State.updReader (s : State) (p : Ply) (f : ReaderPly → ReaderPly) : State :=
  s.setReaders (s.readers.set p (f (s.readers.get p)))

/-- The state with one count of ply p in the Read Unit changed. -/
def State.countRead (s : State) (p : Ply) (f : ReadCounts → ReadCounts) : State :=
  s.updReader p (fun r => { r with counts := f r.counts })

/-- The sync state of ply p (Table 2-2). -/
def State.sync (s : State) (p : Ply) : SyncState :=
  match s.trk.epoch with
  | none => .off
  | some e =>
    if inMask e.mask p then
      match (s.marks.get p).expected with
      | none => .seeking
      | some _ =>
        if (s.marks.get p).missed = 0 then .locked
        else if (s.marks.get p).missed < 8 then .coasting else .lost
    else .off

/-! ## Ports -/

/-- The state of a port. -/
def State.port (s : State) : Port → PortState
  | .line => s.line
  | .panel => s.panel

/-- The state with a port replaced. -/
def State.setPort (s : State) (p : Port) (x : PortState) : State :=
  match p with
  | .line => s.setLine x
  | .panel => s.setPanel x

/-- The port is idle by strap: the panel port under PANEL = ABSENT (R175). -/
def State.portAbsent (s : State) : Port → Bool
  | .line => false
  | .panel => decide (s.straps.panel = .absent)

/-! ## Free choice -/

/-- One of `n` things the spec gives no order of, and the state with the choice counted. One thing, or none, is no
choice. DESIGN CHOICE, log entries 3, 4 and 16. -/
def State.choose (s : State) (n : Nat) : Nat × State :=
  if n ≤ 1 then (0, s) else (Config.freeChoice s.freeIndex % n, s.setFreeIndex (s.freeIndex + 1))

/-- The state with a message sent on the head link. -/
def State.sendHead (s : State) (m : HeadMessage) : State := s.setHeadLink (s.headLink ++ [m])

/-- SYNC to one driver, with the present A and H (Table 6-1). -/
def State.sync1 (s : State) (d : Driver) : State := s.sendHead (.sync d s.trk.a s.trk.h)

/-- SYNC to each of the three drivers (R110, R111). The spec gives them no order; 1, 2, 3 is a DESIGN CHOICE, log entry 22. -/
def State.syncAll (s : State) : State := ((s.sync1 .d1).sync1 .d2).sync1 .d3

end Machine

end Sys2Proof
end

