-- ==== Sys2Proof/Machine/Flags.lean ====
section
/-! DEFINITION. The flags other blocks raise: attentions at the ports (R178) and stop causes with the line-stop request
(R166, R167). -/

namespace Sys2Proof.Machine

/-- Place of an attention class in Table 11-2, from 0. -/
def Attention.bit : Attention → Nat
  | .jobEnd => 0 | .voidReady => 1 | .makeUp => 2 | .feedLow => 3 | .stop => 4 | .drift => 5 | .monitor => 6
  | .changeover => 7 | .resetDone => 8 | .recovery => 9

/-- The set holds the class. -/
def AttentionSet.has (m : AttentionSet) (c : Attention) : Bool := m.getLsbD c.bit

/-- A class raised at a port (R178): nothing if it is pending; else it joins the set, and a notice is queued, or the
one unsent stands. -/
def PortState.raised (x : PortState) (c : Attention) : PortState :=
  if AttentionSet.has x.pending c then x
  else { x with pending := x.pending ||| BitVec.twoPow 10 c.bit, unsent := true }

/-- A class raised at one port; nothing joins the set of a port idle by strap (R175). -/
def State.raiseAt (s : State) (p : Port) (c : Attention) : State :=
  if s.portAbsent p then s else s.setPort p ((s.port p).raised c)

/-- A class raised at both ports (R175, R178). -/
def State.raiseBoth (s : State) (c : Attention) : State := (s.raiseAt .line c).raiseAt .panel c

/-- Place of a stop cause in the mask of Table 10-6, from 0 (R173). -/
def StopCause.bit : StopCause → Nat
  | .markLost p => p.index
  | .driverDown d => 6 + d.index
  | .voidReserve => 9
  | .changeover => 10
  | .reversed => 11
  | .monitor n => 12 + n.index
  | .feedStarved => 16

/-- The set holds the cause. -/
def StopSet.has (m : StopSet) (c : StopCause) : Bool := m.getLsbD c.bit

/-- The set with the cause added. -/
def StopSet.insert (m : StopSet) (c : StopCause) : StopSet := m ||| BitVec.twoPow 17 c.bit

/-- The set without the cause. -/
def StopSet.erase (m : StopSet) (c : StopCause) : StopSet := m &&& ~~~ (BitVec.twoPow 17 c.bit)

/-- The output re-formed: asserted while a cause is both latched and enabled (R167). -/
def StopUnit.reformed (u : StopUnit) : StopUnit := { u with output := decide (u.latched &&& u.mask ≠ 0) }

/-- One change taken by the Stop Unit: the output is re-formed at its end, and STOP is raised at both ports where it
goes from deasserted to asserted (R167). -/
def State.changeStop (s : State) (f : StopUnit → StopUnit) : State :=
  if !s.stop.output && (f s.stop).reformed.output then (s.setStop (f s.stop).reformed).raiseBoth .stop
  else s.setStop (f s.stop).reformed

/-- A report of an event cause: it latches whatever its mask flag (R166). -/
def State.latchEvent (s : State) (c : StopCause) : State :=
  s.changeStop (fun u => { u with latched := StopSet.insert u.latched c })

/-- The start of a level condition (R166): held and latched; nothing if it is held already. -/
def State.startLevel (s : State) (c : StopCause) : State :=
  if StopSet.has s.stop.held c then s
  else s.changeStop (fun u =>
    { u with latched := StopSet.insert u.latched c, held := StopSet.insert u.held c })

/-- The end of a level condition (R166): no longer held, the latched flag as it stands; nothing if it is not held. -/
def State.endLevel (s : State) (c : StopCause) : State :=
  if StopSet.has s.stop.held c then s.changeStop (fun u => { u with held := StopSet.erase u.held c }) else s

/-- Causes unlatched, and each of them that is held latched again within the same change (R168, R169). -/
def StopUnit.cleared (u : StopUnit) (named : StopSet) : StopUnit :=
  { u with latched := (u.latched &&& ~~~ named) ||| (named &&& u.held) }

/-- One shift tally raised (R160). -/
def State.updShift (s : State) (f : ShiftTallies → ShiftTallies) : State := s.setShift (f s.shift)

end Sys2Proof.Machine
end

