-- ==== Sys2Proof/Machine/WebTracker.lean ====
section
/-! DEFINITION. The Web Tracker's operations: the position schedule, mark capture, the geometry check, opening an epoch
and the return to FREE with what the other blocks do at it (R2, R6, R7, R9, R14, R17, R21, R42, R76, R79). -/

namespace Sys2Proof.Machine

/-! ## The position schedule (R2) -/

/-- A position kept with its purpose (R2). An entry at or behind H is due: raised, and to be taken by its owner. -/
def State.scheduleAt (s : State) (pos : Pos) (ev : PosEvent) : State :=
  s.setTrk { s.trk with schedule := s.trk.schedule ++ [⟨pos, ev⟩] }

/-- The kept positions of some purposes withdrawn; a withdrawn position is not raised (R2). -/
def State.unschedule (s : State) (f : PosEvent → Bool) : State :=
  s.setTrk { s.trk with schedule := s.trk.schedule.filter (fun x => !f x.ev) }

/-- The entry is due: H has reached its position (R2). -/
def Tracker.isDue (t : Tracker) (x : Scheduled) : Bool := !isAhead x.pos t.h

/-- The due entry of a purpose, the one kept first if there are several. -/
def Tracker.dueEntry (t : Tracker) (ev : PosEvent) : Option Scheduled :=
  t.schedule.find? (fun x => decide (x.ev = ev) && t.isDue x)

/-- The event of a purpose taken by its owner `h` if it is due, its entry leaving the schedule; nothing if it is not
(R2: a position not reached, or withdrawn, is not raised). `h` is given the position. -/
def State.fire (s : State) (ev : PosEvent) (h : Pos → State → State) : State :=
  match s.trk.dueEntry ev with
  | none => s
  | some x => h x.pos (s.setTrk { s.trk with schedule := s.trk.schedule.erase x })

/-! ## Mark capture (R17) -/

/-- A mark of ply p offered to capture: while capture is enabled and armed for p it writes the slot at the index, which
advances; after slot 15 the index is 0 and capture is off (R17). -/
def State.offerCapture (s : State) (p : Ply) (rec : CaptureRecord) : State :=
  if s.trk.capture.enabled && decide (s.trk.capture.ply = some p) then
    s.setTrk { s.trk with capture :=
      { s.trk.capture with
        slots := s.trk.capture.slots.set s.trk.capture.index (some rec)
        index := if s.trk.capture.index = 15 then 0 else s.trk.capture.index + 1
        enabled := if s.trk.capture.index = 15 then false else true } }
  else s

/-! ## The geometry check and the epoch -/

/-- The reference ply of a mask: the largest D′, the lowest number among equals (R9). -/
def referencePly (plies : PerPly PlySettings) (m : PlyMask) : Option Ply :=
  (maskPlies m).foldl (fun best p =>
    match best with
    | none => some p
    | some b => if (plies.get b).d < (plies.get p).d then some p else some b) none

/-- ceil(n / d) for d above 0. -/
def ceilDiv (n d : Nat) : Nat := (n + d - 1) / d

/-- The geometry check of R14 for a plan. -/
def geometryOk (plies : PerPly PlySettings) (v x : Nat) (plan : Plan) : Bool :=
  match referencePly plies plan.mask with
  | none => false
  | some ref =>
    (maskPlies plan.mask).all (fun p =>
      decide ((plies.get p).q < (plies.get p).d) &&
      decide ((plies.get p).l < (plies.get p).d - (plies.get p).q) &&
      decide ((plies.get p).d ≤ 1048575)) &&
    decide (0 < v) && decide (v < x) && decide (x ≤ 1048576) &&
    decide (ceilDiv ((plies.get ref).d + x) (plan.repeatUm / 50) + 2 ≤ 64)

/-- What a Start does to a ply of the epoch's mask (R21). -/
def MarkPly.entered (m : MarkPly) : MarkPly :=
  { m with expected := none, missed := 0, trend := 0, last := none, spacing := none, lastRow := none, drift := false }

/-- What going OFF removes from a ply: E, the spacing reference, the last assigned row and the drift condition; m_p,
F_p, the last accepted mark and the counts are kept (R21). -/
def MarkPly.off (m : MarkPly) : MarkPly :=
  { m with expected := none, spacing := none, lastRow := none, drift := false }

/-- An epoch opened at a Start (R6, R9): the Tracker goes to ORIGIN_PENDING, the plies of the mask to SEEKING and the
others to OFF (R21), and the next index is 0 (R76). -/
def State.openEpoch (s : State) (plan : Plan) : State :=
  match referencePly s.plies plan.mask with
  | none => s
  | some ref =>
    let e : Epoch :=
      { repeatUm := plan.repeatUm, mask := plan.mask, refPly := ref, dRef := (s.plies.get ref).d, o0 := none }
    let s := s.setTrk { s.trk with epoch := some e }
    let s := Ply.all.foldl (fun s p =>
      s.updMark p (fun m => if inMask plan.mask p then m.entered else m.off)) s
    s.setPipe { s.pipe with nextIndex := some 0 }

/-- The reserve condition cleared, and its end reported to the Stop Unit if it was set (R79). -/
def State.clearReserve (s : State) : State :=
  if s.pipe.reserve then (s.setPipe { s.pipe with reserve := false }).endLevel .voidReserve else s

/-- The operating condition is SAVING or SAVED. -/
def State.savingOrSaved (s : State) : Bool :=
  decide (s.audit.condition = .saving) || decide (s.audit.condition = .saved)

/-- Every ply goes OFF at the return to FREE: windows withdrawn, E, spacing and last row removed, drift cleared, and the
end of any MARK_LOST condition reported (R21, R33, R37, R40). -/
def State.marksOff (s : State) : State :=
  let s := s.unschedule (fun ev => match ev with | .windowEnd _ => true | _ => false)
  let s := s.setMarks (s.marks.map MarkPly.off)
  Ply.all.foldl (fun s p => s.endLevel (.markLost p)) s

/-- Every zone list emptied and every expiry withdrawn (R42). -/
def State.zonesOff (s : State) : State :=
  (s.unschedule (fun ev => match ev with | .zoneExpiry _ => true | _ => false)).setZones (PerPly.all [])

/-- The return to FREE (R7): the epoch is discarded, the plies go OFF (R21), the zone lists are emptied (R42), the next
index is removed (R76), and the reserve condition is cleared but in SAVING and SAVED (R79). -/
def State.returnToFree (s : State) : State :=
  let s := s.setTrk { s.trk with epoch := none }
  let s := s.marksOff.zonesOff
  let s := s.setPipe { s.pipe with nextIndex := none }
  if s.savingOrSaved then s else s.clearReserve

/-- The test of R7, made whenever either part changes: with no job RUNNING and no row held, the Tracker returns to
FREE. -/
def State.testFree (s : State) : State :=
  if s.trk.epoch.isSome && s.running.isNone && s.pipe.rows.isEmpty then s.returnToFree else s

/-- A reverse excursion tested for in BACKING (R4): with H − A beyond the limit and a row held it is reported. REVERSED
is added to every numbered lane of every row (R92) and latched as a stop cause. -/
def State.testExcursion (s : State) : State :=
  if s.trk.excursion = .backing ∧ (s.trk.reverseLimit : Int) < posDiff s.trk.h s.trk.a ∧ s.pipe.rows ≠ [] then
    let s := s.setTrk { s.trk with excursion := .excursion }
    let s := s.setRows (s.pipe.rows.map (fun r => r.addCause .reversed))
    s.latchEvent .reversed
  else s

end Sys2Proof.Machine
end

