-- ==== Sys2Proof/Machine/AuditStore.lean ====
section
/-! DEFINITION. The Audit Store: void appends (R145 to R147), the make-up step (R151), recovery records (R153). -/

namespace Sys2Proof.Machine

/-- The capacity of the void list (R146). -/
def voidCapacity : Nat := 1024

/-- The capacity of the make-up queue (R150). -/
def queueCapacity : Nat := 256

/-- The count of recovery records the store can hold (R153). -/
def recordCapacity : Nat := 4

/-- The count of void-list entries for the reservation: visible and in flight (R79, R146). -/
def AuditStore.voidCount (a : AuditStore) : Nat := a.voids.length + a.inFlight.length

/-- The newest record of the void list, visible or in flight. -/
def AuditStore.newest (a : AuditStore) : Option VoidRecord :=
  match a.inFlight.getLast? with
  | some v => some v
  | none => a.voids.getLast?

/-- The sequence of the next record: one more than the newest record's, 1 after 2^32 − 1 or in an empty list (R146). -/
def AuditStore.nextSequence (a : AuditStore) : Nat :=
  match a.newest with
  | none => 1
  | some v => if v.sequence = 4294967295 then 1 else v.sequence + 1

/-- The state with an OPEN recovery record of a job changed (R153: brought up to date while it is OPEN). -/
def State.updRecord (s : State) (id : Nat) (f : RecoveryRecord → RecoveryRecord) : State :=
  s.setAudit
    { s.audit with
      records := s.audit.records.map (fun r => if r.job = id ∧ r.state = .opened then f r else r) }

/-- The entry is the ISSUED entry of a job and number. -/
def MakeUpEntry.isIssued (e : MakeUpEntry) (job number : Nat) : Bool :=
  decide (e.job = job) && decide (e.number = number) && decide (e.state = .issued)

/-- The entry is a WAITING entry of a job. -/
def MakeUpEntry.isWaiting (e : MakeUpEntry) (job : Nat) : Bool :=
  decide (e.job = job) && decide (e.state = .waiting)

/-- The count of WAITING entries of a job. -/
def AuditStore.waiting (a : AuditStore) (job : Nat) : Nat := (a.queue.filter (fun e => e.isWaiting job)).length

/-- A new voided number cannot enter the queue: it is full, or holds the job's number already (R151). -/
def queueRefuses (q : List MakeUpEntry) (job number : Nat) : Bool :=
  decide (queueCapacity ≤ q.length) || q.any (fun e => decide (e.job = job) && decide (e.number = number))

/-- The queue after the make-up step of a numbered lane of a STRICT job (R151). -/
def makeUpQueue (q : List MakeUpEntry) (job laneNo : Nat) (n : LaneNumber) (void : Bool) : List MakeUpEntry :=
  match n.source with
  | .makeUp attempt =>
    if void && decide (attempt < 3) then
      q.map (fun e => if e.isIssued job n.n then { e with state := .waiting, attempts := e.attempts + 1 } else e)
    else q.filter (fun e => !e.isIssued job n.n)
  | _ =>
    if void && !queueRefuses q job n.n then
      q ++ [{ job := job, number := n.n, lane := laneNo, attempts := 1, state := .waiting }]
    else q

/-- The void record of the lane is flagged NOT_QUEUED by the make-up step (R151). -/
def stepNotQueued (q : List MakeUpEntry) (job : Nat) (n : LaneNumber) : Bool :=
  match n.source with
  | .makeUp _ => false
  | _ => queueRefuses q job n.n

/-- The void record of the lane is flagged MAKEUP_EXHAUSTED by the make-up step (R151). -/
def stepExhausted (n : LaneNumber) : Bool :=
  match n.source with
  | .makeUp attempt => !decide (attempt < 3)
  | _ => false

/-- A void numbered lane appended (R88, R145, R147), with its make-up step where its job is STRICT (R89, R151): the
record is in flight, and MAKEUP is raised at both ports where it is flagged NOT_QUEUED. -/
def State.appendVoid (s : State) (r : Row) (owner : Port) (strict : Bool) (laneNo : Nat) (l : LaneRec)
    (n : LaneNumber) : State :=
  let notQueued := strict && stepNotQueued s.audit.queue r.job n
  let rec' : VoidRecord :=
    { sequence := s.audit.nextSequence, job := r.job, owner := owner, row := r.k, laneNo := laneNo, lane := n,
      causes := l.causes, unmarked := !l.marked, notQueued := notQueued,
      exhausted := strict && stepExhausted n, retire := s.trk.h }
  let s' := s.setAudit { s.audit with
    inFlight := s.audit.inFlight ++ [rec']
    queue := if strict then makeUpQueue s.audit.queue r.job laneNo n true else s.audit.queue
    resetNotQueued := s.audit.resetNotQueued || (notQueued && decide (s.audit.condition = .resetting)) }
  if notQueued then s'.raiseBoth .makeUp else s'

/-- One lane of a retiring row disposed of (R88): a good lane is counted and its ISSUED entry removed, a void lane is
appended and counted, a blank lane is counted. -/
def State.disposeLane (s : State) (r : Row) (owner : Port) (strict : Bool) (laneNo : Nat) (l : LaneRec) : State :=
  match l.number with
  | none =>
    (s.updTallies r.job (fun t => { t with blank := satAdd t.blank 1 })).updShift
      (fun t => { t with blank := satAdd t.blank 1 })
  | some n =>
    if l.causes = 0 then
      let s := if strict then
          s.setAudit { s.audit with queue := makeUpQueue s.audit.queue r.job laneNo n false }
        else s
      let s := s.updRecord r.job (fun x => { x with good := x.good + 1 })
      (s.updTallies r.job (fun t => { t with good := satAdd t.good 1 })).updShift
        (fun t => { t with good := satAdd t.good 1 })
    else
      let s := s.appendVoid r owner strict laneNo l n
      let s := s.updRecord r.job (fun x => { x with void := x.void + 1 })
      (s.updTallies r.job (fun t => { t with void := satAdd t.void 1 })).updShift
        (fun t => { t with void := satAdd t.void 1 })

/-- The lanes of a retiring row disposed of in lane order, the first being lane number `laneNo`. The spec gives the lanes of
one row no order; lane order is a DESIGN CHOICE, log entry 21. -/
def State.disposeLanes (s : State) (r : Row) (owner : Port) (strict : Bool) : Nat → List LaneRec → State
  | _, [] => s
  | laneNo, l :: rest => (s.disposeLane r owner strict laneNo l).disposeLanes r owner strict (laneNo + 1) rest

/-- The lane was drawn in the SEQUENCE phase, from the sequence or from the feed. -/
def LaneRec.fromDraw (l : LaneRec) : Bool :=
  match l.number with
  | some n => decide (n.source = .sequence) || decide (n.source = .list)
  | none => false

/-- The lane was drawn from the feed. -/
def LaneRec.fromFeed (l : LaneRec) : Bool :=
  match l.number with
  | some n => decide (n.source = .list)
  | none => false

/-- A row's lanes disposed of and the row counted, by delivery, warm reset or power-fail save (R88, R89, R153, R160).
The owner and the accounting are those of the row's own job (R89). -/
def State.disposeRow (s : State) (r : Row) : State :=
  let owner := match s.job r.job with | some j => j.owner | none => .line
  let strict := match s.job r.job with | some j => decide (j.plan.accounting = .strict) | none => false
  let s := s.disposeLanes r owner strict 1 r.lanes
  let s := s.updRecord r.job (fun x =>
    { x with
      retiredRows := x.retiredRows + (if r.lanes.any LaneRec.fromDraw then 1 else 0)
      retiredList := x.retiredList + (r.lanes.filter LaneRec.fromFeed).length })
  (s.updTallies r.job (fun t => { t with rows := satAdd t.rows 1 })).updShift
    (fun t => { t with rows := satAdd t.rows 1 })

/-- A recovery record opened for a job that becomes RUNNING (R129, R130, R153). -/
def State.openRecord (s : State) (j : Job) : State :=
  s.setAudit { s.audit with records := s.audit.records ++
    [{ job := j.id, owner := j.owner, plan := j.plan, state := .opened, r := 0, retiredRows := 0, listCount := 0,
       retiredList := 0, drawn := 0, withdrawn := 0, good := 0, void := 0 }] }

/-- The recovery record of a job removed (R134, R142, R154). -/
def State.removeRecord (s : State) (id : Nat) : State :=
  s.setAudit { s.audit with records := s.audit.records.filter (fun r => decide (r.job ≠ id)) }

/-- The oldest append in flight completes and becomes visible; VOID_READY is raised at both ports where the visible
count goes from below the notify level to it or above (R147). -/
def State.completeAppend (s : State) : State :=
  match s.audit.inFlight with
  | [] => s
  | v :: rest =>
    let s' := s.setAudit { s.audit with voids := s.audit.voids ++ [v], inFlight := rest }
    if s.audit.voids.length < s.audit.notifyLevel ∧ s.audit.notifyLevel ≤ s.audit.voids.length + 1 then
      s'.raiseBoth .voidReady
    else s'

end Sys2Proof.Machine
end

