-- ==== Sys2Proof/Machine/NumberGenerator.lean ====
section
/-! DEFINITION. The Number Generator: plan arithmetic (R52, R55, R56), printed strings (R57), draws (R58 to R61, R65,
R66, R69), the feed (R62, R63) and withdrawal (R67). -/

namespace Sys2Proof.Machine

/-! ## Plan arithmetic -/

/-- F ± i·S, as an integer (R51). -/
def Plan.numberInt (p : Plan) (i : Nat) : Int :=
  match p.direction with
  | .up => (p.first : Int) + (i : Int) * (p.step : Int)
  | .down => (p.first : Int) - (i : Int) * (p.step : Int)

/-- The number of set index i (R51). A plan that passed R52 has it within 0 to 10^W − 1. -/
def Plan.number (p : Plan) (i : Nat) : Nat := (p.numberInt i).toNat

/-- The bank size B = ceil(C/L) (R56). -/
def Plan.bank (p : Plan) : Nat := ceilDiv p.count p.lanes

/-- The set index of lane l (from 0) of the row drawn at draw count r, none where the lane is blank (R55, R56). -/
def Plan.setIndex (p : Plan) (r l : Nat) : Option Nat :=
  match p.mode with
  | .interleaved => if r * p.lanes + l < p.count then some (r * p.lanes + l) else none
  | .banked => if r < p.bank ∧ l * p.bank + r < p.count then some (l * p.bank + r) else none

/-- The sequence draw is complete at draw count r: r·L ≥ C, or r = B (R61). -/
def Plan.sequenceDone (p : Plan) (r : Nat) : Bool :=
  match p.mode with
  | .interleaved => decide (p.count ≤ r * p.lanes)
  | .banked => decide (p.bank ≤ r)

/-! ## Printed strings (R57) -/

/-- The digit of n at decimal place j. -/
def digitAt (n j : Nat) : Digit := ⟨n / 10 ^ j % 10, Nat.mod_lt _ (by decide)⟩

/-- n as exactly w digits, most significant first, with leading zeros. -/
def digitsOf : Nat → Nat → List Digit
  | 0, _ => []
  | w + 1, n => digitAt n w :: digitsOf w n

/-- The weighted sum of MOD10W over digits given rightmost first: 3, 1, 3, 1 and so on. -/
def weightedSum : Bool → List Digit → Nat
  | _, [] => 0
  | three, d :: ds => (if three then 3 else 1) * d.val + weightedSum (!three) ds

/-- A number below 10 as a digit. -/
def toDigit (n : Nat) : Digit := ⟨n % 10, Nat.mod_lt _ (by decide)⟩

/-- The check digit of a scheme, if it has one (R57). -/
def checkDigit (scheme : CheckScheme) (w n : Nat) : List Digit :=
  match scheme with
  | .none => []
  | .mod7 => [toDigit (n % 7)]
  | .mod10w => [toDigit ((10 - weightedSum true (digitsOf w n).reverse % 10) % 10)]

/-- The printed string of a number under a plan: W digits, and the check digit of its scheme (R57). -/
def Plan.printed (p : Plan) (n : Nat) : List Digit := digitsOf p.width n ++ checkDigit p.check p.width n

/-- A numbered lane entry of a draw. -/
def Plan.laneOf (p : Plan) (n : Nat) (source : LaneSource) : LaneRec :=
  freshLane { n := n, str := p.printed n, checked := decide (p.check ≠ .none), source := source }

/-! ## The feed (R62, R63) -/

/-- The job the feed belongs to (R63). -/
def State.feedJob (s : State) : Option Job :=
  let j := match s.running with
    | some j => some j
    | none => s.oldestLoaded
  match j with
  | some j => if j.plan.source = .list then some j else none
  | none => none

/-- The count of fed numbers discarded if the job leaves now: the feed's count if the feed is the job's (R54, R63). -/
def State.feedOf (s : State) (id : Nat) : Nat :=
  match s.feedJob with
  | some j => if j.id = id then s.gen.feed.length else 0
  | none => 0

/-- The feed emptied if it belongs to the job (R54, R63). It raises no FEED_LOW. -/
def State.emptyFeedOf (s : State) (id : Nat) : State :=
  match s.feedJob with
  | some j => if j.id = id then s.setGen { s.gen with feed := [] } else s
  | none => s

/-! ## The draw question (R58) -/

/-- How many lanes a draw for the job would number now (Table 4-6). -/
def State.drawQuestion (s : State) (j : Job) : Nat :=
  match s.gen.phase with
  | .makeUp => min j.plan.lanes (s.audit.waiting j.id)
  | .sequence =>
    if s.gen.complete then 0
    else
      match j.plan.source with
      | .sequence => ((List.range j.plan.lanes).filter (fun l => (j.plan.setIndex s.gen.r l).isSome)).length
      | .list => min j.plan.lanes (min s.gen.feed.length (j.plan.count - s.gen.listCount))

/-! ## Draws -/

/-- The blank cause of a sequence plan's unnumbered lanes (R55, R56). -/
def Plan.endCause (p : Plan) : BlankCause :=
  match p.mode with
  | .interleaved => .countEnd
  | .banked => .bankEnd

/-- The lane entries of a sequence draw at draw count r (R55, R56, R59). -/
def Plan.sequenceLanes (p : Plan) (r : Nat) : List LaneRec :=
  (List.range p.lanes).map (fun l =>
    match p.setIndex r l with
    | some i => p.laneOf (p.number i) .sequence
    | none => blankLane)

/-- L lanes of which the first are given and the rest blank. -/
def padLanes (lanes : Nat) (given : List LaneRec) : List LaneRec :=
  given ++ List.replicate (lanes - given.length) blankLane

/-- The blank cause of a row, absent where every lane is numbered (Table 5-1). -/
def blankUnlessFull (lanes : List LaneRec) (cause : BlankCause) : Option BlankCause :=
  if lanes.all LaneRec.isNumbered then none else some cause

/-- A draw counted: LANES_DRAWN of the job rises, and its recovery record takes r, the list count and the lanes drawn
(R59, R65, R69, R153). -/
def State.countDraw (s : State) (id n : Nat) : State :=
  (s.updTallies id (fun t => { t with drawn := satAdd t.drawn n })).updRecord id
    (fun x => { x with r := s.gen.r, listCount := s.gen.listCount, drawn := x.drawn + n })

/-- The draw of the job's plan is complete (R61). -/
def State.drawDone (s : State) (j : Job) : Bool :=
  match j.plan.source with
  | .sequence => j.plan.sequenceDone s.gen.r
  | .list => decide (s.gen.listCount = j.plan.count)

/-- The completion test after a draw in the SEQUENCE phase (R61): draw complete, and a STRICT job goes to the MAKEUP
phase. The Job Table is told by the caller, once the row drawn is in the pipeline. -/
def State.completionTest (s : State) (j : Job) : State :=
  if s.drawDone j then
    s.setGen { s.gen with
      complete := true
      phase := if j.plan.accounting = .strict then .makeUp else s.gen.phase }
  else s

/-- A sequence draw (R59). -/
def State.drawSequence (s : State) (j : Job) : Drawn × State :=
  let lanes := j.plan.sequenceLanes s.gen.r
  let s := s.setGen { s.gen with r := s.gen.r + 1 }
  let s := s.countDraw j.id (countNumbered lanes)
  (⟨lanes, blankUnlessFull lanes j.plan.endCause⟩, s.completionTest j)

/-- What a draw of feed numbers raises (R66): FEED_STARVED where it left a lane starved, FEED_LOW at both ports where it
took the feed's count from at or above the low mark to below it. -/
def State.feedReports (s : State) (before : Nat) (starved : Bool) : State :=
  let s := if s.gen.lowMark ≤ before ∧ s.gen.feed.length < s.gen.lowMark then s.raiseBoth .feedLow else s
  if starved then s.latchEvent .feedStarved else s

/-- A draw from the feed (R65): lanes 1 to L take numbers from its head while it holds one and the list count is below
the plan count. -/
def State.drawList (s : State) (j : Job) : Drawn × State :=
  let n := s.drawQuestion j
  let lanes := padLanes j.plan.lanes ((s.gen.feed.take n).map (fun x => j.plan.laneOf x .list))
  let ended := decide (s.gen.listCount + n = j.plan.count)
  let starved := decide (n < j.plan.lanes) && !ended
  let before := s.gen.feed.length
  let s := s.setGen { s.gen with
    feed := s.gen.feed.drop n
    listCount := s.gen.listCount + n
    r := if n = 0 then s.gen.r else s.gen.r + 1 }
  let s := if n = 0 then s else s.countDraw j.id n
  let s := s.feedReports before starved
  (⟨lanes, blankUnlessFull lanes (if ended then .countEnd else .feedStarved)⟩,
    if n = 0 then s else s.completionTest j)

/-- The first n WAITING entries of a job made ISSUED (R69). -/
def issueEntries (job : Nat) : Nat → List MakeUpEntry → List MakeUpEntry
  | 0, q => q
  | _ + 1, [] => []
  | n + 1, e :: q =>
    if e.isWaiting job then { e with state := .issued } :: issueEntries job n q else e :: issueEntries job (n + 1) q

/-- A make-up draw (R69): lanes 1 to L take the job's WAITING entries, oldest first. -/
def State.drawMakeUp (s : State) (j : Job) : Drawn × State :=
  let n := s.drawQuestion j
  let taken := (s.audit.queue.filter (fun e => e.isWaiting j.id)).take n
  let lanes := padLanes j.plan.lanes (taken.map (fun e => j.plan.laneOf e.number (.makeUp e.attempts)))
  let s := if n = 0 then s else
    ((s.setAudit { s.audit with queue := issueEntries j.id n s.audit.queue }).updTallies j.id
      (fun t => { t with makeUpDrawn := satAdd t.makeUpDrawn n })).countDraw j.id n
  (⟨lanes, blankUnlessFull lanes .waitMakeUp⟩, s)

/-- A draw from a sequence, or of a completed draw in the SEQUENCE phase, when no lane can be numbered: every lane
blank, nothing changed (R60, Table 4-7). -/
def State.drawNone (s : State) (j : Job) : Drawn × State :=
  (⟨List.replicate j.plan.lanes blankLane,
    some (match j.plan.source with | .sequence => j.plan.endCause | .list => .countEnd)⟩, s)

/-- The draw for the served job (R58 to R61, R65, R69). -/
def State.draw (s : State) (j : Job) : Drawn × State :=
  match s.gen.phase with
  | .makeUp => s.drawMakeUp j
  | .sequence =>
    if s.gen.complete then s.drawNone j
    else
      match j.plan.source with
      | .sequence => if s.drawQuestion j = 0 then s.drawNone j else s.drawSequence j
      | .list => s.drawList j

/-! ## Taking up and handing back a job (R54) -/

/-- The Generator takes up a job that becomes RUNNING: phase SEQUENCE, r 0, list count 0, draw not complete (R54). -/
def State.serveJob (s : State) : State :=
  s.setGen { s.gen with phase := .sequence, r := 0, listCount := 0, complete := false }

/-- The values handed back when the served job leaves RUNNING (R54). -/
def State.handBack (s : State) (id : Nat) : DrawValues :=
  { r := s.gen.r, listCount := s.gen.listCount, discarded := s.feedOf id }

/-! ## Withdrawal (R67) -/

/-- The numbers of a row's LIST lanes, in lane order. -/
def Row.listNumbers (r : Row) : List Nat :=
  r.lanes.filterMap (fun l =>
    match l.number with
    | some n => if n.source = .list then some n.n else none
    | none => none)

/-- The numbers of a row's MAKEUP lanes. -/
def Row.makeUpNumbers (r : Row) : List Nat :=
  r.lanes.filterMap (fun l =>
    match l.number with
    | some n => (match n.source with | .makeUp _ => some n.n | _ => none)
    | none => none)

/-- The row was drawn in the SEQUENCE phase: it holds a SEQUENCE or a LIST lane. -/
def Row.fromDraw (r : Row) : Bool := r.lanes.any LaneRec.fromDraw

/-- The Generator takes back a row of the served job (R67): set indices become undrawn, LIST numbers go back to the head
of the feed, MAKEUP entries return to WAITING; a complete draw becomes incomplete where the row was drawn in the
SEQUENCE phase. The recovery record takes r, the list count and the lanes withdrawn (R153). -/
def State.takeBack (s : State) (r : Row) : State :=
  let s := s.setAudit
    { s.audit with
      queue := s.audit.queue.map (fun e =>
        if decide (e.job = r.job) && decide (e.state = .issued) && decide (e.number ∈ r.makeUpNumbers) then
          { e with state := .waiting }
        else e) }
  let s := if r.fromDraw then
      s.setGen { s.gen with
        feed := r.listNumbers ++ s.gen.feed
        listCount := s.gen.listCount - r.listNumbers.length
        r := s.gen.r - 1
        complete := false
        phase := if s.gen.complete then .sequence else s.gen.phase }
    else s
  s.updRecord r.job (fun x =>
    { x with r := s.gen.r, listCount := s.gen.listCount, withdrawn := x.withdrawn + r.numbered })

end Sys2Proof.Machine
end

