-- ==== Sys2Proof/Machine/JobTable.lean ====
section
/-! DEFINITION. The Job Table: starting, follow-on change, draining and ending of jobs (R129 to R134, R139, R142). -/

namespace Sys2Proof.Machine

/-- The count of job slots (R124). -/
def slotCount : Nat := 4

/-- The end record of a job that becomes ENDED (R139): the field its plan's source does not use is 0. -/
def State.endRecordOf (s : State) (j : Job) (reason : EndReason) (d : DrawValues) : EndRecord :=
  { job := j.id, reason := reason, tallies := j.tallies
    nextIndex := if j.plan.source = .sequence then d.r else 0
    feedConsumed := if j.plan.source = .list then d.listCount else 0
    makeUpOutstanding := if j.plan.accounting = .strict then s.audit.waiting j.id else 0
    feedDiscarded := d.discarded }

/-- A job made ENDED with its end record formed (R139). The draw values are those it was handed back, or 0. That its drain
reason stays as it stood, Table 8-1 giving none for ENDED, is a DESIGN CHOICE, log entry 26. -/
def State.formEnd (s : State) (id : Nat) (reason : EndReason) : State :=
  s.updJob id (fun j =>
    { j with
      state := .ended
      endRec := some (s.endRecordOf j reason (j.draw.getD ⟨0, 0, 0⟩)) })

/-- A DRAINING job ends (R134): its end record is formed with its drain reason, its recovery record is removed and
JOB_END is raised at its owner port. -/
def State.endJob (s : State) (id : Nat) : State :=
  match s.job id with
  | none => s
  | some j => ((s.formEnd id (j.drain.getD .complete)).removeRecord id).raiseAt j.owner .jobEnd

/-- A job becomes RUNNING (R129 steps 2 to 4, R130): the Generator serves it and its recovery record is opened. -/
def State.startRunning (s : State) (j : Job) : State :=
  (((s.updJob j.id (fun x => { x with state := .running })).serveJob).openRecord j)

/-- The form repeat, lane count and ply mask of two plans are equal (R130). -/
def Plan.sameGeometry (a b : Plan) : Bool :=
  decide (a.repeatUm = b.repeatUm) && decide (a.lanes = b.lanes) && decide (a.mask = b.mask)

/-- A follow-on fails (R131): CHANGEOVER at both ports, and the stop cause CHANGEOVER. -/
def State.changeover (s : State) : State := (s.raiseBoth .changeover).latchEvent .changeover

/-- The follow-on test when the RUNNING job has entered DRAINING (R130, R131), made in NORMAL alone, and only when no
other job is RUNNING (R125). -/
def State.followOn (s : State) (before : Plan) : State :=
  if s.audit.condition = .normal ∧ s.running = none then
    match s.oldestLoaded with
    | none => s
    | some j =>
      if j.follow then
        if j.plan.sameGeometry before && decide (s.audit.records.length < recordCapacity) then s.startRunning j
        else s.changeover
      else s
  else s

/-- Every window end withdrawn, when no job is RUNNING any more (R38). -/
def State.windowsOff (s : State) : State :=
  s.unschedule (fun ev => match ev with | .windowEnd _ => true | _ => false)

/-- The RUNNING job handed back by the Generator: its draw values kept and the feed emptied if it is the job's (R54,
R133 step 2). That its phase, r, list count and draw complete stand on until the next job starts is a DESIGN CHOICE, log
entry 29. -/
def State.handedBack (s : State) (id : Nat) : State :=
  (s.updJob id (fun j => { j with draw := some (s.handBack id) })).emptyFeedOf id

/-- A RUNNING job leaves RUNNING for DRAINING: the follow-on test, and where no job started, word to the Mark Unit and
the Web Tracker (R133 steps 3 and 4). -/
def State.afterRunning (s : State) (before : Plan) : State :=
  let s := s.followOn before
  if s.running.isNone then s.windowsOff.testFree else s

/-- A job enters DRAINING with a reason (R133); from DRAINING, by Abort Job, step 1 alone. -/
def State.drainJob (s : State) (id : Nat) (reason : EndReason) : State :=
  match s.job id with
  | none => s
  | some j =>
    if j.state = .running then
      let s := s.handedBack id
      let s := s.updJob id (fun x => { x with state := .draining, drain := some reason })
      let s := s.afterRunning j.plan
      if s.jobHasRow id then s else s.endJob id
    else s.updJob id (fun x => { x with drain := some reason })

/-- The condition of R132 for the RUNNING job. -/
def State.drainCondition (s : State) (j : Job) : Bool :=
  s.gen.complete &&
    match j.plan.accounting with
    | .logOnly => true
    | .strict => decide (s.audit.waiting j.id = 0) && decide (s.jobInFlight j.id = 0)

/-- The DRAINING test of R132, made in NORMAL alone (R143): the job, if it is RUNNING, drains COMPLETE when its
accounting's condition holds. -/
def State.testDrain (s : State) (id : Nat) : State :=
  match s.job id with
  | none => s
  | some j =>
    if s.audit.condition = .normal ∧ j.state = .running ∧ s.drainCondition j then s.drainJob id .complete else s

/-- A LOADED job cancelled: ENDED with its share of the feed discarded (R136, R142). -/
def State.cancelLoaded (s : State) (id : Nat) : State :=
  let s := (s.updJob id (fun j => { j with draw := some ⟨0, 0, s.feedOf id⟩ })).emptyFeedOf id
  s.formEnd id .cancelled

/-- One job ended by a warm reset (R142): RUNNING and DRAINING jobs end RESET and lose their recovery record, LOADED jobs
end CANCELLED, ENDED jobs stay. -/
def State.resetJob (s : State) (j : Job) : State :=
  match j.state with
  | .running => ((s.handedBack j.id).formEnd j.id .reset).removeRecord j.id
  | .draining => (s.formEnd j.id .reset).removeRecord j.id
  | .loaded => s.cancelLoaded j.id
  | .ended => s

/-- The jobs ended by a warm reset, oldest first, and the feed discarded, the low mark kept (R142, R72). No JOB_END is raised.
Phase, r, list count and draw complete, which Table 4-9 calls not meaningful until the next job starts, stand as they stood: a
DESIGN CHOICE, log entry 29. -/
def State.resetJobs (s : State) : State :=
  let s := s.jobs.foldl State.resetJob s
  s.setGen { s.gen with feed := [] }

end Sys2Proof.Machine
end

