-- ==== Sys2Proof/Machine/ImprintUnit.lean ====
section
/-! DEFINITION. The Imprint Unit: send requests and orders (R101 to R104), driver replies (R105, R106), unanswered
orders, DOWN and READY (R107 to R109). -/

namespace Sys2Proof.Machine

/-- A driver's queue holds at most four outstanding orders (R100). -/
def orderCapacity : Nat := 4

/-! ## Send requests -/

/-- The pending request of ply p of row k withdrawn with its send position; no outcome is reported (R101). -/
def State.withdrawSend (s : State) (p : Ply) (k : Nat) : State :=
  (s.unschedule (fun ev => decide (ev = .send p k))).setRequests
    (s.requests.filter (fun q => !(decide (q.ply = p) && decide (q.row = k))))

/-- Every pending request of row k withdrawn (R48, R84). -/
def State.withdrawSends (s : State) (k : Nat) : State :=
  (s.unschedule (fun ev => match ev with | .send _ r => decide (r = k) | _ => false)).setRequests
    (s.requests.filter (fun q => !decide (q.row = k)))

/-- Every pending request withdrawn (R93, R94). -/
def State.withdrawAllSends (s : State) : State :=
  (s.unschedule (fun ev => match ev with | .send _ _ => true | _ => false)).setRequests []

/-! ## Building an order (R103, R104) -/

/-- The digits in the driver's order: INVERTED takes them in reverse (R103). -/
def Orientation.arrange (o : Orientation) (ds : List Digit) : List Digit :=
  match o with
  | .normal => ds
  | .inverted => ds.reverse

/-- The lane entries of a row, the first lane being number `n`: one for each numbered lane, in increasing order (R103). -/
def laneEntries (o : Orientation) : Nat → List LaneRec → List LaneEntry
  | _, [] => []
  | n, l :: rest =>
    match l.number with
    | some x => ⟨n, o.arrange x.str⟩ :: laneEntries o (n + 1) rest
    | none => laneEntries o (n + 1) rest

/-- The tag is held by no outstanding order. -/
def tagFree (orders : List Order) (t : Byte) : Bool := orders.all (fun o => decide (o.tag ≠ t))

/-- The tag given to an order (R104): the next tag if it is free, else the first free value after it, counting upward and
from 255 to 0. At most `n` values are passed over. -/
def freeTag (orders : List Order) : Nat → Byte → Byte
  | 0, t => t
  | n + 1, t => if tagFree orders t then t else freeTag orders n (t + 1)

/-- The IMPRINT order for a pending request, built from the row's lanes as they stand at the send (R103). -/
def buildOrder (d : DriverRec) (q : SendRequest) (lanes : List LaneRec) : ImprintOrder :=
  { tag := freeTag d.orders orderCapacity d.nextTag, ply := q.ply, row := q.row, fire := q.fire, send := q.send,
    dropClass := d.dropClass, lanes := laneEntries d.orientation 1 lanes }

/-- The driver with an order sent: outstanding at the end of its list, ORDERS_SENT raised, the next tag the value after
the one given (R102, R104). -/
def DriverRec.sent (d : DriverRec) (o : ImprintOrder) : DriverRec :=
  { d with
    orders := d.orders ++ [{ tag := o.tag, ply := o.ply, row := o.row, fire := o.fire }]
    nextTag := o.tag + 1
    counts := { d.counts with ordersSent := satAdd d.counts.ordersSent 1 } }

/-! ## The send position (R102) -/

/-- The row's lanes, none if the pipeline does not hold it. -/
def State.rowLanes (s : State) (k : Nat) : List LaneRec :=
  match s.row k with
  | some r => r.lanes
  | none => []

/-- A pending request taken at its send position (R102, R82). In each case it is no longer pending. -/
def State.takeSend (s : State) (q : SendRequest) : State :=
  let d := q.ply.driver
  let s := s.setRequests (s.requests.filter (fun x => !(decide (x.ply = q.ply) && decide (x.row = q.row))))
  if (s.drivers.get d).state = .down then
    (s.countDriver d (fun c => { c with notSentDown := satAdd c.notSentDown 1 })).updOpenRow q.row
      (fun r => (r.updPly q.ply (fun x => { x with order := .notSentDown })).addCause .driverDown)
  else if orderCapacity ≤ (s.drivers.get d).orders.length then
    (s.countDriver d (fun c => { c with overrun := satAdd c.overrun 1 })).updOpenRow q.row
      (fun r => (r.updPly q.ply (fun x => { x with order := .overrun })).addCause .headOverrun)
  else
    let o := buildOrder (s.drivers.get d) q (s.rowLanes q.row)
    let s := (s.updDriver d (fun x => x.sent o)).sendHead (.imprint d o)
    s.updOpenRow q.row (fun r => r.updPly q.ply (fun x => { x with order := .sent }))

/-- The send position of ply p of row k taken if it is due (R102). -/
def State.fireSend (s : State) (p : Ply) (k : Nat) : State :=
  s.fire (.send p k) (fun _ s =>
    match s.requests.find? (fun q => decide (q.ply = p) && decide (q.row = k)) with
    | some q => s.takeSend q
    | none => s)

/-- A send request handed in (R101): kept, its send position scheduled, and taken at once if H has reached it. -/
def State.handSend (s : State) (q : SendRequest) : State :=
  ((s.setRequests (s.requests ++ [q])).scheduleAt q.send (.send q.ply q.row)).fireSend q.ply q.row

/-! ## Replies (R105, R106) -/

/-- The outstanding order a reply is matched to: the same tag, ply and row index (R105). -/
def DriverRec.matching (d : DriverRec) (m : LinkReply) : Option Order :=
  match d.orders.find? (fun o => decide (o.tag = m.tag)) with
  | some o => if o.ply.number = m.ply ∧ o.row = m.row then some o else none
  | none => none

/-- A stray reply counted, for the driver and for the shift (R105). -/
def State.strayReply (s : State) (d : Driver) : State :=
  (s.countDriver d (fun c => { c with stray := satAdd c.stray 1 })).updShift
    (fun t => { t with repliesStray := satAdd t.repliesStray 1 })

/-- A driver's reply (R105, R106): stray, or matched; a matched order leaves the list, the driver is changed by `onDriver`,
and the row by `onRow`, which is given the ply. A reply whose row is not OPEN, or has left, is refused and counted stray (R82);
that it changes nothing else, by R105, is DEDUCED: log entry 27. -/
def State.takeReply (s : State) (d : Driver) (m : LinkReply) (onDriver : DriverRec → DriverRec)
    (onRow : Ply → Row → Row) : State :=
  match (s.drivers.get d).matching m with
  | none => s.strayReply d
  | some o =>
    if s.rowOpen o.row then
      (s.updDriver d (fun x => onDriver { x with orders := x.orders.erase o })).updOpenRow o.row (onRow o.ply)
    else s.strayReply d

/-- A FAULT of some lanes of an order reaches the row: the order state takes the lanes that had an entry, and HEAD_FAULT
is added to them (R82, R106). The reply is counted for the monitor source HEAD_FAULTS (R163). -/
def Row.fault (r : Row) (p : Ply) (lanes : List Nat) : Row :=
  let named := lanes.filter (fun n =>
    match r.lanes[n - 1]? with
    | some l => decide (1 ≤ n) && l.isNumbered
    | none => false)
  let r := (r.updPly p (fun x => { x with order := .fault named })).addCauseAt .headFault named
  { r with headFaults := r.headFaults + 1 }

/-- The numbers of the numbered lanes of a row: the lanes of an order for it (R103). -/
def Row.orderLanes (r : Row) : List Nat := (laneEntries .normal 1 r.lanes).map LaneEntry.lane

/-! ## Unanswered orders, DOWN and READY -/

/-- The driver's outstanding orders abandoned, each counted in ABANDONED (R108, R109, R110). -/
def DriverRec.abandon (d : DriverRec) : DriverRec :=
  { d with
    orders := []
    counts := { d.counts with abandoned := satAdd d.counts.abandoned d.orders.length } }

/-- The orders of every driver abandoned (R110, R111). -/
def State.abandonAll (s : State) : State := s.setDrivers (s.drivers.map DriverRec.abandon)

/-- The driver with an unanswered order: it lapses, NO_REPLY and the no-reply count rise; below three the driver is
SUSPECT, at three it is DOWN with its orders abandoned (R107, R108). -/
def DriverRec.unanswered (d : DriverRec) (o : Order) : DriverRec :=
  let d' := { d with
    orders := d.orders.erase o
    noReply := min (d.noReply + 1) 3
    counts := { d.counts with noReply := satAdd d.counts.noReply 1 } }
  if 3 ≤ d'.noReply then { d'.abandon with state := .down }
  else { d' with state := if d'.state = .ready then .suspect else d'.state }

/-- The merge of row k found the order of ply p unanswered (R107). An abandoned order is not counted again. The start of
a DOWN condition is reported to the Stop Unit (R108). -/
def State.orderUnanswered (s : State) (p : Ply) (k : Nat) : State :=
  match (s.drivers.get p.driver).orders.find? (fun o => decide (o.ply = p) && decide (o.row = k)) with
  | none => s
  | some o =>
    let s := s.updDriver p.driver (fun d => d.unanswered o)
    if (s.drivers.get p.driver).state = .down then s.startLevel (.driverDown p.driver) else s

end Sys2Proof.Machine
end

