-- ==== Sys2Proof/Machine/Monitors.lean ====
section
/-! DEFINITION. The event monitors (R162 to R165). -/

namespace Sys2Proof.Machine

/-- The row count n of a source (Table 10-3). -/
def MonitorSource.rowCount (src : MonitorSource) (r : Row) : Nat :=
  match src with
  | .none => 0
  | .lanesVoid => (r.lanes.filter LaneRec.isVoid).length
  | .voidCause c => (r.lanes.filter (fun l => l.isNumbered && CauseSet.has l.causes c)).length
  | .lanesBlank => (r.lanes.filter (fun l => !l.isNumbered)).length
  | .blankCause b => if r.blank = some b then (r.lanes.filter (fun l => !l.isNumbered)).length else 0
  | .misreads => r.misreads
  | .flywheels => (r.plies.filter (fun x => match x.assign with | .flywheel _ => true | _ => false)).length
  | .headFaults => r.headFaults

/-- The row's condition under a threshold above 0 (R164). -/
def Monitor.condition (m : Monitor) (n : Nat) : Bool := xor (decide (m.threshold ≤ n)) m.invert

/-- The addition a of a row of count n (R164). -/
def Monitor.addition (m : Monitor) (n : Nat) : Nat :=
  if m.threshold = 0 then n
  else if m.condition n && !(m.edge && m.previous) then 1 else 0

/-- The counter after a row, before the alarm test: under CONSECUTIVE an addition of 0 sets it to 0 (R164). -/
def Monitor.accumulated (m : Monitor) (n : Nat) : Nat :=
  if m.consecutive && decide (m.addition n = 0) then 0 else m.counter + m.addition n

/-- The addition brings the counter to the alarm level or beyond (R165). -/
def Monitor.alarmed (m : Monitor) (n : Nat) : Bool :=
  decide (m.source ≠ .none) && decide (0 < m.addition n) && decide (m.level ≤ m.accumulated n)

/-- The monitor after sampling a row of count n (R164, R165). A source of NONE samples nothing. -/
def Monitor.sampled (m : Monitor) (n : Nat) : Monitor :=
  if m.source = .none then m
  else
    { m with
      counter := if m.alarmed n then 0 else m.accumulated n
      previous := if m.threshold = 0 then false else m.condition n
      alarms := if m.alarmed n then satAdd m.alarms 1 else m.alarms }

/-- One monitor samples a row (R163 to R165): an alarm raises MONITOR at both ports and, with stop enable, latches
MONITOR(n). -/
def State.sampleMonitor (s : State) (r : Row) (i : Mon) : State :=
  let m := s.monitors.get i
  let n := m.source.rowCount r
  let s := s.setMonitors (s.monitors.set i (m.sampled n))
  if m.alarmed n then
    let s := s.raiseBoth .monitor
    if m.stopEnable then s.latchEvent (.monitor i) else s
  else s

/-- The four monitors sample a row retired at delivery (R163). -/
def State.sampleMonitors (s : State) (r : Row) : State := Mon.all.foldl (fun s i => s.sampleMonitor r i) s

end Sys2Proof.Machine
end

