-- ==== Sys2Proof/Machine/RowPipeline.lean ====
section
/-! DEFINITION. The Row Pipeline: the reservation (R79), merge, marker and retirement (R85 to R90, R170), opening of rows
(R78, R80), form reports and assignment (R77, R81), and the emptying by warm reset or save (R93, R94). -/

namespace Sys2Proof.Machine

/-! ## Spoil zones and expectations, as the pipeline asks for them -/

/-- A position is spoiled on ply p: some zone of its list holds it (R46). -/
def State.isSpoiled (s : State) (p : Ply) (c : Pos) : Bool := (s.zones.get p).any (fun z => inSpan z.start z.stop c)

/-- Every expectation of row k ended (R116). -/
def State.endExpectations (s : State) (k : Nat) : State :=
  s.setReaders (s.readers.map (fun x =>
    { x with expectations := x.expectations.filter (fun e => decide (e.row ≠ k)) }))

/-- Every expectation of every ply ended (R93, R94, R115). -/
def State.endAllExpectations (s : State) : State :=
  s.setReaders (s.readers.map (fun x => { x with expectations := [] }))

/-- The read policy of a row: that of its own job (R121). -/
def State.policyOf (s : State) (job : Nat) : ReadPolicy :=
  match s.job job with
  | some j => j.plan.policy
  | none => .off

/-! ## The reservation (R79) -/

/-- A draw of n lanes passes the reservation: void-list entries, in-flight lanes and n are at most 1024 together. -/
def State.reservationOk (s : State) (n : Nat) : Bool := decide (s.audit.voidCount + s.inFlight + n ≤ voidCapacity)

/-- The reserve condition set, and its start reported if it was clear. -/
def State.setReserve (s : State) : State :=
  if s.pipe.reserve then s else (s.setPipe { s.pipe with reserve := true }).startLevel .voidReserve

/-- The void-list count or the in-flight count has fallen: the condition is cleared where there is room for a full row of
the RUNNING job, or no job is RUNNING, but not in SAVING or SAVED (R79). -/
def State.reserveFall (s : State) : State :=
  if s.savingOrSaved then s
  else
    match s.running with
    | none => s.clearReserve
    | some j => if s.reservationOk j.plan.lanes then s.clearReserve else s

/-! ## Merge (R86) -/

/-- The reads of a ply at merge: AWAITED becomes NOREAD (R86 step 4). -/
def PlyRec.readsAtMerge (x : PlyRec) : PerLane ReadState :=
  x.reads.map (fun st => if st = .awaited then .noRead else st)

/-- The order state of a ply at merge: SENT becomes NO_REPLY, SCHEDULED becomes LATE (R86 steps 2 and 3). -/
def OrderState.atMerge (o : OrderState) : OrderState :=
  match o with
  | .sent => .noReply
  | .scheduled => .late false
  | o => o

/-- The ply record at merge. -/
def PlyRec.atMerge (x : PlyRec) : PlyRec := { x with order := x.order.atMerge, reads := x.readsAtMerge }

/-- The whole-row causes given at merge (R86 steps 1 to 3). -/
def Row.mergeCauses (r : Row) : CauseSet :=
  (if r.plies.any (fun x => decide (x.assign = .none)) then CauseSet.insert 0 .plyMissing else 0) |||
  (if r.plies.any (fun x => decide (x.order = .sent)) then CauseSet.insert 0 .headNoReply else 0) |||
  (if r.plies.any (fun x => decide (x.order = .scheduled)) then CauseSet.insert 0 .headLate else 0)

/-- The lane of place `i` is NOREAD on some ply of the row. -/
def unreadOn (plies : List PlyRec) (i : Nat) : Bool :=
  Lane.all.any (fun l => decide (l.index = i) && plies.any (fun x => decide (x.reads.get l = .noRead)))

/-- The row judged at merge (R86). Under read policy STRICT a lane NOREAD on any ply gets NO_READ. -/
def Row.judged (r : Row) (policy : ReadPolicy) : Row :=
  let plies := r.plies.map PlyRec.atMerge
  { r with
    plies := plies
    lanes := r.lanes.mapIdx (fun i l =>
      let l := l.addCauses r.mergeCauses
      if policy = .strict ∧ unreadOn plies i then l.addCause .noRead else l)
    stage := .merged }

/-- The merge work of an OPEN row (R86): unanswered orders reported to the Imprint Unit, unsent requests withdrawn, the
row judged, its expectations ended. -/
def State.mergeWork (s : State) (r : Row) : State :=
  let s := (r.plies.filter (fun x => decide (x.order = .sent))).foldl (fun s x => s.orderUnanswered x.ply r.k) s
  let s := (r.plies.filter (fun x => decide (x.order = .scheduled))).foldl (fun s x => s.withdrawSend x.ply r.k) s
  let s := s.updRow r.k (fun x => x.judged (s.policyOf r.job))
  s.endExpectations r.k

/-- The merge work done if row k is still OPEN (R85). -/
def State.ensureMerged (s : State) (k : Nat) : State :=
  match s.row k with
  | some r => if r.stage = .opened then s.mergeWork r else s
  | none => s

/-! ## Marker (R87, R170) -/

/-- The end of a marker pulse on lane l taken if it is due (R170): the output is deasserted unless a later end is still
to come. -/
def State.firePulseEnd (s : State) (l : Lane) : State :=
  s.fire (.pulseEnd l) (fun _ s =>
    if s.trk.schedule.any (fun x => decide (x.ev = .pulseEnd l)) then s
    else s.setPipe { s.pipe with markers := s.pipe.markers.set l false })

/-- A marker pulse issued on lane l (R87, R170): the output asserted, and its end scheduled 64 ticks past the marker
position. -/
def State.pulse (s : State) (l : Lane) (markerPos : Pos) : State :=
  ((s.setPipe { s.pipe with markers := s.pipe.markers.set l true }).scheduleAt (posFwd markerPos 64)
    (.pulseEnd l)).firePulseEnd l

/-- The lanes of a row that are void: those that receive a pulse (R87). -/
def Row.voidLanes (r : Row) : List Lane :=
  Lane.all.filter (fun l =>
    match r.lanes[l.index]? with
    | some x => x.isVoid
    | none => false)

/-- The row with the marker-issued flag set on its void lanes, MARKED (R87). -/
def Row.afterMarker (r : Row) : Row :=
  { r with lanes := r.lanes.map (fun l => { l with marked := l.marked || l.isVoid }), stage := .marked }

/-- The marker work of a MERGED row (R87): a pulse on each void lane. -/
def State.markerWork (s : State) (r : Row) : State :=
  let s := s.updRow r.k Row.afterMarker
  r.voidLanes.foldl (fun s l => s.pulse l (posFwd r.origin s.trk.v)) s

/-- The merge and marker work that row k still needs, in that order (R85). -/
def State.ensureMarked (s : State) (k : Nat) : State :=
  let s := s.ensureMerged k
  match s.row k with
  | some r => if r.stage = .merged then s.markerWork r else s
  | none => s

/-! ## Retirement (R88 to R90) -/

/-- Row k leaves the pipeline, with any of its positions still kept (R90). -/
def State.dropRow (s : State) (k : Nat) : State :=
  (s.unschedule (fun ev =>
    match ev with
    | .merge i | .marker i | .delivery i => decide (i = k)
    | _ => false)).setRows (s.pipe.rows.filter (fun r => decide (r.k ≠ k)))

/-- A job's in-flight count may have reached 0: the Job Table makes its DRAINING test (R84, R90, R132). -/
def State.reportInFlight (s : State) (job : Nat) : State :=
  if s.jobInFlight job = 0 then s.testDrain job else s

/-- A DRAINING job with no row left ends (R90, R134). -/
def State.reportLastRow (s : State) (job : Nat) : State :=
  match s.job job with
  | some j => if j.state = .draining ∧ s.jobHasRow job = false then s.endJob job else s
  | none => s

/-- A MARKED row retired at delivery (R88, R90). -/
def State.retire (s : State) (r : Row) : State :=
  let s := ((s.disposeRow r).sampleMonitors r).dropRow r.k
  let s := if r.numbered = 0 then s else s.reserveFall
  ((s.reportInFlight r.job).reportLastRow r.job).testFree

/-! ## The three position events of a row (R85) -/

/-- The merge position of row k taken if it is due (R86). -/
def State.fireMerge (s : State) (k : Nat) : State := s.fire (.merge k) (fun _ s => s.ensureMerged k)

/-- The marker position of row k taken if it is due (R87). -/
def State.fireMarker (s : State) (k : Nat) : State := s.fire (.marker k) (fun _ s => s.ensureMarked k)

/-- The delivery position of row k taken if it is due (R88). -/
def State.fireDelivery (s : State) (k : Nat) : State :=
  s.fire (.delivery k) (fun _ s =>
    let s := s.ensureMarked k
    match s.row k with
    | some r => if r.stage = .marked then s.retire r else s
    | none => s)

/-! ## Opening rows (R78, R80) -/

/-- Row k's drawn lanes made a row record, OPEN, for a job (R73 to R75, R78). -/
def newRow (k : Nat) (origin : Pos) (job : Nat) (mask : PlyMask) (d : Drawn) : Row :=
  { k := k, origin := origin, job := job
    kind := if countNumbered d.lanes = d.lanes.length then .numbered
      else if countNumbered d.lanes = 0 then .blank else .partialRow
    blank := d.blank, lanes := d.lanes
    plies := (maskPlies mask).map (fun p =>
      { ply := p, assign := .none, order := .notDue, reads := PerLane.all .noneExpected })
    stage := .opened, misreads := 0, headFaults := 0 }

/-- A row of blank lanes with a cause. -/
def blankDrawn (lanes : Nat) (cause : BlankCause) : Drawn := ⟨List.replicate lanes blankLane, some cause⟩

/-- The opening test (R46): some ply of the epoch's mask has its cue position O(k) − D′ in a zone. -/
def State.openingSpoiled (s : State) (e : Epoch) (origin : Pos) : Bool :=
  (maskPlies e.mask).any (fun q => s.isSpoiled q (posBack origin (s.plies.get q).d))

/-- Steps 1 to 4 of R78: the splice test, the draw question, the reservation and the draw. -/
def State.drawForRow (s : State) (j : Job) (spoiled : Bool) : Drawn × State :=
  if spoiled then (blankDrawn j.plan.lanes .spliceAhead, s)
  else if s.drawQuestion j = 0 then s.draw j
  else if s.reservationOk (s.drawQuestion j) then s.clearReserve.draw j
  else (blankDrawn j.plan.lanes .held, s.setReserve)

/-- The largest row index (R76). -/
def lastRowIndex : Nat := 4294967295

/-- A row record put at the young end; the next index is the one after it, or is removed after row 2^32 − 1 (R76). -/
def State.addRow (s : State) (r : Row) : State :=
  s.setPipe { s.pipe with
    rows := s.pipe.rows ++ [r]
    nextIndex := if r.k = lastRowIndex then none else some (r.k + 1) }

/-- The row's merge, marker and delivery positions scheduled (R12, R78). -/
def State.schedulePositions (s : State) (r : Row) : State :=
  ((s.scheduleAt r.origin (.merge r.k)).scheduleAt (posFwd r.origin s.trk.v) (.marker r.k)).scheduleAt
    (posFwd r.origin s.trk.x) (.delivery r.k)

/-- Row k opened for the RUNNING job (R78): drawn, recorded and scheduled; a draw that became complete is then reported to
the Job Table (R61, R132), and positions at or behind H are taken at once (R2, R80). -/
def State.openRow (s : State) (j : Job) (e : Epoch) (o0 : Pos) (k : Nat) : State :=
  let origin := rowOrigin o0 e.repeatUm k
  let wasComplete := s.gen.complete
  let ds := s.drawForRow j (s.openingSpoiled e origin)
  let r := newRow k origin j.id e.mask ds.1
  let s := (ds.2.addRow r).schedulePositions r
  let s := if s.gen.complete && !wasComplete then s.testDrain j.id else s
  ((s.fireMerge k).fireMarker k).fireDelivery k

/-- Rows opened from the next index, at most `n` of them; none while no job is RUNNING or no origin is set (R80). -/
def openRows : Nat → State → State
  | 0, s => s
  | n + 1, s =>
    match s.pipe.nextIndex, s.running, s.trk.epoch with
    | some k, some j, some e =>
      match e.o0 with
      | some o0 => openRows n (s.openRow j e o0 k)
      | none => s
    | _, _, _ => s

/-! ## Form reports and assignment (R77, R81) -/

/-- A form report discarded and counted (R76, R77). -/
def State.discardForm (s : State) : State :=
  s.setPipe { s.pipe with formsDiscarded := satAdd s.pipe.formsDiscarded 1 }

/-- The reads a form assignment awaits: the numbered lanes (R81). -/
def Row.awaitedReads (r : Row) : PerLane ReadState :=
  ⟨if inLanes r.numberedSet .l1 then .awaited else .noneExpected,
   if inLanes r.numberedSet .l2 then .awaited else .noneExpected,
   if inLanes r.numberedSet .l3 then .awaited else .noneExpected,
   if inLanes r.numberedSet .l4 then .awaited else .noneExpected⟩

/-- The row with ply p's form assigned (R81 steps 1 to 4): the assignment recorded, the causes of the report added, the
order SCHEDULED where a lane is numbered, and the numbered lanes AWAITED where reads are expected. -/
def Row.assigned (r : Row) (p : Ply) (a : Assignment) (causes : CauseSet) (expect : Bool) : Row :=
  { r with
    plies := (r.updPly p (fun x =>
      { x with
        assign := a
        order := if 0 < r.numbered then .scheduled else x.order
        reads := if expect then r.awaitedReads else x.reads })).plies
    lanes := r.lanes.map (fun l => l.addCauses causes) }

/-- Reads are expected of ply p's form on the row: it has a numbered lane, its job's policy reads, and the ply's reader is
present (R81 step 4, R116). -/
def State.expectsRead (s : State) (r : Row) (p : Ply) : Bool :=
  decide (0 < r.numbered) && decide (s.policyOf r.job ≠ .off) && (s.plies.get p).reader

/-- The expectation handed to the Read Unit (R81 step 4, R115). -/
def State.expectationFor (s : State) (r : Row) (p : Ply) (c : Pos) : Expectation :=
  { row := r.k, pos := posBack (posFwd c (s.plies.get p).d) (s.plies.get p).q, awaited := r.numberedSet }

/-- The send request handed to the Imprint Unit (R81 step 3). -/
def State.sendRequestFor (s : State) (r : Row) (p : Ply) (c : Pos) : SendRequest :=
  { ply := p, row := r.k, send := posBack (posFwd c (s.plies.get p).l) (s.drivers.get p.driver).lead
    fire := posFwd c (s.plies.get p).l }

/-- The form of ply p assigned to the OPEN row r at cue position c (R81). -/
def State.assignForm (s : State) (r : Row) (p : Ply) (a : Assignment) (c : Pos) (causes : CauseSet) : State :=
  let u := s.updRow r.k (fun r => r.assigned p a causes (s.expectsRead r p))
  let u := if s.expectsRead r p then
      u.updReader p (fun x => { x with expectations := x.expectations ++ [s.expectationFor r p c] })
    else u
  if 0 < r.numbered then u.handSend (s.sendRequestFor r p c) else u

/-- A form reported for row k, if it is OPEN and the ply's form on it is not yet assigned; else the report is discarded
and counted (R77). -/
def State.assignReport (s : State) (p : Ply) (k : Nat) (a : Assignment) (c : Pos) (causes : CauseSet) : State :=
  match s.row k with
  | none => s.discardForm
  | some r =>
    match r.plyRec p with
    | none => s.discardForm
    | some x =>
      if r.stage = .opened ∧ x.assign = .none then s.assignForm r p a c causes else s.discardForm

/-- A form report taken by the Row Pipeline (R77): discarded and counted outside NORMAL; else the rows up to k are
opened where k is at or beyond the next index, and the form is assigned. -/
def State.formReport (s : State) (p : Ply) (k : Nat) (a : Assignment) (c : Pos) (causes : CauseSet) : State :=
  if s.audit.condition ≠ .normal then s.discardForm
  else
    match s.pipe.nextIndex with
    | some n =>
      if n ≤ k then (openRows (k + 1 - n) s).assignReport p k a c causes else s.assignReport p k a c causes
    | none => s.assignReport p k a c causes

/-- A late-mark or late splice report: its cause is added to every numbered lane of row k if the row is OPEN, and nothing
is counted otherwise (R77). -/
def State.lateReport (s : State) (k : Nat) (cause : VoidCause) : State := s.updOpenRow k (fun r => r.addCause cause)

/-! ## Abort and the emptying of the pipeline -/

/-- ABORTED added to every numbered lane of every row of a job, whatever the stage (R91). -/
def State.abortRows (s : State) (id : Nat) : State :=
  s.setRows (s.pipe.rows.map (fun r => if r.job = id then r.addCause .aborted else r))

/-- The pipeline emptied with RESET or POWER (R93, R94): each row, oldest first, gets the cause and is disposed of with no
pulse and no sampling; send requests, expectations and the rows' positions are withdrawn; the Tracker is told. -/
def State.emptyPipeline (s : State) (cause : VoidCause) : State :=
  let s := s.pipe.rows.foldl (fun s r => s.disposeRow (r.addCause cause)) s
  let s := (s.setRows []).withdrawAllSends.endAllExpectations
  let s := s.unschedule (fun ev => match ev with | .merge _ | .marker _ | .delivery _ => true | _ => false)
  s.testFree

end Sys2Proof.Machine
end

