-- ==== Sys2Proof/Machine/ReadUnit.lean ====
section
/-! DEFINITION. The Read Unit: read results, matching and comparison (R117 to R120). -/

namespace Sys2Proof.Machine

/-- What a well-formed result says of a lane: NOREAD, or the digits in the order the reader saw them (R117). -/
inductive LaneRead where
  | noRead
  | digits (ds : List Digit)
deriving DecidableEq, Repr

/-- The digits of a reader's characters, none if any of them is no digit (R117). -/
def readDigits : List ReadChar → Option (List Digit)
  | [] => some []
  | .digit d :: cs => (readDigits cs).map (fun ds => d :: ds)
  | .other :: _ => none

/-- A result as received made a lane and a reading, none where it is malformed (R117): corrupted, a lane outside 1 to 4,
or a string that is empty, longer than 16, or not all digits. -/
def parseRead (r : ReadReport) : Option (Lane × LaneRead) :=
  match r with
  | .corrupted => none
  | .noRead lane => (Lane.ofNumber lane).map (fun l => (l, .noRead))
  | .string lane chars =>
    if chars.length = 0 ∨ 16 < chars.length then none
    else
      match Lane.ofNumber lane, readDigits chars with
      | some l, some ds => some (l, .digits ds)
      | _, _ => none

/-- The first expectation of a list, oldest first, that is due and awaits lane l (R119). -/
def dueExpectation (h : Pos) (l : Lane) (es : List Expectation) : Option Expectation :=
  es.find? (fun e => !isAhead e.pos h && inLanes e.awaited l)

/-- The list with lane l no longer awaited by the expectation of row k; an expectation that awaits nothing leaves
(R116, R119). -/
def settleExpectation (k : Nat) (l : Lane) (es : List Expectation) : List Expectation :=
  (es.map (fun e => if e.row = k then { e with awaited := dropLane e.awaited l } else e)).filter
    (fun e => decide (e.awaited ≠ 0#4))

/-- The outcome of a reading against a lane's printed string (R120): an INVERTED driver's plies are compared reversed. -/
def judgeRead (o : Orientation) (printed : List Digit) (r : LaneRead) : ReadState :=
  match r with
  | .noRead => .noRead
  | .digits ds => if o.arrange ds = printed then .matched else .misread

/-- The printed string of a lane of a row. -/
def Row.printedAt (r : Row) (l : Lane) : List Digit :=
  match r.lanes[l.index]? with
  | some x => (match x.number with | some n => n.str | none => [])
  | none => []

/-- The outcome counted for the ply (R120). -/
def ReadCounts.outcome (c : ReadCounts) (st : ReadState) : ReadCounts :=
  match st with
  | .matched => { c with matched := satAdd c.matched 1 }
  | .misread => { c with misread := satAdd c.misread 1 }
  | .noRead => { c with noRead := satAdd c.noRead 1 }
  | _ => c

/-- The outcome recorded on the row (R120): the lane's read state on the ply, and for MISREAD the cause on the lane and
the count for the monitor source MISREADS (R163). -/
def Row.readOutcome (r : Row) (p : Ply) (l : Lane) (st : ReadState) : Row :=
  let r := r.updPly p (fun x => { x with reads := x.reads.set l st })
  if st = .misread then { r.addCauseAt .misread [l.number] with misreads := r.misreads + 1 } else r

/-- A stray result (R119): counted for the ply and for the shift. -/
def State.strayRead (s : State) (p : Ply) : State :=
  (s.countRead p (fun c => { c with stray := satAdd c.stray 1 })).updShift
    (fun t => { t with readsStray := satAdd t.readsStray 1 })

/-- A result matched to an expectation and judged (R119, R120). -/
def State.matchRead (s : State) (p : Ply) (l : Lane) (reading : LaneRead) (e : Expectation) : State :=
  let printed := match s.row e.row with | some r => r.printedAt l | none => []
  let st := judgeRead (s.drivers.get p.driver).orientation printed reading
  let s := s.updReader p (fun x =>
    { x with expectations := settleExpectation e.row l x.expectations, counts := x.counts.outcome st })
  s.updOpenRow e.row (fun r => r.readOutcome p l st)

/-- A read result on the input of ply p (R117 to R119). A ply that is not installed is disregarded; a malformed result is
counted in READ_ERRORS; else RESULTS rises and the result is disregarded as re-travel, matched, or stray. A result taken after
the reverse count that reports a reverse excursion is re-travel by R118, where the last point of R122 would match it: a DESIGN
CHOICE, log entry 23. That an uninstalled ply's result is disregarded before its form is tested is log entry 17. -/
def State.takeRead (s : State) (p : Ply) (r : ReadReport) : State :=
  if s.straps.installed p then
    match parseRead r with
    | none => s.countRead p (fun c => { c with readErrors := satAdd c.readErrors 1 })
    | some (l, reading) =>
      let s := s.countRead p (fun c => { c with results := satAdd c.results 1 })
      if s.trk.retravel then s.countRead p (fun c => { c with retravel := satAdd c.retravel 1 })
      else
        match dueExpectation s.trk.h l (s.readers.get p).expectations with
        | none => s.strayRead p
        | some e => s.matchRead p l reading e
  else s

end Sys2Proof.Machine
end

