-- ==== Sys2Proof/Machine/MarkUnit.lean ====
section
/-! DEFINITION. The Mark Unit: mapping (R26), detections (R24, R25, R27 to R32), the drift condition (R33), the expected
mark and the flywheel (R35 to R37). -/

namespace Sys2Proof.Machine

/-! ## Mapping -/

/-- The row a mark is mapped to, and its register error (R26). `rel` is the distance of P from O0, so that O(k) is at or
behind P when `rowOffset k ≤ rel`; a tie goes to the later row. -/
def mapOffset (repeatUm : Nat) (rel : Int) : Int × Int :=
  let k0 := (50 * rel + 24) / (repeatUm : Int)
  let k := if rowOffset repeatUm (k0 + 1) - rel ≤ rel - rowOffset repeatUm k0 then k0 + 1 else k0
  (k, rel - rowOffset repeatUm k)

/-- The mapping of R26 for P = C + D′. The signed difference of positions is taken from the origin of row `anchor`, the
row that opens next, so that it holds across the wrap of positions at 2^40 (log entry 9). -/
def mapMark (o0 : Pos) (repeatUm anchor : Nat) (p : Pos) : Int × Int :=
  mapOffset repeatUm (rowOffset repeatUm anchor + posDiff p (rowOrigin o0 repeatUm anchor))

/-! ## Trend and drift -/

/-- The trend after an in-register mark (R32): one eighth of the way toward 16·e, the fraction dropped toward zero. -/
def trendAfter (f e : Int) : Int := f + Int.tdiv (16 * e - f) 8

/-- The trend brought within ±16·T (R32). -/
def clampTrend (f : Int) (t : Nat) : Int :=
  if 16 * (t : Int) < f then 16 * (t : Int) else if f < -(16 * (t : Int)) then -(16 * (t : Int)) else f

/-- The drift condition as R33 gives it. -/
def State.driftNow (s : State) (p : Ply) : Bool :=
  decide (s.sync p ≠ .off) && decide (0 < (s.plies.get p).driftLimit) &&
    decide (16 * ((s.plies.get p).driftLimit : Int) ≤ |(s.marks.get p).trend|)

/-- The drift condition tested (R33): DRIFT is raised at both ports where it goes from clear to set. -/
def State.testDrift (s : State) (p : Ply) : State :=
  let was := (s.marks.get p).drift
  let now := s.driftNow p
  let s := s.updMark p (fun m => { m with drift := now })
  if now && !was then s.raiseBoth .drift else s

/-! ## The expected mark and its window -/

/-- The effective window w: the smaller of W_p and floor(Rt_min/2) (R35). -/
def effectiveWindow (w rtMin : Nat) : Nat := min w (rtMin / 2)

/-- E set one row distance past `c` for the row `k` of the mark, and the window end rescheduled: the one still scheduled
is withdrawn, and a new one scheduled while a job is RUNNING (R35). -/
def State.setExpected (s : State) (p : Ply) (e : Epoch) (c : Pos) (k : Int) : State :=
  let pos := posShift c (rowDistance e.repeatUm k)
  let s := s.updMark p (fun m => { m with expected := some ⟨pos, k⟩ })
  let s := s.unschedule (fun ev => decide (ev = .windowEnd p))
  if s.running.isSome then
    s.scheduleAt (posFwd pos (effectiveWindow (s.plies.get p).w e.rtMin + 1)) (.windowEnd p)
  else s

/-- An accepted mark sets m_p to 0 and ends a MARK_LOST condition (R37). -/
def State.markSeen (s : State) (p : Ply) : State :=
  (s.updMark p (fun m => { m with missed := 0 })).endLevel (.markLost p)

/-! ## Accepted marks -/

/-- What every accepted mark does (R24): ACCEPTED, the last accepted mark, the spacing reference at its cue position with
distance `g` (R25), and the offer to capture (R17). -/
def State.acceptMark (s : State) (p : Ply) (c : Pos) (row captured : Option RowError) (g : Int) : State :=
  (s.updMark p (fun m =>
    { m with
      counts := { m.counts with accepted := satAdd m.counts.accepted 1 }
      last := some ⟨c, row⟩
      spacing := some ⟨c, g⟩ })).offerCapture p ⟨captured, c⟩

/-- The register judgement of an accepted mark (R31, R32): in register it updates the trend, out of register it is
counted. -/
def State.judgeMark (s : State) (p : Ply) (e : Int) : State :=
  if |e| ≤ ((s.plies.get p).t : Int) then
    (s.updMark p (fun m => { m with trend := trendAfter m.trend e })).testDrift p
  else
    s.updMark p (fun m =>
      { m with counts := { m.counts with outOfTolerance := satAdd m.counts.outOfTolerance 1 } })

/-- The causes of an accepted mark's form report: SPLICE in a spoil zone (R30), REGISTER out of tolerance (R31). -/
def State.markCauses (s : State) (p : Ply) (c : Pos) (e : Int) : CauseSet :=
  (if s.isSpoiled p c then CauseSet.insert 0 .splice else 0) |||
  (if |e| ≤ ((s.plies.get p).t : Int) then 0 else CauseSet.insert 0 .register)

/-- An accepted mark given to row k, k ≥ 0 (section 2.5): counted, judged, m_p 0, E and its window set, the last assigned
row k, and the form report handed (R30, R31, R34, R35, R37). -/
def State.markForRow (s : State) (p : Ply) (ep : Epoch) (c : Pos) (k : Nat) (e : Int) : State :=
  let causes := s.markCauses p c e
  let s := s.acceptMark p c (some ⟨k, e⟩) (some ⟨k, e⟩) (rowDistance ep.repeatUm k)
  let s := (s.judgeMark p e).markSeen p
  let s := s.setExpected p ep c k
  let s := s.updMark p (fun m => { m with lastRow := some k })
  s.formReport p k (.mark c e) c causes

/-- A pre-job mark (R28): accepted without row or error, it sets the spacing reference, E and its window, and m_p to 0. -/
def State.preJobMark (s : State) (p : Ply) (ep : Epoch) (c : Pos) (k : Int) : State :=
  ((s.acceptMark p c none none (rowDistance ep.repeatUm k)).markSeen p).setExpected p ep c k

/-- A duplicate (R29): counted, and a late-mark report with REGISTER where row k was given this ply's form by one of the
last m_p flywheels. -/
def State.duplicateMark (s : State) (p : Ply) (k j : Nat) : State :=
  let m := (s.marks.get p).missed
  let s := s.updMark p (fun x =>
    { x with counts := { x.counts with duplicate := satAdd x.counts.duplicate 1 } })
  if 1 ≤ m ∧ j + 1 ≤ k + m ∧ k ≤ j then s.lateReport k .register else s

/-- An accepted mark in ORIGIN_PENDING (R10, R27): the reference ply's sets O0 to C + D′_ref and is the mark of row 0; any
other ply's has no row and sets the spacing reference with g = Rt_min. -/
def State.originMark (s : State) (p : Ply) (ep : Epoch) (c : Pos) : State :=
  if p = ep.refPly then
    let ep' := { ep with o0 := some (posFwd c ep.dRef) }
    (s.setTrk { s.trk with epoch := some ep' }).markForRow p ep' c 0 0
  else s.acceptMark p c none none ep.rtMin

/-- A mark in TRACKING (R24 test 5): pre-job, duplicate, or given to its row. One mapped past row 2^32 − 1, for which the spec
states no row, is given to the row it maps to all the same: a DESIGN CHOICE, log entry 24. -/
def State.trackedMark (s : State) (p : Ply) (ep : Epoch) (o0 c : Pos) : State :=
  let m := mapMark o0 ep.repeatUm (s.pipe.nextIndex.getD (lastRowIndex + 1)) (posFwd c (s.plies.get p).d)
  if m.1 < 0 then s.preJobMark p ep c m.1
  else
    match (s.marks.get p).lastRow with
    | some j => if m.1 ≤ (j : Int) then s.duplicateMark p m.1.toNat j else s.markForRow p ep c m.1.toNat m.2
    | none => s.markForRow p ep c m.1.toNat m.2

/-- A detection at `c` fails the spacing test against a reference (R25). -/
def Spacing.fails (g : Spacing) (c : Pos) : Bool := decide (2 * posDiff c g.pos < g.dist)

/-- The detection is spurious: the ply has a spacing reference and it fails the test (R24 test 3). -/
def State.isSpurious (s : State) (p : Ply) (c : Pos) : Bool :=
  match (s.marks.get p).spacing with
  | some g => g.fails c
  | none => false

/-- A spurious mark (R24): counted for the ply and for the shift. -/
def State.spuriousMark (s : State) (p : Ply) : State :=
  (s.updMark p (fun m => { m with counts := { m.counts with spurious := satAdd m.counts.spurious 1 } })).updShift
    (fun t => { t with marksSpurious := satAdd t.marksSpurious 1 })

/-- A detection from the cue-mark sensor of ply p, through the tests of R24 in order. -/
def State.takeMark (s : State) (p : Ply) : State :=
  if s.trk.retravel then
    s.updMark p (fun m => { m with counts := { m.counts with retravel := satAdd m.counts.retravel 1 } })
  else
    match s.trk.epoch with
    | none => s.offerCapture p ⟨none, s.trk.h⟩
    | some ep =>
      if !inMask ep.mask p then s
      else if s.isSpurious p s.trk.h then s.spuriousMark p
      else
        match ep.o0 with
        | none => s.originMark p ep s.trk.h
        | some o0 => s.trackedMark p ep o0 s.trk.h

/-! ## The flywheel (R36, R37) -/

/-- A flywheel mark at E for row k, k ≥ 0 (R36): m_p and FLYWHEEL rise, the spacing reference is E, MARK_LOST starts at
eight misses, E and its window are set anew, and the form report is handed, with SPLICE in a spoil zone and NO_MARK from
the second miss on. A flywheel past row 2^32 − 1, for which the spec states no row, is given to the row after the last all the
same: a DESIGN CHOICE, log entry 24. -/
def State.flywheelForRow (s : State) (p : Ply) (ep : Epoch) (pos : Pos) (k : Nat) : State :=
  let m := min ((s.marks.get p).missed + 1) 255
  let causes := (if s.isSpoiled p pos then CauseSet.insert 0 .splice else 0) |||
    (if 2 ≤ m then CauseSet.insert 0 .noMark else 0)
  let s := s.updMark p (fun x =>
    { x with
      missed := m
      counts := { x.counts with flywheel := satAdd x.counts.flywheel 1 }
      spacing := some ⟨pos, rowDistance ep.repeatUm k⟩
      lastRow := some k })
  let s := if m = 8 then s.startLevel (.markLost p) else s
  let s := s.setExpected p ep pos k
  s.formReport p k (.flywheel pos) pos causes

/-- The flywheel of a pre-job form (R36): the spacing reference and a new E, nothing else. -/
def State.preJobFlywheel (s : State) (p : Ply) (ep : Epoch) (pos : Pos) (k : Int) : State :=
  (s.updMark p (fun x => { x with spacing := some ⟨pos, rowDistance ep.repeatUm k⟩ })).setExpected p ep pos k

/-- The end of ply p's window raised (R36): a flywheel mark at E, given to the row after that of the mark that set E. -/
def State.flywheel (s : State) (p : Ply) : State :=
  match s.trk.epoch, (s.marks.get p).expected with
  | some ep, some x =>
    if x.row + 1 < 0 then s.preJobFlywheel p ep x.pos (x.row + 1)
    else s.flywheelForRow p ep x.pos (x.row + 1).toNat
  | _, _ => s

/-- The end of ply p's window taken if it is due (R36). -/
def State.fireWindow (s : State) (p : Ply) : State := s.fire (.windowEnd p) (fun _ s => s.flywheel p)

end Sys2Proof.Machine
end

