-- ==== Sys2Proof/Machine/SpliceUnit.lean ====
section
/-! DEFINITION. The Splice Unit: placing zones (R43 to R45), the withdrawal walk (R47, R48) and late splice reports
(R49). -/

namespace Sys2Proof.Machine

/-- A zone list holds at most four zones (R42). -/
def zoneCapacity : Nat := 4

/-- The expiry of a zone with end z: z + floor(Rt_min/2) + 2 (R45). -/
def zoneExpiryPos (e : Epoch) (z : Pos) : Pos := posFwd z (e.rtMin / 2 + 2)

/-- The newest zone given a new end, its start kept (R44 cases 1 and 3). -/
def extendNewest (zs : List Zone) (stop expiry : Pos) : List Zone :=
  match zs.getLast? with
  | some n => zs.dropLast ++ [{ n with stop := stop, expiry := expiry }]
  | none => zs

/-- The expiry of ply p's newest zone withdrawn (R44). -/
def State.withdrawExpiry (s : State) (p : Ply) (n : Zone) : State :=
  s.setTrk { s.trk with schedule := s.trk.schedule.filter (fun x =>
    !(decide (x.ev = .zoneExpiry p) && decide (x.pos = n.expiry))) }

/-- The zone list of ply p replaced. -/
def State.setZoneList (s : State) (p : Ply) (zs : List Zone) : State := s.setZones (s.zones.set p zs)

/-- The expiry of a zone of ply p with the given end scheduled (R45), and taken by `drop` if it is due. -/
def State.scheduleExpiry (s : State) (p : Ply) (e : Epoch) (stop : Pos) : State :=
  s.scheduleAt (zoneExpiryPos e stop) (.zoneExpiry p)

/-- A zone's expiry taken if it is due (R45): the zone that carries it is dropped. -/
def State.fireExpiry (s : State) (p : Ply) : State :=
  s.fire (.zoneExpiry p) (fun pos s =>
    s.setZoneList p ((s.zones.get p).filter (fun z => decide (z.expiry ≠ pos))))

/-- A new span placed on ply p (R44): merged with the newest zone, added, or, in a full list, the newest zone extended.
The answer is the affected span and the state. -/
def State.placeZone (s : State) (p : Ply) (e : Epoch) (lo hi : Pos) : (Pos × Pos) × State :=
  let zs := s.zones.get p
  let add := (s.setZoneList p (zs ++ [⟨lo, hi, zoneExpiryPos e hi⟩])).scheduleExpiry p e hi
  match zs.getLast? with
  | none => ((lo, hi), add)
  | some n =>
    let extended :=
      ((s.withdrawExpiry p n).setZoneList p (extendNewest zs hi (zoneExpiryPos e hi))).scheduleExpiry p e hi
    if !isAhead lo (posFwd n.stop 1) then ((lo, hi), extended)
    else if zs.length < zoneCapacity then ((lo, hi), add)
    else ((posFwd n.stop 1, hi), extended)

/-! ## The withdrawal walk -/

/-- Ply p's assigned cue position on a row, none while its form is not assigned (R47). -/
def Row.assignedPos (r : Row) (p : Ply) : Option Pos :=
  match r.plyRec p with
  | some x => (match x.assign with | .none => none | .mark c _ => some c | .flywheel c => some c)
  | none => none

/-- Ply p's cue position for a row: the assigned one, else O(k) − D′ (R47). -/
def Row.cuePos (r : Row) (p : Ply) (d : Nat) : Pos := (r.assignedPos p).getD (posBack r.origin d)

/-- A row can be walked: affected, unprinted, OPEN, every order NOT_DUE or SCHEDULED (R47). -/
def Row.walkable (r : Row) (p : Ply) (d : Nat) (lo hi : Pos) : Bool :=
  inSpan lo hi (r.cuePos p d) && !r.printed && decide (r.stage = .opened) &&
    r.plies.all (fun x => decide (x.order = .notDue) || decide (x.order = .scheduled))

/-- A withdrawn row (R48, R84): BLANK with SPLICE_AHEAD, every lane blank, orders NOT_DUE and reads NONE_EXPECTED; form
assignments are kept. -/
def Row.withdrawn (r : Row) : Row :=
  { r with
    kind := .blank
    blank := some .spliceAhead
    lanes := r.lanes.map (fun _ => blankLane)
    plies := r.plies.map (fun x => { x with order := .notDue, reads := PerLane.all .noneExpected }) }

/-- A row withdrawn (R48, R67, R84): its numbers taken back, the row blanked, its sends and expectations withdrawn, the
loss counted in WITHDRAWN, and the fall of the in-flight count reported. -/
def State.withdrawRow (s : State) (r : Row) : State :=
  let s := (s.takeBack r).updRow r.k Row.withdrawn
  let s := (s.withdrawSends r.k).endExpectations r.k
  let s := s.updTallies r.job (fun t => { t with withdrawn := satAdd t.withdrawn r.numbered })
  (s.reserveFall).reportInFlight r.job

/-- The row is of the RUNNING job. -/
def State.ofRunning (s : State) (r : Row) : Bool :=
  match s.running with
  | some j => decide (j.id = r.job)
  | none => false

/-- The withdrawal walk over rows given youngest first (R47): it stops at the first that is not of the RUNNING job or not
walkable, passes over one with no numbered lane, and withdraws the others. -/
def walk (p : Ply) (lo hi : Pos) : List Row → State → State
  | [], s => s
  | r :: older, s =>
    if s.ofRunning r && r.walkable p (s.plies.get p).d lo hi then
      if r.numbered = 0 then walk p lo hi older s else walk p lo hi older (s.withdrawRow r)
    else s

/-- Late splice reports (R49): SPLICE for each row whose form of ply p is assigned within the affected span. It reaches
numbered lanes of OPEN rows alone, so it changes no row the walk withdrew or passed over. -/
def State.lateSplices (s : State) (p : Ply) (lo hi : Pos) : State :=
  s.setRows (s.pipe.rows.map (fun r =>
    match r.assignedPos p with
    | some c => if inSpan lo hi c ∧ r.stage = .opened then r.addCause .splice else r
    | none => r))

/-- A splice taken on ply p (R43 test 3): counted, its span placed, and in NORMAL the walk run over the affected span. An expiry
scheduled at or behind H is raised at once (R2). An older zone's expiry that is due and not yet taken waits, as any due position
does (log entry 2), so that it may be taken before or after the splice (R45). -/
def State.spliceTaken (s : State) (p : Ply) (e : Epoch) : State :=
  let set := s.plies.get p
  let s := s.updShift (fun t => { t with splices := satAdd t.splices 1 })
  let x := posFwd s.trk.h set.s
  let placed := s.placeZone p e (posBack x set.mb) (posFwd x set.ma)
  let lo := placed.1.1
  let hi := placed.1.2
  let s := if isAhead (zoneExpiryPos e hi) s.trk.h then placed.2 else placed.2.fireExpiry p
  if s.audit.condition = .normal then (walk p lo hi s.pipe.rows.reverse s).lateSplices p lo hi else s

/-- A detection from the splice sensor of ply p, through the tests of R43 in order. -/
def State.takeSplice (s : State) (p : Ply) : State :=
  if s.trk.retravel then s
  else
    match s.trk.epoch with
    | none => s
    | some e => if inMask e.mask p then s.spliceTaken p e else s

end Sys2Proof.Machine
end

