-- ==== Sys2Proof/Machine/Conditions.lean ====
section
/-! DEFINITION. Changes of the operating condition: power-up (R180), recovery (R158), warm reset (R155) and power-fail
save (R156, R157). -/

namespace Sys2Proof.Machine

/-- The operating condition set. -/
def State.setCondition (s : State) (c : Condition) : State := s.setAudit { s.audit with condition := c }

/-! ## Warm reset -/

/-- A port at warm reset (R177 step 4): the pending set emptied and the unsent notice withdrawn; receiver, held requests
and waiting replies as they were. -/
def PortState.cleared (x : PortState) : PortState := { x with pending := 0, unsent := false }

/-- The blocks' reset state cleared (R155 step 4): zones, expectations, position schedule, capture, the
return to FREE of an emptied pipeline, marker outputs, monitor counters, stop causes and attention sets. -/
def State.clearBlocks (s : State) : State :=
  let s := s.zonesOff.endAllExpectations
  let s := if s.pipe.rows = [] then s.returnToFree else s
  let s := s.setTrk { s.trk with schedule := [], capture := powerUpCapture }
  let s := s.setPipe { s.pipe with markers := PerLane.all false }
  let s := s.setMonitors (s.monitors.map (fun m => { m with counter := 0, previous := false }))
  let s := s.changeStop (fun u => u.cleared (BitVec.allOnes 17))
  (s.setLine s.line.cleared).setPanel s.panel.cleared

/-- A warm reset begun, steps 1 and 2 of R155, which are one event: the condition RESETTING, the pipeline emptied with RESET,
the reserve condition cleared (R93) and, as the Audit Store enters RESETTING, the orders of every driver abandoned (R110; step 4
finds none, log entry 16). -/
def State.beginReset (s : State) : State :=
  let s := s.setAudit { s.audit with
    condition := .resetting
    resetDue := false
    resetNotQueued := false
    resetStage := .emptied }
  ((s.emptyPipeline .reset).clearReserve).abandonAll

/-- The stage of the warm reset in progress set. -/
def State.setResetStage (s : State) (x : ResetStage) : State := s.setAudit { s.audit with resetStage := x }

/-- The next step of the warm reset in progress: the jobs ended, with the test of R7 (R155 step 3, R142), or the blocks cleared
(R155 step 4). -/
def State.resetStep (s : State) : State :=
  match s.audit.resetStage with
  | .emptied => (s.setResetStage .ended).resetJobs.testFree
  | .ended => (s.setResetStage .cleared).clearBlocks
  | .cleared => s

/-- The next `n` steps of the warm reset in progress. -/
def resetSteps : Nat → State → State
  | 0, s => s
  | n + 1, s => resetSteps n s.resetStep

/-- How many of steps 3 and 4 of R155 are still to come: none but in RESETTING. -/
def State.resetLeft (s : State) : Nat :=
  if s.audit.condition = .resetting then
    match s.audit.resetStage with
    | .emptied => 2
    | .ended => 1
    | .cleared => 0
  else 0

/-- As many of the steps still to come as have come about by now. The rules let events fall before steps 3 and 4 (R20, R40, R50,
R156) and do not say how many, so the number is a free choice: log entry 16. -/
def State.advanceReset (s : State) : State :=
  resetSteps (s.choose (s.resetLeft + 1)).1 (s.choose (s.resetLeft + 1)).2

/-- An assertion of the RESET line, or a Reset message served (R155, R156, R177): begun in NORMAL and SAVED, due after the
save in SAVING, and absorbed or without effect otherwise. However many are asked for in SAVING, one reset follows the save: a
DESIGN CHOICE, log entry 25. -/
def State.requestReset (s : State) : State :=
  match s.audit.condition with
  | .normal | .saved => s.beginReset.advanceReset
  | .saving => s.setAudit { s.audit with resetDue := true }
  | .recovering | .resetting => s

/-- Every append begun has completed in RESETTING: the steps still to come are taken, and the reset ends (R155 step 5, R110;
log entry 16). The condition is NORMAL,
RESET_DONE is raised, VOID_READY at or above the notify level, MAKEUP where a record of the reset was flagged NOT_QUEUED,
and SYNC goes to each driver. -/
def State.endReset (s : State) : State :=
  let s := ((resetSteps s.resetLeft s).setCondition .normal).raiseBoth .resetDone
  let s := if s.audit.notifyLevel ≤ s.audit.voids.length then s.raiseBoth .voidReady else s
  let s := if s.audit.resetNotQueued then s.raiseBoth .makeUp else s
  (s.setAudit { s.audit with resetNotQueued := false }).syncAll

/-! ## Power-fail save -/

/-- A save begun, steps 1 and 2 of R157: SAVING, the pipeline emptied with POWER, the orders abandoned (R111). -/
def State.beginSave (s : State) : State := ((s.setCondition .saving).emptyPipeline .power).abandonAll

/-- The power-fail warning asserted (R156, R157): a save begins in NORMAL and RESETTING; in SAVING and SAVED it has no
effect, and in RECOVERING its level is read when the recovery ends (R158). -/
def State.warnPower (s : State) : State :=
  match s.audit.condition with
  | .normal | .resetting => s.beginSave
  | _ => s

/-- The save ends, steps 3 and 4 of R157: OPEN recovery records are CLEAN and the condition SAVED; a reset that waited is
begun (R156). -/
def State.endSave (s : State) : State :=
  let s := s.setAudit { s.audit with
    condition := .saved
    records := s.audit.records.map (fun r => if r.state = .opened then { r with state := .clean } else r) }
  if s.audit.resetDue then s.beginReset.advanceReset else s

/-! ## Power-up -/

/-- The nonvolatile collections after the recovery of R158: appends in flight completed in order, OPEN records UNCLEAN,
ISSUED entries UNRESOLVED, the notify level 1, the condition NORMAL. -/
def AuditStore.recovered (a : AuditStore) : AuditStore :=
  { a with
    condition := .normal
    voids := a.voids ++ a.inFlight
    inFlight := []
    records := a.records.map (fun r => if r.state = .opened then { r with state := .unclean } else r)
    queue := a.queue.map (fun e => if e.state = .issued then { e with state := .unresolved } else e)
    notifyLevel := 1 }

/-- The power-up recovery completes (R158): RECOVERY at the line port where a record is held, VOID_READY at both ports
where a void is visible, SYNC to each driver (R111), and a save at once where the power-fail warning is asserted. -/
def State.endRecovery (s : State) : State :=
  let s := s.setAudit s.audit.recovered
  let s := if s.audit.records = [] then s else s.raiseAt .line .recovery
  let s := if s.audit.voids = [] then s else s.raiseBoth .voidReady
  let s := s.syncAll
  if s.powerFail then s.beginSave else s

/-- Power applied (R180): the straps sampled, every block at its power-up value, the condition RECOVERING. The nonvolatile
collections are kept (chapter 9), as are the level of the power-fail input and the model's own fields. -/
def State.powerUp (s : State) (straps : Straps) : State :=
  { State.reset with
    straps := straps
    audit := { powerUpAudit with
      voids := s.audit.voids, inFlight := s.audit.inFlight, queue := s.audit.queue, records := s.audit.records,
      notifyLevel := 1 }
    powerFail := s.powerFail
    freeIndex := s.freeIndex
    pending := s.pending }

end Sys2Proof.Machine
end

