-- ==== Sys2Proof/Machine/Operands.lean ====
section
/-! DEFINITION. The operand forms: request kinds (Table 11-4), frames and their CRC (R172), the fields of request bodies
(R173, R181). -/

namespace Sys2Proof.Machine

/-! ## Request kinds (Table 11-4) -/

/-- The request kinds of Table 11-4. -/
inductive RequestKind where
  | loadJob | startJob | haltJob | abortJob | queryJob | collectEnd | feedNumbers
  | readVoids | releaseVoids | readMakeUp | releaseMakeUp | readRecovery | discardRecovery
  | setLine | readLine | setPly | readPly | setDriver | readDriver | readReader | armCapture | readCapture
  | setStopMask | readStop | clearStop | setMonitor | readMonitor | readTallies | clearShift
  | setNotify | acknowledgeAttention | lineSummary | reset
deriving DecidableEq, Repr

/-- The kind byte of a request (Table 11-4). -/
def RequestKind.code : RequestKind → Byte
  | .loadJob => 0x01 | .startJob => 0x02 | .haltJob => 0x03 | .abortJob => 0x04 | .queryJob => 0x05
  | .collectEnd => 0x06 | .feedNumbers => 0x07 | .readVoids => 0x10 | .releaseVoids => 0x11 | .readMakeUp => 0x12
  | .releaseMakeUp => 0x13 | .readRecovery => 0x14 | .discardRecovery => 0x15 | .setLine => 0x20 | .readLine => 0x21
  | .setPly => 0x22 | .readPly => 0x23 | .setDriver => 0x24 | .readDriver => 0x25 | .readReader => 0x26
  | .armCapture => 0x27 | .readCapture => 0x28 | .setStopMask => 0x30 | .readStop => 0x31 | .clearStop => 0x32
  | .setMonitor => 0x33 | .readMonitor => 0x34 | .readTallies => 0x35 | .clearShift => 0x36 | .setNotify => 0x40
  | .acknowledgeAttention => 0x41 | .lineSummary => 0x42 | .reset => 0x4F

/-- Every request kind, in the table's order. -/
def RequestKind.all : List RequestKind :=
  [.loadJob, .startJob, .haltJob, .abortJob, .queryJob, .collectEnd, .feedNumbers, .readVoids, .releaseVoids,
   .readMakeUp, .releaseMakeUp, .readRecovery, .discardRecovery, .setLine, .readLine, .setPly, .readPly, .setDriver,
   .readDriver, .readReader, .armCapture, .readCapture, .setStopMask, .readStop, .clearStop, .setMonitor,
   .readMonitor, .readTallies, .clearShift, .setNotify, .acknowledgeAttention, .lineSummary, .reset]

/-- The request kind of a kind byte, none for a byte not in Table 11-4 (R173 test 1). -/
def requestKind (b : Byte) : Option RequestKind := RequestKind.all.find? (fun k => decide (k.code = b))

/-- The read-only requests: those marked with an asterisk in Table 11-4 (R181). -/
def RequestKind.readOnly : RequestKind → Bool
  | .queryJob | .readVoids | .readMakeUp | .readRecovery | .readLine | .readPly | .readDriver | .readReader
  | .readCapture | .readStop | .readMonitor | .readTallies | .lineSummary => true
  | _ => false

/-- The panel port under PANEL = VIEW is permitted the kind (R175). -/
def RequestKind.viewMay (k : RequestKind) : Bool :=
  k.readOnly ||
    match k with
    | .haltJob | .abortJob | .clearStop | .acknowledgeAttention | .clearShift => true
    | _ => false

/-! ## Frames (R172) -/

/-- The start byte of a frame. -/
def startByte : Byte := 0xC3

/-- One bit shifted into the CRC of x^16 + x^12 + x^5 + 1. -/
def crcBit (c : BitVec 16) : BitVec 16 := if c.getLsbD 15 then (c <<< 1) ^^^ 0x1021#16 else c <<< 1

/-- One byte entered into the CRC, most significant bit first. -/
def crcByte (c : BitVec 16) (b : Byte) : BitVec 16 :=
  crcBit (crcBit (crcBit (crcBit (crcBit (crcBit (crcBit (crcBit (c ^^^ (b.zeroExtend 16 <<< 8)))))))))

/-- The CRC of a run of bytes, from the initial value 0xFFFF. -/
def crc (bs : List Byte) : BitVec 16 := bs.foldl crcByte 0xFFFF#16

/-- The bytes of a frame: start, length, kind, tag, body and CRC, high byte first (R172). -/
def frameBytes (kind tag : Byte) (body : List Byte) : List Byte :=
  let covered := BitVec.ofNat 8 (body.length + 2) :: kind :: tag :: body
  startByte :: covered ++ [(crc covered).extractLsb' 8 8, (crc covered).extractLsb' 0 8]

/-- A kind byte of 0x80 or above: a reply's (R172). -/
def isReplyKind (kind : Byte) : Bool := kind.getLsbD 7

/-- What a receiver makes of the bytes gathered since the start byte: it gathers on, discards the frame, or has a
received request (R172). -/
inductive Gathered where
  | more
  | discard
  | request (r : Request)
deriving DecidableEq, Repr

/-- A whole frame's bytes, from the length byte to the CRC, tested (R172). That a frame whose kind byte is 0x80 or above is
discarded here, once whole, and not at its kind byte, is a DESIGN CHOICE, log entry 28. -/
def testFrame (len : Nat) (got : List Byte) : Gathered :=
  match got with
  | _ :: kind :: tag :: rest =>
    let covered := got.take (len + 1)
    let sum := crc covered
    if got.drop (len + 1) = [sum.extractLsb' 8 8, sum.extractLsb' 0 8] ∧ isReplyKind kind = false then
      .request ⟨kind, tag, rest.take (len - 2)⟩
    else .discard
  | _ => .discard

/-- What the bytes gathered so far come to (R172). -/
def gatheredSoFar (got : List Byte) : Gathered :=
  match got with
  | [] => .more
  | len :: _ =>
    if len.toNat < 2 ∨ 242 < len.toNat then .discard
    else if got.length < len.toNat + 3 then .more
    else testFrame len.toNat got

/-! ## Fields of a request body (R173) -/

/-- A number sent high byte first. -/
def beNat (bs : List Byte) : Nat := bs.foldl (fun n b => n * 256 + b.toNat) 0

/-- The number in `n` bytes at place `off` of a body. -/
def fieldAt (off n : Nat) (body : List Byte) : Nat := beNat ((body.drop off).take n)

/-- A field that may be absent: a presence byte at `off`, then `n` bytes; absent fields still occupy their bytes. -/
def optField (off n : Nat) (body : List Byte) : Option Nat :=
  if fieldAt off 1 body = 0 then none else some (fieldAt (off + 1) n body)

/-- A byte of two values, 0 and 1: a presence byte, a yes-or-no field, or the byte before a selector. -/
def isFlag (off : Nat) (body : List Byte) : Bool := decide (fieldAt off 1 body ≤ 1)

/-- A present field within its range, or an absent one. -/
def inRange (x : Option Nat) (lo hi : Nat) : Bool :=
  match x with
  | none => true
  | some v => decide (lo ≤ v) && decide (v ≤ hi)

/-- The body has the length its kind's fields require (R173 test 2). DESIGN CHOICE, log entry 10: the widths of Arm Capture and
Read Capture, the one-byte count before the numbers of Feed Numbers, and that no parameter byte follows a source of Set Monitor
whose code is none of the eight. -/
def bodyLengthOk (k : RequestKind) (body : List Byte) : Bool :=
  match k with
  | .loadJob => decide (body.length = 25)
  | .startJob | .haltJob | .abortJob | .queryJob | .collectEnd => decide (body.length = 2)
  | .feedNumbers => decide (body.length = 1 + 5 * fieldAt 0 1 body)
  | .readVoids | .releaseVoids | .readMakeUp | .releaseMakeUp | .discardRecovery => decide (body.length = 2)
  | .readRecovery | .readLine | .readStop | .clearShift | .lineSummary | .reset => decide (body.length = 0)
  | .setLine => decide (body.length = 12)
  | .setPly => decide (body.length = 39)
  | .readPly | .readDriver | .readMonitor | .readCapture => decide (body.length = 1)
  | .setDriver => decide (body.length = 11)
  | .readReader | .armCapture | .readTallies | .setStopMask | .clearStop => decide (body.length = 3)
  | .setMonitor =>
    decide (body.length = if fieldAt 1 1 body = 2 ∨ fieldAt 1 1 body = 4 then 13 else 12)
  | .setNotify => decide (body.length = 8)
  | .acknowledgeAttention => decide (body.length = 2)

/-! ## Enumerations (R173: the place of the value, from 0) -/

/-- 0 UP, 1 DOWN (Table 11-7). -/
def decodeDirection : Nat → Option Direction
  | 0 => some .up | 1 => some .down | _ => none

/-- 0 INTERLEAVED, 1 BANKED (Table 11-7). -/
def decodeLaneMode : Nat → Option LaneMode
  | 0 => some .interleaved | 1 => some .banked | _ => none

/-- 0 NONE, 1 MOD7, 2 MOD10W (Table 11-7). -/
def decodeCheck : Nat → Option CheckScheme
  | 0 => some .none | 1 => some .mod7 | 2 => some .mod10w | _ => none

/-- 0 SEQUENCE, 1 LIST (Table 11-7). -/
def decodeSource : Nat → Option SourceKind
  | 0 => some .sequence | 1 => some .list | _ => none

/-- 0 STRICT, 1 LOG_ONLY (Table 11-7). -/
def decodeAccounting : Nat → Option Accounting
  | 0 => some .strict | 1 => some .logOnly | _ => none

/-- 0 OFF, 1 LENIENT, 2 STRICT (Table 11-7). -/
def decodePolicy : Nat → Option ReadPolicy
  | 0 => some .off | 1 => some .lenient | 2 => some .strict | _ => none

/-- 0 NORMAL, 1 INVERTED (Table 6-2). -/
def decodeOrientation : Nat → Option Orientation
  | 0 => some .normal | 1 => some .inverted | _ => none

/-- The void causes in the order of Table 5-6. -/
def VoidCause.all : List VoidCause :=
  [.splice, .register, .noMark, .plyMissing, .headOverrun, .headLate, .headFault, .headNoReply, .driverDown, .misread,
   .noRead, .aborted, .reversed, .reset, .power]

/-- The blank causes in the order in which R73 first names them (log entry 11). -/
def BlankCause.all : List BlankCause := [.spliceAhead, .feedStarved, .held, .waitMakeUp, .bankEnd, .countEnd]

/-- A monitor source from its code and, for VOID_CAUSE(c) and BLANK_CAUSE(b), the code of the parameter (Table 10-2). -/
def decodeMonitorSource (code param : Nat) : Option MonitorSource :=
  match code with
  | 0 => some .none
  | 1 => some .lanesVoid
  | 2 => (VoidCause.all[param]?).map .voidCause
  | 3 => some .lanesBlank
  | 4 => (BlankCause.all[param]?).map .blankCause
  | 5 => some .misreads
  | 6 => some .flywheels
  | 7 => some .headFaults
  | _ => none

/-! ## Load Job (Table 11-7) -/

/-- The last number of a SEQUENCE plan lies within 0 to 10^W − 1 (R52 test 3); not asked of a LIST plan. -/
def Plan.lastOk (p : Plan) : Bool :=
  match p.source with
  | .list => true
  | .sequence => decide (0 ≤ p.numberInt (p.count - 1)) && decide (p.numberInt (p.count - 1) < (10 ^ p.width : Nat))

/-- The tests of a plan's ranges and arithmetic (R52, R126 test 1). -/
def Plan.valid (p : Plan) : Bool :=
  decide (4 ≤ p.width ∧ p.width ≤ 10) && decide (1 ≤ p.step ∧ p.step ≤ 999) &&
    decide (1 ≤ p.count ∧ p.count ≤ 10000000) && decide (1 ≤ p.lanes ∧ p.lanes ≤ 4) &&
    decide (p.first < 10 ^ p.width) && p.lastOk &&
    decide (60000 ≤ p.repeatUm ∧ p.repeatUm ≤ 640000) && decide (p.mask ≠ 0)

/-- The plan of a Load Job body, bytes 3 to 24; none where an enumeration is outside its codes or the ply mask names a
ply outside 1 to 6. -/
def decodePlan (body : List Byte) : Option Plan :=
  match decodeDirection (fieldAt 11 1 body), decodeLaneMode (fieldAt 16 1 body), decodeCheck (fieldAt 17 1 body),
    decodeSource (fieldAt 18 1 body), decodeAccounting (fieldAt 19 1 body), decodePolicy (fieldAt 20 1 body) with
  | some direction, some mode, some check, some source, some accounting, some policy =>
    if fieldAt 24 1 body < 64 then
      some
        { width := fieldAt 3 1 body, first := fieldAt 4 5 body, step := fieldAt 9 2 body, direction := direction,
          count := fieldAt 12 3 body, lanes := fieldAt 15 1 body, mode := mode, check := check, source := source,
          accounting := accounting, policy := policy, repeatUm := fieldAt 21 3 body,
          mask := BitVec.ofNat 6 (fieldAt 24 1 body) }
    else none
  | _, _, _, _, _, _ => none

/-- The numbers of a Feed Numbers body: a one-byte count, then five bytes each. -/
def decodeNumbers : Nat → List Byte → List Nat
  | 0, _ => []
  | n + 1, bs => beNat (bs.take 5) :: decodeNumbers n (bs.drop 5)

end Sys2Proof.Machine
end

