-- ==== Sys2Proof/Machine/Replies.lean ====
section
/-! DEFINITION. The bytes of what the transmitter sends: replies with their data (R173, R181, Tables 11-5 and 11-8 to
11-10) and ATTENTION notices (R178, R181). Log entry 10 lists the widths the spec does not give. -/

namespace Sys2Proof.Machine

/-- A number in n bytes, high byte first (R173). -/
def be : Nat → Nat → List Byte
  | 0, _ => []
  | n + 1, v => BitVec.ofNat 8 (v / 256 ^ n) :: be n v

/-- A signed value in n bytes, two's complement (R173). -/
def beInt (n : Nat) (v : Int) : List Byte := be n (v % (256 ^ n : Nat)).toNat

/-- A yes-or-no field (R173). -/
def flagByte (b : Bool) : List Byte := [if b then 1 else 0]

/-- A position: five bytes (R173). -/
def posBytes (p : Pos) : List Byte := be 5 p.toNat

/-- A field that may be absent: a presence byte, and its bytes (R173). That an absent field's bytes, which R173 says are
disregarded, are sent as zeros is a DESIGN CHOICE, log entry 10. -/
def optBytes {α : Type} (n : Nat) (f : α → List Byte) (x : Option α) : List Byte :=
  match x with
  | none => 0 :: be n 0
  | some v => 1 :: f v

/-- A list: a one-byte count, then its members (R173). That a list of records, entries or numbers carried has the list's
one-byte count and not the two bytes R173 gives such counts is a DESIGN CHOICE, log entry 10. -/
def listBytes {α : Type} (f : α → List Byte) (xs : List α) : List Byte := be 1 xs.length ++ (xs.map f).flatten

/-- The codes of enumerated values in replies: the place of the value where it is first named (R173). -/
def portCode : Port → Nat
  | .line => 0 | .panel => 1

/-- UP, DOWN. -/
def directionCode : Direction → Nat
  | .up => 0 | .down => 1

/-- INTERLEAVED, BANKED. -/
def laneModeCode : LaneMode → Nat
  | .interleaved => 0 | .banked => 1

/-- NONE, MOD7, MOD10W. -/
def checkCode : CheckScheme → Nat
  | .none => 0 | .mod7 => 1 | .mod10w => 2

/-- SEQUENCE, LIST. -/
def sourceCode : SourceKind → Nat
  | .sequence => 0 | .list => 1

/-- STRICT, LOG_ONLY. -/
def accountingCode : Accounting → Nat
  | .strict => 0 | .logOnly => 1

/-- OFF, LENIENT, STRICT. -/
def policyCode : ReadPolicy → Nat
  | .off => 0 | .lenient => 1 | .strict => 2

/-- LOADED, RUNNING, DRAINING, ENDED (R124). -/
def jobStateCode : JobState → Nat
  | .loaded => 0 | .running => 1 | .draining => 2 | .ended => 3

/-- COMPLETE, HALTED, ABORTED, RESET, CANCELLED (R139). -/
def endReasonCode : EndReason → Nat
  | .complete => 0 | .halted => 1 | .aborted => 2 | .reset => 3 | .cancelled => 4

/-- SEQUENCE, MAKEUP (R53). -/
def phaseCode : Phase → Nat
  | .sequence => 0 | .makeUp => 1

/-- FREE, ORIGIN_PENDING, TRACKING (R5). -/
def trackerCode : TrackerState → Nat
  | .free => 0 | .originPending => 1 | .tracking => 2

/-- NONE, BACKING, EXCURSION (Table 1-1). -/
def excursionCode : Excursion → Nat
  | .none => 0 | .backing => 1 | .excursion => 2

/-- OFF, SEEKING, LOCKED, COASTING, LOST (Table 2-1). -/
def syncCode : SyncState → Nat
  | .off => 0 | .seeking => 1 | .locked => 2 | .coasting => 3 | .lost => 4

/-- NORMAL, INVERTED (Table 6-2). -/
def orientationCode : Orientation → Nat
  | .normal => 0 | .inverted => 1

/-- READY, SUSPECT, DOWN (Table 6-3). -/
def driverStateCode : DriverState → Nat
  | .ready => 0 | .suspect => 1 | .down => 2

/-- The blank causes, in the order of `BlankCause.all`. -/
def blankCauseCode : BlankCause → Nat
  | .spliceAhead => 0 | .feedStarved => 1 | .held => 2 | .waitMakeUp => 3 | .bankEnd => 4 | .countEnd => 5

/-- FULL, ATTENTION, READY (R179). -/
def summaryCode : Summary → Nat
  | .full => 0 | .attention => 1 | .ready => 2

/-- WAITING, ISSUED, UNRESOLVED (Table 11-9). -/
def entryStateCode : EntryState → Nat
  | .waiting => 0 | .issued => 1 | .unresolved => 2

/-- OPEN, CLEAN, UNCLEAN (Table 11-10). -/
def recordStateCode : RecordState → Nat
  | .opened => 0 | .clean => 1 | .unclean => 2

/-- A monitor source: its code, then the code of its parameter where it carries one (R173, Table 10-2). -/
def monitorSourceBytes : MonitorSource → List Byte
  | .none => be 1 0
  | .lanesVoid => be 1 1
  | .voidCause c => be 1 2 ++ be 1 c.bit
  | .lanesBlank => be 1 3
  | .blankCause b => be 1 4 ++ be 1 (blankCauseCode b)
  | .misreads => be 1 5
  | .flywheels => be 1 6
  | .headFaults => be 1 7

/-- The plan: bytes 3 to 24 of Table 11-7. -/
def Plan.bytes (p : Plan) : List Byte :=
  be 1 p.width ++ be 5 p.first ++ be 2 p.step ++ be 1 (directionCode p.direction) ++ be 3 p.count ++ be 1 p.lanes ++
  be 1 (laneModeCode p.mode) ++ be 1 (checkCode p.check) ++ be 1 (sourceCode p.source) ++
  be 1 (accountingCode p.accounting) ++ be 1 (policyCode p.policy) ++ be 3 p.repeatUm ++ be 1 p.mask.toNat

/-- Source and attempt of a record, in bits 4–5 and 0–1 (Table 11-8). -/
def sourceBits : LaneSource → Nat
  | .sequence => 0
  | .list => 16
  | .makeUp attempt => 32 + attempt % 4

/-- Two digits a byte, the first in the high half; unused halves are 0xF (Table 11-8). -/
def packDigits : Nat → List Digit → List Byte
  | 0, _ => []
  | n + 1, [] => 0xFF :: packDigits n []
  | n + 1, [a] => BitVec.ofNat 8 (a.val * 16 + 15) :: packDigits n []
  | n + 1, a :: b :: rest => BitVec.ofNat 8 (a.val * 16 + b.val) :: packDigits n rest

/-- A void record: 26 bytes (Table 11-8). That the two bytes of the cause set go high byte first is a DESIGN CHOICE, log
entry 10. -/
def VoidRecord.bytes (v : VoidRecord) : List Byte :=
  be 4 v.sequence ++ be 2 v.job ++
  be 1 ((if v.owner = .panel then 128 else 0) + sourceBits v.lane.source) ++ be 4 v.row ++
  be 1 (v.laneNo + (if v.unmarked then 16 else 0) + (if v.notQueued then 32 else 0) + (if v.exhausted then 64 else 0)) ++
  be 2 v.causes.toNat ++ posBytes v.retire ++
  be 1 (v.lane.str.length + (if v.lane.checked then 128 else 0)) ++ packDigits 6 v.lane.str

/-- A make-up entry: 10 bytes (Table 11-9). -/
def MakeUpEntry.bytes (e : MakeUpEntry) : List Byte :=
  be 2 e.job ++ be 5 e.number ++ be 1 e.lane ++ be 1 e.attempts ++ be 1 (entryStateCode e.state)

/-- A recovery record: 54 bytes (Table 11-10). -/
def RecoveryRecord.bytes (r : RecoveryRecord) : List Byte :=
  be 2 r.job ++ be 1 (portCode r.owner) ++ be 1 (recordStateCode r.state) ++ r.plan.bytes ++ be 3 r.r ++
  be 3 r.retiredRows ++ be 3 r.listCount ++ be 3 r.retiredList ++ be 4 r.drawn ++ be 4 r.withdrawn ++ be 4 r.good ++
  be 4 r.void

/-- The eight audit tallies, in the order of Table 8-3. -/
def JobTallies.bytes (t : JobTallies) : List Byte :=
  be 4 t.rows ++ be 4 t.drawn ++ be 4 t.withdrawn ++ be 4 t.good ++ be 4 t.void ++ be 4 t.blank ++ be 4 t.makeUpDrawn ++
  be 4 t.feedIn

/-- The end record, in the order of R139. -/
def EndRecord.bytes (e : EndRecord) : List Byte :=
  be 2 e.job ++ be 1 (endReasonCode e.reason) ++ e.tallies.bytes ++ be 3 e.nextIndex ++ be 3 e.feedConsumed ++
  be 2 e.makeUpOutstanding ++ be 2 e.feedDiscarded

/-- What Query Job reports, in the order of R137. That the place takes two bytes, and counts from 0, and
that the fields for a RUNNING and for a DRAINING job are sent in that state alone, with no presence byte, is a DESIGN CHOICE,
log entry 10. -/
def JobReport.bytes (r : JobReport) : List Byte :=
  be 2 r.job.id ++ be 1 (portCode r.job.owner) ++ flagByte r.job.follow ++ be 1 (jobStateCode r.job.state) ++
  be 2 r.place ++ r.job.tallies.bytes ++
  match r.job.state with
  | .running =>
    be 1 (phaseCode r.gen.phase) ++ be 3 r.gen.r ++ be 3 r.gen.listCount ++ flagByte r.gen.complete ++ be 2 r.inFlight
  | .draining =>
    be 1 (endReasonCode (r.job.drain.getD .complete)) ++ be 3 (r.job.draw.getD ⟨0, 0, 0⟩).r ++
    be 3 (r.job.draw.getD ⟨0, 0, 0⟩).listCount ++ be 2 (r.job.draw.getD ⟨0, 0, 0⟩).discarded ++ be 2 r.inFlight ++
    be 2 r.rows
  | _ => []

/-- The settings of a ply, in the order of R39. -/
def PlySettings.bytes (x : PlySettings) : List Byte :=
  be 3 x.d ++ be 3 x.l ++ be 3 x.q ++ be 3 x.s ++ be 3 x.mb ++ be 3 x.ma ++ flagByte x.reader ++ be 3 x.w ++ be 3 x.t ++
  be 3 x.driftLimit

/-- A row index and register error, each preceded by its presence. -/
def rowErrorBytes (r : Option RowError) : List Byte :=
  optBytes 4 (fun x : RowError => be 4 x.k) r ++ optBytes 3 (fun x : RowError => beInt 3 x.e) r

/-- The state of a ply, in the order of R39. That F_p, in sixteenths of a tick, takes three bytes, and m_p one, is a DESIGN
CHOICE, log entry 10. -/
def MarkPly.bytes (m : MarkPly) (sync : SyncState) : List Byte :=
  be 1 (syncCode sync) ++ optBytes 5 (fun x : Expected => posBytes x.pos) m.expected ++ be 1 m.missed ++
  beInt 3 m.trend ++ flagByte m.drift ++ optBytes 5 (fun x : LastMark => posBytes x.c) m.last ++
  rowErrorBytes (m.last.bind LastMark.row) ++ optBytes 4 (be 4) m.lastRow ++ be 4 m.counts.accepted ++
  be 4 m.counts.spurious ++ be 4 m.counts.retravel ++ be 4 m.counts.duplicate ++ be 4 m.counts.flywheel ++
  be 4 m.counts.outOfTolerance

/-- A driver, in the order of R113. That an order's tag, the next tag and the no-reply count take one byte each is a DESIGN
CHOICE, log entry 10. -/
def DriverRec.bytes (d : DriverRec) : List Byte :=
  be 1 (orientationCode d.orientation) ++ be 3 d.lead ++ be 3 d.dropClass ++ be 1 (driverStateCode d.state) ++
  be 1 d.noReply ++
  listBytes (fun o : Order => be 1 o.tag.toNat ++ be 1 o.ply.number ++ be 4 o.row ++ posBytes o.fire) d.orders ++
  be 1 d.nextTag.toNat ++ be 4 d.counts.ordersSent ++ be 4 d.counts.done ++ be 4 d.counts.late ++ be 4 d.counts.fault ++
  be 4 d.counts.notReady ++ be 4 d.counts.noReply ++ be 4 d.counts.overrun ++ be 4 d.counts.notSentDown ++
  be 4 d.counts.abandoned ++ be 4 d.counts.stray ++ be 4 d.counts.linkErrors

/-- What Read Reader reports, in the order of R123. -/
def ReaderReport.bytes (r : ReaderReport) : List Byte :=
  be 3 r.q ++ flagByte r.reader ++ be 1 (orientationCode r.orientation) ++ be 2 r.count ++
  listBytes (fun e : Expectation => be 4 e.row ++ posBytes e.pos ++ be 1 e.awaited.toNat) r.expectations ++
  be 4 r.counts.results ++ be 4 r.counts.matched ++ be 4 r.counts.misread ++ be 4 r.counts.noRead ++
  be 4 r.counts.stray ++ be 4 r.counts.retravel ++ be 4 r.counts.readErrors

/-- A capture slot: empty, or its record, k, C and e in that order (R15, R18, Table 1-9). That an empty slot's bytes are zeros
is a DESIGN CHOICE, log entry 10. -/
def slotBytes (x : Option CaptureRecord) : List Byte :=
  match x with
  | none => 0 :: be 14 0
  | some c =>
    1 :: (optBytes 4 (fun r : RowError => be 4 r.k) c.row ++ posBytes c.c ++
      optBytes 3 (fun r : RowError => beInt 3 r.e) c.row)

/-- What Read Line reports, in the order of R179. -/
def LineReport.bytes (r : LineReport) : List Byte :=
  be 3 r.v ++ be 3 r.x ++ be 3 r.reverseLimit ++ posBytes r.a ++ posBytes r.h ++ be 1 (trackerCode r.tracker) ++
  be 1 (excursionCode r.excursion) ++ optBytes 3 (fun e : Epoch => be 3 e.repeatUm) r.epoch ++
  optBytes 1 (fun e : Epoch => be 1 e.refPly.number) r.epoch ++ optBytes 5 posBytes (r.epoch.bind Epoch.o0)

/-- A monitor, in the order of R162. That its counter takes three bytes is a DESIGN CHOICE, log entry 10. -/
def Monitor.bytes (m : Monitor) : List Byte :=
  monitorSourceBytes m.source ++ be 3 m.threshold ++ flagByte m.invert ++ flagByte m.edge ++ flagByte m.consecutive ++
  be 3 m.level ++ flagByte m.stopEnable ++ be 3 m.counter ++ flagByte m.previous ++ be 4 m.alarms

/-- The shift tallies, in the order of Table 10-1. -/
def ShiftTallies.bytes (t : ShiftTallies) : List Byte :=
  be 4 t.rows ++ be 4 t.good ++ be 4 t.void ++ be 4 t.blank ++ be 4 t.marksSpurious ++ be 4 t.readsStray ++
  be 4 t.splices ++ be 4 t.repliesStray

/-- The data of a reply, in the order its rule names the fields (R173). That the held flags in Read Stop's reply are sent as
the mask of all seventeen causes, in three bytes, is a DESIGN CHOICE, log entry 10; and so is that a mask of more than one byte
(the stop sets, the attention set) goes high byte first, as a number does. -/
def ReplyData.bytes : ReplyData → List Byte
  | .none => []
  | .endRecord e => e.bytes
  | .job r => r.bytes
  | .voids visible inFlight records =>
    be 2 visible ++ be 2 inFlight ++ listBytes VoidRecord.bytes records
  | .remaining n => be 2 n
  | .makeUp count entries => be 2 count ++ listBytes MakeUpEntry.bytes entries
  | .removed n => be 2 n
  | .recovery records => listBytes RecoveryRecord.bytes records
  | .line r => r.bytes
  | .ply set st m => set.bytes ++ m.bytes st
  | .driver r => r.bytes
  | .reader r => r.bytes
  | .capture armed on index slots =>
    optBytes 1 (fun p : Ply => be 1 p.number) armed ++ flagByte on ++ be 1 index ++ listBytes slotBytes slots
  | .stop la ma he out => be 3 la.toNat ++ be 3 ma.toNat ++ be 3 he.toNat ++ flagByte out
  | .latched la => be 3 la.toNat
  | .monitor m => m.bytes
  | .shift t forms => t.bytes ++ be 4 forms
  | .jobTallies st t => be 1 (jobStateCode st) ++ t.bytes
  | .pending set => be 2 set.toNat
  | .summary r =>
    be 1 (summaryCode r.summary) ++ be 2 r.running ++ be 1 (trackerCode r.tracker) ++ flagByte r.stopOutput ++
    optBytes 2 (fun m : AttentionSet => be 2 m.toNat) r.pending

/-- Reason bytes (Table 11-5). -/
def reasonCode : Reason → Nat
  | .unknownKind => 1 | .badLength => 2 | .range => 3 | .notOwner => 4 | .notPermitted => 5 | .notNext => 6
  | .wrongState => 7 | .noSuchJob => 8 | .geometry => 9 | .plies => 10 | .duplicateId => 11 | .full => 12

/-- The class and reason bytes of a reply (Table 11-5). -/
def ReplyClass.bytes : ReplyClass → List Byte
  | .ok => [0, 0]
  | .held => [1, 0]
  | .busy => [2, 0]
  | .notReady => [3, 0]
  | .refused why => [4, BitVec.ofNat 8 (reasonCode why)]

/-- The bytes of a reply frame: the request's kind plus 0x80, its tag, class, reason and data (R173). -/
def ReplyFrame.bytes (f : ReplyFrame) : List Byte :=
  frameBytes (f.kind + 0x80) f.tag (f.reply.cls.bytes ++ f.reply.data.bytes)

/-- The bytes of an ATTENTION notice: kind 0x7F, tag 0, the pending set in two bytes (R181), high byte first (DESIGN CHOICE,
log entry 10). -/
def noticeBytes (set : AttentionSet) : List Byte := frameBytes 0x7F 0 (be 2 set.toNat)

/-- What the port is putting on its line: the bytes of the frame its transmitter is sending, none when it is free. -/
def PortState.lineBytes (x : PortState) : List Byte :=
  match x.sending with
  | none => []
  | some .reply => (match x.replies with | [] => [] | f :: _ => f.bytes)
  | some (.notice set) => noticeBytes set

end Sys2Proof.Machine
end

