-- ==== Sys2Proof/Machine/Requests.lean ====
section
/-! DEFINITION. The request rules: what the block that owns a request does with it, and the reply (R13, R16, R18, R23,
R39, R64, R99, R113, R123, R126 to R138, R148 to R154, R161, R162, R167, R168, R177 to R179). Each takes the port, the
body, whose length has been tested, and the state. -/

namespace Sys2Proof.Machine

/-- A reply formed, with the state its request left. -/
abbrev Served := Reply × State

/-- OK, with data (Table 11-5). -/
def okReply (d : ReplyData) (s : State) : Served := (⟨.ok, d⟩, s)

/-- REFUSED with a reason: nothing changes. -/
def refuse (why : Reason) (s : State) : Served := (⟨.refused why, .none⟩, s)

/-- BUSY: nothing changes. -/
def busyReply (s : State) : Served := (⟨.busy, .none⟩, s)

/-- HELD, with the end record of an ENDED job, which is not collected. -/
def heldReply (j : Job) (s : State) : Served :=
  (⟨.held, match j.endRec with | some e => .endRecord e | none => .none⟩, s)

/-! ## Jobs -/

/-- The job id is held by a record, carried by a make-up entry or carried by a recovery record (R126 test 3). -/
def State.idTaken (s : State) (id : Nat) : Bool :=
  s.jobs.any (fun j => decide (j.id = id)) || s.audit.queue.any (fun e => decide (e.job = id)) ||
    s.audit.records.any (fun r => decide (r.job = id))

/-- The record of a Load that is taken (R127). -/
def loadedJob (id : Nat) (owner : Port) (plan : Plan) (follow : Bool) : Job :=
  { id := id, owner := owner, plan := plan, follow := follow, state := .loaded, drain := none, draw := none,
    tallies := zeroTallies, endRec := none }

/-- The oldest ENDED job of a port (R126 test 5). -/
def State.oldestEnded (s : State) (port : Port) : Option Job :=
  s.jobs.find? (fun j => decide (j.state = .ended) && decide (j.owner = port))

/-- Tests 2 to 6 of R126, for a plan in range. -/
def State.loadPlan (s : State) (port : Port) (id : Nat) (plan : Plan) (follow : Bool) : Served :=
  if (maskPlies plan.mask).any (fun p => !s.straps.installed p) then refuse .plies s
  else if s.idTaken id then refuse .duplicateId s
  else if s.jobs.length < slotCount then okReply .none (s.setJobs (s.jobs ++ [loadedJob id port plan follow]))
  else
    match s.oldestEnded port with
    | some j => heldReply j s
    | none => busyReply s

/-- Load Job (R126, R127; Table 11-7). -/
def serveLoadJob (port : Port) (body : List Byte) (s : State) : Served :=
  match decodePlan body with
  | none => refuse .range s
  | some plan =>
    if fieldAt 0 2 body = 0 ∨ isFlag 2 body = false ∨ plan.valid = false then refuse .range s
    else s.loadPlan port (fieldAt 0 2 body) plan (decide (fieldAt 2 1 body = 1))

/-- The job of a Start that passes its tests started in a new epoch (R129). -/
def State.startJob (s : State) (j : Job) : State := (s.openEpoch j.plan).startRunning j

/-- Tests 2 to 8 of R128, for the job that holds the id. -/
def State.startTests (s : State) (port : Port) (j : Job) : Served :=
  if j.owner ≠ port then refuse .notOwner s
  else if j.state ≠ .loaded then refuse .wrongState s
  else if s.oldestLoaded ≠ some j then refuse .notNext s
  else if s.running.isSome ∨ s.trk.epoch.isSome then busyReply s
  else if recordCapacity ≤ s.audit.records.length then refuse .full s
  else if geometryOk s.plies s.trk.v s.trk.x j.plan = false then refuse .geometry s
  else okReply .none (s.startJob j)

/-- Start Job (R128, R129). -/
def serveStartJob (port : Port) (body : List Byte) (s : State) : Served :=
  match s.job (fieldAt 0 2 body) with
  | none => refuse .noSuchJob s
  | some j => s.startTests port j

/-- Halt Job (R135). -/
def serveHaltJob (_ : Port) (body : List Byte) (s : State) : Served :=
  match s.job (fieldAt 0 2 body) with
  | none => refuse .noSuchJob s
  | some j =>
    match j.state with
    | .running => okReply .none (s.drainJob j.id .halted)
    | .draining => okReply .none s
    | .ended => heldReply j s
    | .loaded => refuse .wrongState s

/-- Abort Job (R136): the rows of a RUNNING or DRAINING job get ABORTED and the job drains; a LOADED job is cancelled and
JOB_END raised at its owner port. -/
def serveAbortJob (_ : Port) (body : List Byte) (s : State) : Served :=
  match s.job (fieldAt 0 2 body) with
  | none => refuse .noSuchJob s
  | some j =>
    match j.state with
    | .running | .draining => okReply .none ((s.abortRows j.id).drainJob j.id .aborted)
    | .loaded => okReply .none ((s.cancelLoaded j.id).raiseAt j.owner .jobEnd)
    | .ended => heldReply j s

/-- The place of a job id in load order, the oldest record at 0. -/
def State.placeOf (s : State) (id : Nat) : Nat := s.jobs.findIdx (fun j => decide (j.id = id))

/-- The rows of a job in the pipeline. -/
def State.rowsOf (s : State) (id : Nat) : Nat := (s.pipe.rows.filter (fun r => decide (r.job = id))).length

/-- Query Job (R137). -/
def serveQueryJob (_ : Port) (body : List Byte) (s : State) : Served :=
  match s.job (fieldAt 0 2 body) with
  | none => refuse .noSuchJob s
  | some j =>
    if j.state = .ended then heldReply j s
    else
      okReply (.job { job := j, place := s.placeOf j.id, gen := s.gen, inFlight := s.jobInFlight j.id,
                      rows := s.rowsOf j.id }) s

/-- The slot of a job id emptied: its record leaves the load order (R138). -/
def State.emptySlot (s : State) (id : Nat) : State := s.setJobs (s.jobs.filter (fun j => decide (j.id ≠ id)))

/-- Collect End (R138). -/
def serveCollectEnd (port : Port) (body : List Byte) (s : State) : Served :=
  match s.job (fieldAt 0 2 body) with
  | none => refuse .noSuchJob s
  | some j =>
    if j.owner ≠ port then refuse .notOwner s
    else
      match j.state with
      | .running | .draining => busyReply s
      | .loaded => refuse .wrongState s
      | .ended => okReply (match j.endRec with | some e => .endRecord e | none => .none) (s.emptySlot j.id)

/-- The most numbers Feed Numbers may leave in the feed (R62). -/
def feedCapacity : Nat := 512

/-- Numbers added at the tail of the feed, and counted in the job's FEED_IN (R64). -/
def State.feedIn (s : State) (id : Nat) (ns : List Nat) : State :=
  (s.setGen { s.gen with feed := s.gen.feed ++ ns }).updTallies id
    (fun t => { t with feedIn := satAdd t.feedIn ns.length })

/-- Feed Numbers (R64). -/
def serveFeedNumbers (_ : Port) (body : List Byte) (s : State) : Served :=
  match s.feedJob with
  | none => refuse .wrongState s
  | some j =>
    let ns := decodeNumbers (fieldAt 0 1 body) (body.drop 1)
    if ns = [] ∨ 32 < ns.length ∨ ns.any (fun n => decide (10 ^ j.plan.width ≤ n)) then refuse .range s
    else if feedCapacity < s.gen.feed.length + ns.length then refuse .full s
    else okReply .none (s.feedIn j.id ns)

/-! ## Audit Store -/

/-- Read Voids (R148): up to 8 visible records from the offset on. -/
def serveReadVoids (_ : Port) (body : List Byte) (s : State) : Served :=
  if s.audit.voids.length < fieldAt 0 2 body then refuse .range s
  else
    okReply (.voids s.audit.voids.length s.audit.inFlight.length
      ((s.audit.voids.drop (fieldAt 0 2 body)).take 8)) s

/-- The n oldest visible records removed (R149). -/
def State.dropVoids (s : State) (n : Nat) : State := s.setAudit { s.audit with voids := s.audit.voids.drop n }

/-- Release Voids (R149): each record removed lowers the count, and the reserve condition is tested (R79). -/
def serveReleaseVoids (_ : Port) (body : List Byte) (s : State) : Served :=
  let n := fieldAt 0 2 body
  if s.audit.voids.length < n then refuse .range s
  else if n = 0 then okReply (.remaining s.audit.voids.length) s
  else okReply (.remaining (s.audit.voids.length - n)) (s.dropVoids n).reserveFall

/-- Read Make-up (R152): up to 16 entries from the offset on. -/
def serveReadMakeUp (_ : Port) (body : List Byte) (s : State) : Served :=
  if s.audit.queue.length < fieldAt 0 2 body then refuse .range s
  else okReply (.makeUp s.audit.queue.length ((s.audit.queue.drop (fieldAt 0 2 body)).take 16)) s

/-- The entry is released by Release Make-up of a job id: WAITING or UNRESOLVED (R152). -/
def MakeUpEntry.released (e : MakeUpEntry) (id : Nat) : Bool := decide (e.job = id) && decide (e.state ≠ .issued)

/-- Release Make-up (R152). -/
def serveReleaseMakeUp (_ : Port) (body : List Byte) (s : State) : Served :=
  let id := fieldAt 0 2 body
  if s.jobs.any (fun j => decide (j.id = id) && decide (j.state = .running)) then refuse .wrongState s
  else
    okReply (.removed (s.audit.queue.filter (fun e => e.released id)).length)
      (s.setAudit { s.audit with queue := s.audit.queue.filter (fun e => !e.released id) })

/-- Read Recovery (R154): every record, at most 4, in the order opened. -/
def serveReadRecovery (_ : Port) (_ : List Byte) (s : State) : Served :=
  okReply (.recovery (s.audit.records.take recordCapacity)) s

/-- Discard Recovery (R154). -/
def serveDiscardRecovery (_ : Port) (body : List Byte) (s : State) : Served :=
  match s.audit.records.find? (fun r => decide (r.job = fieldAt 0 2 body)) with
  | none => refuse .noSuchJob s
  | some r => if r.state = .opened then refuse .wrongState s else okReply .none (s.removeRecord r.job)

/-! ## Line and plies -/

/-- The fields of Set Line that are present (R13). -/
structure LineFields where
  v : Option Nat
  x : Option Nat
  reverseLimit : Option Nat
deriving DecidableEq, Repr

/-- The three fields of a Set Line body. -/
def decodeLine (body : List Byte) : LineFields :=
  { v := optField 0 3 body, x := optField 4 3 body, reverseLimit := optField 8 3 body }

/-- Every present field of Set Line is in range, and every presence byte is 0 or 1 (R13 test 1). -/
def lineInRange (body : List Byte) : Bool :=
  isFlag 0 body && isFlag 4 body && isFlag 8 body && inRange (decodeLine body).v 0 1048576 &&
    inRange (decodeLine body).x 0 1048576 && inRange (decodeLine body).reverseLimit 0 2000

/-- The present fields of Set Line taken; a reverse limit is applied at once in BACKING (R4, R13). -/
def State.takeLine (s : State) (f : LineFields) : State :=
  let s := s.setTrk { s.trk with
    v := f.v.getD s.trk.v, x := f.x.getD s.trk.x, reverseLimit := f.reverseLimit.getD s.trk.reverseLimit }
  if f.reverseLimit.isSome then s.testExcursion else s

/-- Set Line (R13). -/
def serveSetLine (_ : Port) (body : List Byte) (s : State) : Served :=
  let f := decodeLine body
  if lineInRange body = false then refuse .range s
  else if (f.v.isSome ∨ f.x.isSome) ∧ s.trk.epoch.isSome then busyReply s
  else okReply .none (s.takeLine f)

/-- Read Line (R179). -/
def serveReadLine (_ : Port) (_ : List Byte) (s : State) : Served :=
  okReply (.line { v := s.trk.v, x := s.trk.x, reverseLimit := s.trk.reverseLimit, a := s.trk.a, h := s.trk.h,
                   tracker := s.trk.state, excursion := s.trk.excursion, epoch := s.trk.epoch }) s

/-- The settings of Set Ply that are present (R23). -/
structure PlyFields where
  d : Option Nat
  l : Option Nat
  q : Option Nat
  s : Option Nat
  mb : Option Nat
  ma : Option Nat
  reader : Option Nat
  w : Option Nat
  t : Option Nat
  driftLimit : Option Nat
deriving DecidableEq, Repr

/-- The settings of a Set Ply body, in the order of R23. -/
def decodePlyFields (body : List Byte) : PlyFields :=
  { d := optField 1 3 body, l := optField 5 3 body, q := optField 9 3 body, s := optField 13 3 body,
    mb := optField 17 3 body, ma := optField 21 3 body, reader := optField 25 1 body, w := optField 27 3 body,
    t := optField 31 3 body, driftLimit := optField 35 3 body }

/-- Every presence byte of a Set Ply body is 0 or 1. -/
def plyFlags (body : List Byte) : Bool :=
  isFlag 1 body && isFlag 5 body && isFlag 9 body && isFlag 13 body && isFlag 17 body && isFlag 21 body &&
    isFlag 25 body && isFlag 27 body && isFlag 31 body && isFlag 35 body

/-- Every present setting lies in its range (Tables 2-3, 3-1, 6-2 and 7-1). -/
def PlyFields.valid (f : PlyFields) : Bool :=
  inRange f.d 0 4194303 && inRange f.l 0 65535 && inRange f.q 0 1048575 && inRange f.s 0 1048575 &&
    inRange f.mb 0 20000 && inRange f.ma 0 20000 && inRange f.reader 0 1 && inRange f.w 0 4095 &&
    inRange f.t 0 4095 && inRange f.driftLimit 0 4095

/-- A setting that may be changed in FREE alone is present (R23 test 4). -/
def PlyFields.freeOnly (f : PlyFields) : Bool :=
  f.d.isSome || f.l.isSome || f.q.isSome || f.s.isSome || f.mb.isSome || f.ma.isSome || f.reader.isSome

/-- The settings with the present ones replaced. -/
def PlyFields.over (f : PlyFields) (old : PlySettings) : PlySettings :=
  { d := f.d.getD old.d, l := f.l.getD old.l, q := f.q.getD old.q, s := f.s.getD old.s, mb := f.mb.getD old.mb,
    ma := f.ma.getD old.ma, reader := match f.reader with | some n => decide (n = 1) | none => old.reader,
    w := f.w.getD old.w, t := f.t.getD old.t, driftLimit := f.driftLimit.getD old.driftLimit }

/-- The present settings of ply p taken (R23): a new T brings the trend into its bound (R32), and a new T or drift limit
has the drift condition tested (R33). -/
def State.takePly (s : State) (p : Ply) (f : PlyFields) : State :=
  let s := s.setPlies (s.plies.set p (f.over (s.plies.get p)))
  let s := match f.t with
    | some t => s.updMark p (fun m => { m with trend := clampTrend m.trend t })
    | none => s
  if f.t.isSome ∨ f.driftLimit.isSome then s.testDrift p else s

/-- Set Ply (R23). -/
def serveSetPly (_ : Port) (body : List Byte) (s : State) : Served :=
  match Ply.ofNumber (fieldAt 0 1 body) with
  | none => refuse .range s
  | some p =>
    let f := decodePlyFields body
    if s.straps.installed p = false then refuse .plies s
    else if plyFlags body = false ∨ f.valid = false then refuse .range s
    else if f.freeOnly = true ∧ s.trk.epoch.isSome then busyReply s
    else okReply .none (s.takePly p f)

/-- Read Ply (R39). -/
def serveReadPly (_ : Port) (body : List Byte) (s : State) : Served :=
  match Ply.ofNumber (fieldAt 0 1 body) with
  | none => refuse .range s
  | some p => okReply (.ply (s.plies.get p) (s.sync p) (s.marks.get p)) s

/-! ## Drivers and readers -/

/-- The settings of Set Driver that are present (R99). -/
structure DriverFields where
  orientation : Option Nat
  lead : Option Nat
  dropClass : Option Nat
deriving DecidableEq, Repr

/-- The settings of a Set Driver body, in the order of Table 6-2. -/
def decodeDriverFields (body : List Byte) : DriverFields :=
  { orientation := optField 1 1 body, lead := optField 3 3 body, dropClass := optField 7 3 body }

/-- Every present setting is in its range (Table 6-2), and every presence byte is 0 or 1. -/
def driverInRange (body : List Byte) : Bool :=
  isFlag 1 body && isFlag 3 body && isFlag 7 body && inRange (decodeDriverFields body).orientation 0 1 &&
    inRange (decodeDriverFields body).lead 0 4095 && inRange (decodeDriverFields body).dropClass 1 3

/-- The driver with the present settings taken. -/
def DriverFields.over (f : DriverFields) (d : DriverRec) : DriverRec :=
  { d with
    orientation := match f.orientation with
      | some n => (decodeOrientation n).getD d.orientation
      | none => d.orientation
    lead := f.lead.getD d.lead
    dropClass := f.dropClass.getD d.dropClass }

/-- Set Driver (R99). -/
def serveSetDriver (_ : Port) (body : List Byte) (s : State) : Served :=
  match Driver.ofNumber (fieldAt 0 1 body) with
  | none => refuse .range s
  | some d =>
    let f := decodeDriverFields body
    if s.straps.driverInstalled d = false then refuse .plies s
    else if driverInRange body = false then refuse .range s
    else if (f.orientation.isSome ∨ f.lead.isSome ∨ f.dropClass.isSome) ∧ s.trk.epoch.isSome then busyReply s
    else okReply .none (s.updDriver d f.over)

/-- Read Driver (R113). -/
def serveReadDriver (_ : Port) (body : List Byte) (s : State) : Served :=
  match Driver.ofNumber (fieldAt 0 1 body) with
  | none => refuse .range s
  | some d => okReply (.driver (s.drivers.get d)) s

/-- Read Reader (R123): up to 8 expectations from the offset on. -/
def serveReadReader (_ : Port) (body : List Byte) (s : State) : Served :=
  match Ply.ofNumber (fieldAt 0 1 body) with
  | none => refuse .range s
  | some p =>
    let r := s.readers.get p
    if r.expectations.length < fieldAt 1 2 body then refuse .range s
    else
      okReply (.reader
        { q := (s.plies.get p).q, reader := (s.plies.get p).reader
          orientation := (s.drivers.get p.driver).orientation, count := r.expectations.length
          expectations := (r.expectations.drop (fieldAt 1 2 body)).take 8, counts := r.counts }) s

/-! ## Mark capture -/

/-- Arm Capture (R16): a presence byte, the ply and the start slot (log entry 10). -/
def serveArmCapture (_ : Port) (body : List Byte) (s : State) : Served :=
  if isFlag 0 body = false then refuse .range s
  else
    match optField 0 1 body with
    | none => okReply .none (s.setTrk { s.trk with capture := { s.trk.capture with enabled := false, ply := none } })
    | some n =>
      match Ply.ofNumber n with
      | none => refuse .range s
      | some p =>
        if 15 < fieldAt 2 1 body then refuse .range s
        else if s.straps.installed p = false then refuse .plies s
        else
          okReply .none (s.setTrk { s.trk with capture :=
            { s.trk.capture with ply := some p, index := fieldAt 2 1 body, enabled := true } })

/-- Read Capture (R18): up to 8 slots from the first slot on. -/
def serveReadCapture (_ : Port) (body : List Byte) (s : State) : Served :=
  if 15 < fieldAt 0 1 body then refuse .range s
  else
    okReply (.capture s.trk.capture.ply s.trk.capture.enabled s.trk.capture.index
      ((s.trk.capture.slots.drop (fieldAt 0 1 body)).take 8)) s

/-! ## Stop Unit -/

/-- Set Stop Mask (R167): bits 17 to 23 name no cause. The mask's three bytes are taken high byte first (DESIGN CHOICE, log
entry 10). -/
def serveSetStopMask (_ : Port) (body : List Byte) (s : State) : Served :=
  if 2 ^ 17 ≤ fieldAt 0 3 body then refuse .range s
  else okReply .none (s.changeStop (fun u => { u with mask := BitVec.ofNat 17 (fieldAt 0 3 body) }))

/-- Read Stop (R168). -/
def serveReadStop (_ : Port) (_ : List Byte) (s : State) : Served :=
  okReply (.stop s.stop.latched s.stop.mask s.stop.held s.stop.output) s

/-- Clear Stop (R168). The three bytes of the causes' mask are taken high byte first (DESIGN CHOICE, log entry 10). -/
def serveClearStop (_ : Port) (body : List Byte) (s : State) : Served :=
  if 2 ^ 17 ≤ fieldAt 0 3 body then refuse .range s
  else
    let s := s.changeStop (fun u => u.cleared (BitVec.ofNat 17 (fieldAt 0 3 body)))
    okReply (.latched s.stop.latched) s

/-! ## Monitors and tallies -/

/-- The settings of a Set Monitor body, bytes 1 on (R162), over a monitor whose counter and previous-row condition are
cleared and whose ALARMS count is kept; none where a setting is out of its range (Table 10-2). -/
def decodeMonitor (body : List Byte) (old : Monitor) : Option Monitor :=
  let code := fieldAt 1 1 body
  let off := if code = 2 ∨ code = 4 then 3 else 2
  match decodeMonitorSource code (fieldAt 2 1 body) with
  | none => none
  | some src =>
    if fieldAt off 3 body ≤ 15 ∧ isFlag (off + 3) body ∧ isFlag (off + 4) body ∧ isFlag (off + 5) body ∧
        1 ≤ fieldAt (off + 6) 3 body ∧ fieldAt (off + 6) 3 body ≤ 65535 ∧ isFlag (off + 9) body then
      some
        { source := src, threshold := fieldAt off 3 body
          invert := decide (fieldAt (off + 3) 1 body = 1), edge := decide (fieldAt (off + 4) 1 body = 1)
          consecutive := decide (fieldAt (off + 5) 1 body = 1), level := fieldAt (off + 6) 3 body
          stopEnable := decide (fieldAt (off + 9) 1 body = 1), counter := 0, previous := false, alarms := old.alarms }
    else none

/-- Set Monitor (R162). -/
def serveSetMonitor (_ : Port) (body : List Byte) (s : State) : Served :=
  match Mon.ofNumber (fieldAt 0 1 body) with
  | none => refuse .range s
  | some m =>
    match decodeMonitor body (s.monitors.get m) with
    | none => refuse .range s
    | some x => okReply .none (s.setMonitors (s.monitors.set m x))

/-- Read Monitor (R162). -/
def serveReadMonitor (_ : Port) (body : List Byte) (s : State) : Served :=
  match Mon.ofNumber (fieldAt 0 1 body) with
  | none => refuse .range s
  | some m => okReply (.monitor (s.monitors.get m)) s

/-- Read Tallies (R161): the selector is 0 for SHIFT, 1 for the job id that follows it. -/
def serveReadTallies (_ : Port) (body : List Byte) (s : State) : Served :=
  if isFlag 0 body = false then refuse .range s
  else if fieldAt 0 1 body = 0 then okReply (.shift s.shift s.pipe.formsDiscarded) s
  else
    match s.job (fieldAt 1 2 body) with
    | none => refuse .noSuchJob s
    | some j => okReply (.jobTallies j.state j.tallies) s

/-- Clear Shift (R161). -/
def serveClearShift (_ : Port) (_ : List Byte) (s : State) : Served :=
  okReply .none ((s.setShift zeroShift).setPipe { s.pipe with formsDiscarded := 0 })

/-! ## Ports -/

/-- Set Notify (R179). -/
def serveSetNotify (_ : Port) (body : List Byte) (s : State) : Served :=
  let level := optField 0 3 body
  let low := optField 4 3 body
  if (isFlag 0 body && isFlag 4 body && inRange level 1 1024 && inRange low 0 511) = false then refuse .range s
  else
    okReply .none
      ((s.setAudit { s.audit with notifyLevel := level.getD s.audit.notifyLevel }).setGen
        { s.gen with lowMark := low.getD s.gen.lowMark })

/-- Classes acknowledged at a port (R178): they leave the pending set, and an unsent notice is withdrawn where the set
becomes empty. -/
def PortState.acknowledged (x : PortState) (classes : AttentionSet) : PortState :=
  { x with
    pending := x.pending &&& ~~~ classes
    unsent := if x.pending &&& ~~~ classes = 0 then false else x.unsent }

/-- Acknowledge Attention (R178): bits 10 to 15 name no class. The two bytes of the classes' mask are taken high byte first
(DESIGN CHOICE, log entry 10). -/
def serveAcknowledge (port : Port) (body : List Byte) (s : State) : Served :=
  if 2 ^ 10 ≤ fieldAt 0 2 body then refuse .range s
  else
    let x := (s.port port).acknowledged (BitVec.ofNat 10 (fieldAt 0 2 body))
    okReply (.pending x.pending) (s.setPort port x)

/-- The summary value of Line Summary (R179). -/
def State.summaryValue (s : State) (port : Port) : Summary :=
  if slotCount ≤ s.jobs.length then .full
  else if (s.port port).pending ≠ 0 then .attention
  else .ready

/-- Line Summary (R179). -/
def serveLineSummary (port : Port) (_ : List Byte) (s : State) : Served :=
  okReply (.summary
    { summary := s.summaryValue port
      running := match s.running with | some j => j.id | none => 0
      tracker := s.trk.state, stopOutput := s.stop.output
      pending := if s.summaryValue port = .attention then some (s.port port).pending else none }) s

/-- Reset (R177): OK, and the warm reset begins, or waits for the end of the save. -/
def serveReset (_ : Port) (_ : List Byte) (s : State) : Served := okReply .none s.requestReset

/-! ## Serving by kind -/

/-- The request's own rule, by its kind (R173 step 5). -/
def serve (k : RequestKind) (port : Port) (body : List Byte) (s : State) : Served :=
  match k with
  | .loadJob => serveLoadJob port body s
  | .startJob => serveStartJob port body s
  | .haltJob => serveHaltJob port body s
  | .abortJob => serveAbortJob port body s
  | .queryJob => serveQueryJob port body s
  | .collectEnd => serveCollectEnd port body s
  | .feedNumbers => serveFeedNumbers port body s
  | .readVoids => serveReadVoids port body s
  | .releaseVoids => serveReleaseVoids port body s
  | .readMakeUp => serveReadMakeUp port body s
  | .releaseMakeUp => serveReleaseMakeUp port body s
  | .readRecovery => serveReadRecovery port body s
  | .discardRecovery => serveDiscardRecovery port body s
  | .setLine => serveSetLine port body s
  | .readLine => serveReadLine port body s
  | .setPly => serveSetPly port body s
  | .readPly => serveReadPly port body s
  | .setDriver => serveSetDriver port body s
  | .readDriver => serveReadDriver port body s
  | .readReader => serveReadReader port body s
  | .armCapture => serveArmCapture port body s
  | .readCapture => serveReadCapture port body s
  | .setStopMask => serveSetStopMask port body s
  | .readStop => serveReadStop port body s
  | .clearStop => serveClearStop port body s
  | .setMonitor => serveSetMonitor port body s
  | .readMonitor => serveReadMonitor port body s
  | .readTallies => serveReadTallies port body s
  | .clearShift => serveClearShift port body s
  | .setNotify => serveSetNotify port body s
  | .acknowledgeAttention => serveAcknowledge port body s
  | .lineSummary => serveLineSummary port body s
  | .reset => serveReset port body s

end Sys2Proof.Machine
end

