-- ==== Sys2Proof/Machine/Ports.lean ====
section
/-! DEFINITION. The Port Unit: arrival, holding and serving of requests (R172 to R176), the receiver (R172) and the
transmitter (R178). -/

namespace Sys2Proof.Machine

/-- A port holds at most two requests (R174). -/
def heldCapacity : Nat := 2

/-- At most four formed replies wait at a port (R174; log entry 5). -/
def replyCapacity : Nat := 4

/-! ## Serving (R173, R176) -/

/-- What the operating condition makes of a request (Table 11-1). -/
inductive Treatment where
  | served | waits | notReady
deriving DecidableEq, Repr

/-- Table 11-1. In RECOVERING the ports take no request (Table 9-1). -/
def treatment (c : Condition) (hold : ResetHold) (k : RequestKind) : Treatment :=
  match c with
  | .normal => .served
  | .recovering => .waits
  | .resetting =>
    if k.readOnly then .served else match hold with | .defer => .waits | .refuse => .notReady
  | .saving | .saved => if k.readOnly || decide (k = .reset) then .served else .notReady

/-- The port's authority allows the kind (R175). -/
def State.permits (s : State) (port : Port) (k : RequestKind) : Bool :=
  match port with
  | .line => true
  | .panel => match s.straps.panel with | .full => true | .view => k.viewMay | .absent => false

/-- A held request answered by the tests of R173 in order; none while it waits under R176. -/
def State.answer (s : State) (port : Port) (r : Request) : Option Served :=
  match requestKind r.kind with
  | none => some (refuse .unknownKind s)
  | some k =>
    if bodyLengthOk k r.body = false then some (refuse .badLength s)
    else if s.permits port k = false then some (refuse .notPermitted s)
    else
      match treatment s.audit.condition s.straps.hold k with
      | .waits => none
      | .notReady => some (⟨.notReady, .none⟩, s)
      | .served => some (serve k port r.body s)

/-- The frame of a reply to a request (R173). -/
def replyFrame (r : Request) (x : Reply) : ReplyFrame := { kind := r.kind, tag := r.tag, reply := x }

/-- A reply formed at a port: it joins the replies that wait for the transmitter. -/
def PortState.addReply (x : PortState) (f : ReplyFrame) : PortState := { x with replies := x.replies ++ [f] }

/-- The head request of a port answered, and no longer held; none where none is held, four replies wait, or the head
waits (R174). -/
def State.serveHead (s : State) (port : Port) : Option State :=
  if replyCapacity ≤ (s.port port).replies.length then none
  else
    match (s.port port).held with
    | [] => none
    | r :: rest =>
      match s.answer port r with
      | none => none
      | some (x, s') => some (s'.setPort port ({ s'.port port with held := rest }.addReply (replyFrame r x)))

/-- Held requests of a port served in order of arrival, at most `n` of them (R174). -/
def servePort (port : Port) : Nat → State → State
  | 0, s => s
  | n + 1, s =>
    match s.serveHead port with
    | none => s
    | some s' => servePort port n s'

/-- Every request of a port that can be served, served. -/
def State.pump (s : State) (port : Port) : State := servePort port heldCapacity s

/-- Held requests of both ports served, at most `n`; where either port could be next, the choice is free (log entry 4). -/
def serveBoth : Nat → State → State
  | 0, s => s
  | n + 1, s =>
    match s.serveHead .line, s.serveHead .panel with
    | none, none => s
    | some s', none => serveBoth n s'
    | none, some s' => serveBoth n s'
    | some _, some _ =>
      match (s.choose 2).2.serveHead (if (s.choose 2).1 = 0 then .line else .panel) with
      | some s' => serveBoth n s'
      | none => s

/-- Every request that can be served, at either port. -/
def State.pumpBoth (s : State) : State := serveBoth (2 * heldCapacity) s

/-! ## Arrival (R172, R174) -/

/-- A port that takes bytes: not the panel port under PANEL = ABSENT (R175), and neither in RECOVERING (R180). -/
def State.listens (s : State) (port : Port) : Bool :=
  !s.portAbsent port && !decide (s.audit.condition = .recovering)

/-- A received request taken by R174: answered BUSY where two are held, discarded where four replies wait besides, else
held and served if it can be. -/
def State.arrive (s : State) (port : Port) (r : Request) : State :=
  let x := s.port port
  if heldCapacity ≤ x.held.length then
    if replyCapacity ≤ x.replies.length then s
    else s.setPort port (x.addReply (replyFrame r ⟨.busy, .none⟩))
  else (s.setPort port { x with held := x.held ++ [r] }).pump port

/-- The receiver of a port in a state. -/
def State.setReceiver (s : State) (port : Port) (x : Receiver) : State :=
  s.setPort port { s.port port with receiver := x }

/-- A frame of a request kind, a tag and a body whose CRC is good, whole at a port (R172). A kind of 0x80 or above is
discarded; a body above 240 bytes is in no frame. The receiver is HUNTING afterwards. -/
def State.receive (s : State) (port : Port) (r : Request) : State :=
  if s.listens port = false then s
  else if isReplyKind r.kind = true ∨ 240 < r.body.length then s.setReceiver port .hunting
  else (s.setReceiver port .hunting).arrive port r

/-- One byte at a port's receiver (R172). -/
def State.takeByte (s : State) (port : Port) (b : Byte) : State :=
  if s.listens port = false then s
  else
    match (s.port port).receiver with
    | .hunting => if b = startByte then s.setReceiver port (.inFrame []) else s
    | .inFrame got =>
      match gatheredSoFar (got ++ [b]) with
      | .more => s.setReceiver port (.inFrame (got ++ [b]))
      | .discard => s.setReceiver port .hunting
      | .request r => s.receive port r

/-! ## The transmitter (R178) -/

/-- A free transmitter begins its next frame: the oldest waiting reply, else the unsent notice, which takes the pending
set as it stands (R178). -/
def PortState.started (x : PortState) : PortState :=
  match x.sending with
  | some _ => x
  | none =>
    if x.replies ≠ [] then { x with sending := some .reply }
    else if x.unsent then { x with sending := some (.notice x.pending), unsent := false }
    else x

/-- The frame being sent has gone: a reply leaves the replies that wait. -/
def PortState.sent (x : PortState) : PortState :=
  match x.sending with
  | none => x
  | some .reply => { x with sending := none, replies := x.replies.drop 1 }
  | some (.notice _) => { x with sending := none }

/-- Both transmitters, at the end of a command: what it formed and raised begins to be sent where one is free (log
entry 5). -/
def State.startSending (s : State) : State := (s.setLine s.line.started).setPanel s.panel.started

/-- The transmitter of a port has sent a frame (R174, R178): it begins the next, and serving resumes. -/
def State.frameSent (s : State) (port : Port) : State :=
  if (s.port port).sending = none then s
  else (s.setPort port (s.port port).sent.started).pump port

/-- Every command ends with the transmitters started, and answers a next state. -/
def finish (s : State) : Host.Outcome State Fault Refusal := .next s.startSending

/-- A request received at a port, to its end. -/
def request (port : Port) (kind tag : Byte) (body : List Byte) (s : State) : Host.Outcome State Fault Refusal :=
  finish (s.receive port ⟨kind, tag, body⟩)

end Sys2Proof.Machine
end

