-- ==== Sys2Proof/Machine/HeadCommands.lean ====
section
/-! DEFINITION. The commands of the head link: driver replies (R105, R106), READY notices (R109) and discards (R97). -/

namespace Sys2Proof.Machine

/-- The driver after a matched DONE (Table 6-5). -/
def DriverRec.afterDone (d : DriverRec) : DriverRec :=
  { d with
    state := if d.state = .suspect then .ready else d.state
    noReply := 0
    counts := { d.counts with done := satAdd d.counts.done 1 } }

/-- The driver after a matched LATE (Table 6-5). -/
def DriverRec.afterLate (d : DriverRec) : DriverRec :=
  { d with noReply := 0, counts := { d.counts with late := satAdd d.counts.late 1 } }

/-- The driver after a matched FAULT (Table 6-5). -/
def DriverRec.afterFault (d : DriverRec) : DriverRec :=
  { d with noReply := 0, counts := { d.counts with fault := satAdd d.counts.fault 1 } }

/-- The driver after a matched NOT_READY (Table 6-5). -/
def DriverRec.afterNotReady (d : DriverRec) : DriverRec :=
  { d with
    state := if d.state = .ready then .suspect else d.state
    counts := { d.counts with notReady := satAdd d.counts.notReady 1 } }

/-- A matched DONE reaches the row (R82, Table 5-3). -/
def Row.orderDone (p : Ply) (r : Row) : Row := r.updPly p (fun x => { x with order := .done })

/-- A matched LATE reaches the row (R82, Table 5-3). -/
def Row.orderLate (p : Ply) (r : Row) : Row :=
  (r.updPly p (fun x => { x with order := .late true })).addCause .headLate

/-- The driver after a READY notice: its orders abandoned, the no-reply count 0, READY (R109 steps 1 and 2). -/
def DriverRec.restarted (d : DriverRec) : DriverRec := { d.abandon with noReply := 0, state := .ready }

/-- A READY notice taken (R109): the end of a DOWN condition is reported and SYNC sent. -/
def State.takeReady (s : State) (d : Driver) : State :=
  ((s.updDriver d DriverRec.restarted).endLevel (.driverDown d)).sync1 d

/-- DONE_REPLY (R105, R106). -/
def execDoneReply (d : Driver) (m : LinkReply) (s : State) : Host.Outcome State Fault Refusal :=
  finish (s.takeReply d m DriverRec.afterDone Row.orderDone)

/-- LATE_REPLY (R105, R106). -/
def execLateReply (d : Driver) (m : LinkReply) (s : State) : Host.Outcome State Fault Refusal :=
  finish (s.takeReply d m DriverRec.afterLate Row.orderLate)

/-- FAULT_REPLY (R105, R106). -/
def execFaultReply (d : Driver) (m : LinkReply) (lanes : List Nat) (s : State) : Host.Outcome State Fault Refusal :=
  finish (s.takeReply d m DriverRec.afterFault (fun p r => r.fault p lanes))

/-- NOT_READY_REPLY (R105, R106): a FAULT of every lane of the order. -/
def execNotReadyReply (d : Driver) (m : LinkReply) (s : State) : Host.Outcome State Fault Refusal :=
  finish (s.takeReply d m DriverRec.afterNotReady (fun p r => r.fault p r.orderLanes))

/-- READY_NOTICE (R109). -/
def execReadyNotice (d : Driver) (s : State) : Host.Outcome State Fault Refusal := finish (s.takeReady d)

/-- HEAD_LINK_DISCARD (R97): counted for the driver whose address can be read, if any. -/
def execHeadLinkDiscard (d : Option Driver) (s : State) : Host.Outcome State Fault Refusal :=
  finish (match d with
    | some d => s.countDriver d (fun c => { c with linkErrors := satAdd c.linkErrors 1 })
    | none => s)

end Sys2Proof.Machine
end

