-- ==== Sys2Proof/Machine/PortCommands.lean ====
section
/-! DEFINITION. The commands of the two ports: what the receiver and the transmitter meet (R172, R178), and a request of
each kind of Table 11-4 received whole (R172, R174). -/

namespace Sys2Proof.Machine

/-- FRAME_GAP_TIMEOUT (R172): a receiver IN_FRAME discards what it gathers. -/
def execFrameGapTimeout (port : Port) (s : State) : Host.Outcome State Fault Refusal :=
  finish (s.setReceiver port .hunting)

/-- FRAME_DISCARD (R172): bytes at a receiver, one after another. A frame of a bad length is discarded at
its length byte, any other once it is whole (log entry 28); bytes that make a good frame make a received request all the same
(log entry 8). -/
def execFrameDiscard (port : Port) (bytes : List Byte) (s : State) : Host.Outcome State Fault Refusal :=
  finish (bytes.foldl (fun s b => s.takeByte port b) s)

/-- FRAME_SENT (R174, R178). -/
def execFrameSent (port : Port) (s : State) : Host.Outcome State Fault Refusal := finish (s.frameSent port)

/-- UNKNOWN_REQUEST (R173 test 1): a request of a kind not in Table 11-4. -/
def execUnknownRequest (port : Port) (kind tag : Byte) (body : List Byte) (s : State) :
    Host.Outcome State Fault Refusal := request port kind tag body s

/-- LOAD_JOB (R126, R127). -/
def execLoadJob (port : Port) (tag : Byte) (body : List Byte) (s : State) : Host.Outcome State Fault Refusal :=
  request port RequestKind.loadJob.code tag body s

/-- START_JOB (R128, R129). -/
def execStartJob (port : Port) (tag : Byte) (body : List Byte) (s : State) : Host.Outcome State Fault Refusal :=
  request port RequestKind.startJob.code tag body s

/-- HALT_JOB (R135). -/
def execHaltJob (port : Port) (tag : Byte) (body : List Byte) (s : State) : Host.Outcome State Fault Refusal :=
  request port RequestKind.haltJob.code tag body s

/-- ABORT_JOB (R136). -/
def execAbortJob (port : Port) (tag : Byte) (body : List Byte) (s : State) : Host.Outcome State Fault Refusal :=
  request port RequestKind.abortJob.code tag body s

/-- QUERY_JOB (R137). -/
def execQueryJob (port : Port) (tag : Byte) (body : List Byte) (s : State) : Host.Outcome State Fault Refusal :=
  request port RequestKind.queryJob.code tag body s

/-- COLLECT_END (R138). -/
def execCollectEnd (port : Port) (tag : Byte) (body : List Byte) (s : State) : Host.Outcome State Fault Refusal :=
  request port RequestKind.collectEnd.code tag body s

/-- FEED_NUMBERS (R64). -/
def execFeedNumbers (port : Port) (tag : Byte) (body : List Byte) (s : State) : Host.Outcome State Fault Refusal :=
  request port RequestKind.feedNumbers.code tag body s

/-- READ_VOIDS (R148). -/
def execReadVoids (port : Port) (tag : Byte) (body : List Byte) (s : State) : Host.Outcome State Fault Refusal :=
  request port RequestKind.readVoids.code tag body s

/-- RELEASE_VOIDS (R149). -/
def execReleaseVoids (port : Port) (tag : Byte) (body : List Byte) (s : State) : Host.Outcome State Fault Refusal :=
  request port RequestKind.releaseVoids.code tag body s

/-- READ_MAKE_UP (R152). -/
def execReadMakeUp (port : Port) (tag : Byte) (body : List Byte) (s : State) : Host.Outcome State Fault Refusal :=
  request port RequestKind.readMakeUp.code tag body s

/-- RELEASE_MAKE_UP (R152). -/
def execReleaseMakeUp (port : Port) (tag : Byte) (body : List Byte) (s : State) : Host.Outcome State Fault Refusal :=
  request port RequestKind.releaseMakeUp.code tag body s

/-- READ_RECOVERY (R154). -/
def execReadRecovery (port : Port) (tag : Byte) (body : List Byte) (s : State) : Host.Outcome State Fault Refusal :=
  request port RequestKind.readRecovery.code tag body s

/-- DISCARD_RECOVERY (R154). -/
def execDiscardRecovery (port : Port) (tag : Byte) (body : List Byte) (s : State) : Host.Outcome State Fault Refusal :=
  request port RequestKind.discardRecovery.code tag body s

/-- SET_LINE (R13). -/
def execSetLine (port : Port) (tag : Byte) (body : List Byte) (s : State) : Host.Outcome State Fault Refusal :=
  request port RequestKind.setLine.code tag body s

/-- READ_LINE (R179). -/
def execReadLine (port : Port) (tag : Byte) (body : List Byte) (s : State) : Host.Outcome State Fault Refusal :=
  request port RequestKind.readLine.code tag body s

/-- SET_PLY (R23). -/
def execSetPly (port : Port) (tag : Byte) (body : List Byte) (s : State) : Host.Outcome State Fault Refusal :=
  request port RequestKind.setPly.code tag body s

/-- READ_PLY (R39). -/
def execReadPly (port : Port) (tag : Byte) (body : List Byte) (s : State) : Host.Outcome State Fault Refusal :=
  request port RequestKind.readPly.code tag body s

/-- SET_DRIVER (R99). -/
def execSetDriver (port : Port) (tag : Byte) (body : List Byte) (s : State) : Host.Outcome State Fault Refusal :=
  request port RequestKind.setDriver.code tag body s

/-- READ_DRIVER (R113). -/
def execReadDriver (port : Port) (tag : Byte) (body : List Byte) (s : State) : Host.Outcome State Fault Refusal :=
  request port RequestKind.readDriver.code tag body s

/-- READ_READER (R123). -/
def execReadReader (port : Port) (tag : Byte) (body : List Byte) (s : State) : Host.Outcome State Fault Refusal :=
  request port RequestKind.readReader.code tag body s

/-- ARM_CAPTURE (R16). -/
def execArmCapture (port : Port) (tag : Byte) (body : List Byte) (s : State) : Host.Outcome State Fault Refusal :=
  request port RequestKind.armCapture.code tag body s

/-- READ_CAPTURE (R18). -/
def execReadCapture (port : Port) (tag : Byte) (body : List Byte) (s : State) : Host.Outcome State Fault Refusal :=
  request port RequestKind.readCapture.code tag body s

/-- SET_STOP_MASK (R167). -/
def execSetStopMask (port : Port) (tag : Byte) (body : List Byte) (s : State) : Host.Outcome State Fault Refusal :=
  request port RequestKind.setStopMask.code tag body s

/-- READ_STOP (R168). -/
def execReadStop (port : Port) (tag : Byte) (body : List Byte) (s : State) : Host.Outcome State Fault Refusal :=
  request port RequestKind.readStop.code tag body s

/-- CLEAR_STOP (R168). -/
def execClearStop (port : Port) (tag : Byte) (body : List Byte) (s : State) : Host.Outcome State Fault Refusal :=
  request port RequestKind.clearStop.code tag body s

/-- SET_MONITOR (R162). -/
def execSetMonitor (port : Port) (tag : Byte) (body : List Byte) (s : State) : Host.Outcome State Fault Refusal :=
  request port RequestKind.setMonitor.code tag body s

/-- READ_MONITOR (R162). -/
def execReadMonitor (port : Port) (tag : Byte) (body : List Byte) (s : State) : Host.Outcome State Fault Refusal :=
  request port RequestKind.readMonitor.code tag body s

/-- READ_TALLIES (R161). -/
def execReadTallies (port : Port) (tag : Byte) (body : List Byte) (s : State) : Host.Outcome State Fault Refusal :=
  request port RequestKind.readTallies.code tag body s

/-- CLEAR_SHIFT (R161). -/
def execClearShift (port : Port) (tag : Byte) (body : List Byte) (s : State) : Host.Outcome State Fault Refusal :=
  request port RequestKind.clearShift.code tag body s

/-- SET_NOTIFY (R179). -/
def execSetNotify (port : Port) (tag : Byte) (body : List Byte) (s : State) : Host.Outcome State Fault Refusal :=
  request port RequestKind.setNotify.code tag body s

/-- ACKNOWLEDGE_ATTENTION (R178). -/
def execAcknowledgeAttention (port : Port) (tag : Byte) (body : List Byte) (s : State) : Host.Outcome State Fault Refusal :=
  request port RequestKind.acknowledgeAttention.code tag body s

/-- LINE_SUMMARY (R179). -/
def execLineSummary (port : Port) (tag : Byte) (body : List Byte) (s : State) : Host.Outcome State Fault Refusal :=
  request port RequestKind.lineSummary.code tag body s

/-- RESET (R177). -/
def execReset (port : Port) (tag : Byte) (body : List Byte) (s : State) : Host.Outcome State Fault Refusal :=
  request port RequestKind.reset.code tag body s

end Sys2Proof.Machine
end

