-- ==== Sys2Proof/Machine/PressCommands.lean ====
section
/-! DEFINITION. The commands of the press side: encoder counts (R1, R4), sensor detections and reader results (R24, R43,
R117), and the position events that their owners take (R2). -/

namespace Sys2Proof.Machine

/-! ## Position events (R2) -/

/-- A due position event taken by its owner (R36, R45, R85, R102, R170). -/
def State.fireEvent (s : State) (ev : PosEvent) : State :=
  match ev with
  | .windowEnd p => s.fireWindow p
  | .zoneExpiry p => s.fireExpiry p
  | .send p row => s.fireSend p row
  | .merge row => s.fireMerge row
  | .marker row => s.fireMarker row
  | .delivery row => s.fireDelivery row
  | .pulseEnd l => s.firePulseEnd l

/-- The position events that are due: raised and not yet taken (R2). -/
def State.due (s : State) : List Scheduled := s.trk.schedule.filter s.trk.isDue

/-- The due events of the purposes `f` taken, at most `n`, in an order the model leaves free (R2; log entry 3). -/
def takeDue (f : PosEvent → Bool) : Nat → State → State
  | 0, s => s
  | n + 1, s =>
    let ready := s.due.filter (fun x => f x.ev)
    match ready[(s.choose ready.length).1]? with
    | some x => takeDue f n ((s.choose ready.length).2.fireEvent x.ev)
    | none => s

/-- The due events of the purposes `f` that no command has taken, taken before the web moves (log entry 2). -/
def State.settle (s : State) (f : PosEvent → Bool) : State := takeDue f s.trk.schedule.length s

/-! ## Encoder counts (R1, R4) -/

/-- The Tracker after a forward count: A one on, H with it where A has passed H, and the excursion ended where A equals
H (R1, R4). -/
def Tracker.forward (t : Tracker) : Tracker :=
  let a := posFwd t.a 1
  let h := if isAhead a t.h then a else t.h
  { t with a := a, h := h, excursion := if a = h then .none else t.excursion }

/-- The Tracker after a reverse count: A one back, and NONE becomes BACKING (R1, R4). -/
def Tracker.reverse (t : Tracker) : Tracker :=
  { t with a := posBack t.a 1, excursion := if t.excursion = .none then .backing else t.excursion }

/-- What comes about before the web moves: the due events of the purposes `f` that no command has taken (log entry 2), and as many
of the steps that a warm reset in progress still has to take as the model leaves free (log entry 16). -/
def State.caughtUp (s : State) (f : PosEvent → Bool) : State := (s.settle f).advanceReset

/-- A marker or a delivery raised at H may be taken before a reverse excursion reported in the same event or after it (R96). So where
a reverse count takes A behind H and the reverse limit is 0, with which it reports the excursion, these two wait for their own
command or the count after: a DESIGN CHOICE, log entry 2. Nothing else waits: while A is behind H no flywheel falls due, and no row
opens or merges (R4, R92). -/
def State.takenBeforeReverse (s : State) (ev : PosEvent) : Bool :=
  match ev with
  | .marker _ | .delivery _ => s.trk.retravel || decide (0 < s.trk.reverseLimit)
  | _ => true

/-- FORWARD_COUNT (R1, R4). The position events of the new H are due from here on (R2). -/
def execForwardCount (s : State) : Host.Outcome State Fault Refusal :=
  let s := s.caughtUp (fun _ => true)
  finish (s.setTrk s.trk.forward)

/-- REVERSE_COUNT (R1, R4, R96). -/
def execReverseCount (s : State) : Host.Outcome State Fault Refusal :=
  let s := s.caughtUp s.takenBeforeReverse
  finish (s.setTrk s.trk.reverse).testExcursion

/-! ## Sensors and readers -/

/-- CUE_MARK_DETECTION (R24). -/
def execCueMarkDetection (p : Ply) (s : State) : Host.Outcome State Fault Refusal := finish (s.takeMark p)

/-- SPLICE_DETECTION (R43). -/
def execSpliceDetection (p : Ply) (s : State) : Host.Outcome State Fault Refusal := finish (s.takeSplice p)

/-- READ_RESULT (R117). -/
def execReadResult (p : Ply) (r : ReadReport) (s : State) : Host.Outcome State Fault Refusal :=
  finish (s.takeRead p r)

/-! ## Position events by their rows of the table -/

/-- MARK_WINDOW_END (R36). -/
def execMarkWindowEnd (p : Ply) (s : State) : Host.Outcome State Fault Refusal := finish (s.fireWindow p)

/-- ZONE_EXPIRY (R45). -/
def execZoneExpiry (p : Ply) (s : State) : Host.Outcome State Fault Refusal := finish (s.fireExpiry p)

/-- SEND_POSITION (R102). -/
def execSendPosition (p : Ply) (row : Nat) (s : State) : Host.Outcome State Fault Refusal :=
  finish (s.fireSend p row)

/-- MERGE (R86). -/
def execMerge (row : Nat) (s : State) : Host.Outcome State Fault Refusal := finish (s.fireMerge row)

/-- MARKER (R87). -/
def execMarker (row : Nat) (s : State) : Host.Outcome State Fault Refusal := finish (s.fireMarker row)

/-- PULSE_END (R170). -/
def execPulseEnd (l : Lane) (s : State) : Host.Outcome State Fault Refusal := finish (s.firePulseEnd l)

/-- DELIVERY (R88). -/
def execDelivery (row : Nat) (s : State) : Host.Outcome State Fault Refusal := finish (s.fireDelivery row)

end Sys2Proof.Machine
end

