-- ==== Sys2Proof/Machine/StoreCommands.lean ====
section
/-! DEFINITION. The commands of the Audit Store and of power: power-up and recovery (R158, R180), append completions
(R147), warm reset (R155, R156) and power-fail save (R157). -/

namespace Sys2Proof.Machine

/-- POWER_UP (R180). -/
def execPowerUp (straps : Straps) (s : State) : Host.Outcome State Fault Refusal := finish (s.powerUp straps)

/-- RECOVERY_COMPLETE (R158): the recovery ends. The event arises in RECOVERING alone (log entry 7). -/
def execRecoveryComplete (s : State) : Host.Outcome State Fault Refusal :=
  finish (if s.audit.condition = .recovering then s.endRecovery else s)

/-- APPEND_COMPLETE (R147): the oldest append in flight. In RECOVERING the appends left in flight complete within the
recovery (R158 step 1), and the event does not arise: a DESIGN CHOICE, log entry 7. -/
def execAppendComplete (s : State) : Host.Outcome State Fault Refusal :=
  finish (if s.audit.condition = .recovering then s else s.completeAppend)

/-- RESET_LINE (R155, R156): an assertion of the RESET line. -/
def execResetLine (s : State) : Host.Outcome State Fault Refusal := finish s.requestReset

/-- RESET_COMPLETE (R155 step 5, R176): every append has completed in RESETTING. The reset ends, and the requests that
waited are served. The event arises in no other case (log entry 7). -/
def execResetComplete (s : State) : Host.Outcome State Fault Refusal :=
  finish (if s.audit.condition = .resetting ∧ s.audit.inFlight = [] then s.endReset.pumpBoth else s)

/-- POWER_FAIL_WARNING (R156 to R158): the warning input asserted or released. Asserted, it begins a save in NORMAL and
RESETTING, and requests that waited under RESETTING are then answered (R176). -/
def execPowerFailWarning (asserted : Bool) (s : State) : Host.Outcome State Fault Refusal :=
  finish (if asserted then (s.setPowerFail true).warnPower.pumpBoth else s.setPowerFail false)

/-- SAVE_COMPLETE (R157 steps 3 and 4): the pipeline is empty and every append has completed in SAVING. The event arises
in no other case (log entry 7). -/
def execSaveComplete (s : State) : Host.Outcome State Fault Refusal :=
  finish (if s.audit.condition = .saving ∧ s.pipe.rows = [] ∧ s.audit.inFlight = [] then s.endSave else s)

end Sys2Proof.Machine
end

