-- ==== Sys2Proof/Machine/Dispatch.lean ====
section
/-! DEFINITION. One arm for each command: its meaning. -/

namespace Sys2Proof.Machine

/-- The command's effect on everything but the queue. -/
def exec (i : Instr) (s : State) : Host.Outcome State Fault Refusal :=
  match i with
  | .powerUp straps => Sys2Proof.Machine.execPowerUp straps s
  | .recoveryComplete => Sys2Proof.Machine.execRecoveryComplete s
  | .forwardCount => Sys2Proof.Machine.execForwardCount s
  | .reverseCount => Sys2Proof.Machine.execReverseCount s
  | .cueMarkDetection p => Sys2Proof.Machine.execCueMarkDetection p s
  | .markWindowEnd p => Sys2Proof.Machine.execMarkWindowEnd p s
  | .spliceDetection p => Sys2Proof.Machine.execSpliceDetection p s
  | .zoneExpiry p => Sys2Proof.Machine.execZoneExpiry p s
  | .sendPosition p row => Sys2Proof.Machine.execSendPosition p row s
  | .doneReply d m => Sys2Proof.Machine.execDoneReply d m s
  | .lateReply d m => Sys2Proof.Machine.execLateReply d m s
  | .faultReply d m lanes => Sys2Proof.Machine.execFaultReply d m lanes s
  | .notReadyReply d m => Sys2Proof.Machine.execNotReadyReply d m s
  | .readyNotice d => Sys2Proof.Machine.execReadyNotice d s
  | .headLinkDiscard d => Sys2Proof.Machine.execHeadLinkDiscard d s
  | .readResult p r => Sys2Proof.Machine.execReadResult p r s
  | .merge row => Sys2Proof.Machine.execMerge row s
  | .marker row => Sys2Proof.Machine.execMarker row s
  | .pulseEnd l => Sys2Proof.Machine.execPulseEnd l s
  | .delivery row => Sys2Proof.Machine.execDelivery row s
  | .appendComplete => Sys2Proof.Machine.execAppendComplete s
  | .resetLine => Sys2Proof.Machine.execResetLine s
  | .resetComplete => Sys2Proof.Machine.execResetComplete s
  | .powerFailWarning asserted => Sys2Proof.Machine.execPowerFailWarning asserted s
  | .saveComplete => Sys2Proof.Machine.execSaveComplete s
  | .frameGapTimeout port => Sys2Proof.Machine.execFrameGapTimeout port s
  | .frameDiscard port bytes => Sys2Proof.Machine.execFrameDiscard port bytes s
  | .frameSent port => Sys2Proof.Machine.execFrameSent port s
  | .unknownRequest port kind tag body => Sys2Proof.Machine.execUnknownRequest port kind tag body s
  | .loadJob port tag body => Sys2Proof.Machine.execLoadJob port tag body s
  | .startJob port tag body => Sys2Proof.Machine.execStartJob port tag body s
  | .haltJob port tag body => Sys2Proof.Machine.execHaltJob port tag body s
  | .abortJob port tag body => Sys2Proof.Machine.execAbortJob port tag body s
  | .queryJob port tag body => Sys2Proof.Machine.execQueryJob port tag body s
  | .collectEnd port tag body => Sys2Proof.Machine.execCollectEnd port tag body s
  | .feedNumbers port tag body => Sys2Proof.Machine.execFeedNumbers port tag body s
  | .readVoids port tag body => Sys2Proof.Machine.execReadVoids port tag body s
  | .releaseVoids port tag body => Sys2Proof.Machine.execReleaseVoids port tag body s
  | .readMakeUp port tag body => Sys2Proof.Machine.execReadMakeUp port tag body s
  | .releaseMakeUp port tag body => Sys2Proof.Machine.execReleaseMakeUp port tag body s
  | .readRecovery port tag body => Sys2Proof.Machine.execReadRecovery port tag body s
  | .discardRecovery port tag body => Sys2Proof.Machine.execDiscardRecovery port tag body s
  | .setLine port tag body => Sys2Proof.Machine.execSetLine port tag body s
  | .readLine port tag body => Sys2Proof.Machine.execReadLine port tag body s
  | .setPly port tag body => Sys2Proof.Machine.execSetPly port tag body s
  | .readPly port tag body => Sys2Proof.Machine.execReadPly port tag body s
  | .setDriver port tag body => Sys2Proof.Machine.execSetDriver port tag body s
  | .readDriver port tag body => Sys2Proof.Machine.execReadDriver port tag body s
  | .readReader port tag body => Sys2Proof.Machine.execReadReader port tag body s
  | .armCapture port tag body => Sys2Proof.Machine.execArmCapture port tag body s
  | .readCapture port tag body => Sys2Proof.Machine.execReadCapture port tag body s
  | .setStopMask port tag body => Sys2Proof.Machine.execSetStopMask port tag body s
  | .readStop port tag body => Sys2Proof.Machine.execReadStop port tag body s
  | .clearStop port tag body => Sys2Proof.Machine.execClearStop port tag body s
  | .setMonitor port tag body => Sys2Proof.Machine.execSetMonitor port tag body s
  | .readMonitor port tag body => Sys2Proof.Machine.execReadMonitor port tag body s
  | .readTallies port tag body => Sys2Proof.Machine.execReadTallies port tag body s
  | .clearShift port tag body => Sys2Proof.Machine.execClearShift port tag body s
  | .setNotify port tag body => Sys2Proof.Machine.execSetNotify port tag body s
  | .acknowledgeAttention port tag body => Sys2Proof.Machine.execAcknowledgeAttention port tag body s
  | .lineSummary port tag body => Sys2Proof.Machine.execLineSummary port tag body s
  | .reset port tag body => Sys2Proof.Machine.execReset port tag body s

end Sys2Proof.Machine
end

