-- ==== Sys2Proof/Safety.lean ====
section
/-! DEFINITION. What counts as a safe run, in the terms the statements use: the outcome of a command, and the invariants
of the state, each as its rule gives it. -/

namespace Sys2Proof.Machine

/-- The outcome is a next state. -/
def IsNext (o : Host.Outcome State Fault Refusal) : Prop := ∃ t, o = .next t

/-- A property that every step keeps. -/
def KeptByStep (inv : State → Prop) : Prop := ∀ s t, inv s → step s = .next t → inv t

/-- The command by which a position event is taken (R2). -/
def PosEvent.command (ev : PosEvent) : Instr :=
  match ev with
  | .windowEnd p => .markWindowEnd p
  | .zoneExpiry p => .zoneExpiry p
  | .send p k => .sendPosition p k
  | .merge k => .merge k
  | .marker k => .marker k
  | .delivery k => .delivery k
  | .pulseEnd l => .pulseEnd l

/-! ## A request at a port -/

/-- The port takes a request and answers it in the same event (R174): it takes bytes, holds no request, and has room
for a reply. -/
def State.Ready (s : State) (port : Port) : Prop :=
  s.listens port = true ∧ (s.port port).held = [] ∧ (s.port port).replies.length < 4

/-- The port takes a request of the kind, and serves it whatever the kind: it is ready, its authority allows the kind
(R175) and the condition is NORMAL (R176). -/
def State.Takes (s : State) (port : Port) (k : RequestKind) : Prop :=
  s.Ready port ∧ s.permits port k = true ∧ s.audit.condition = .normal

/-- The state once a request of a kind byte and tag at the port has been answered, its effect being already in `s`: the
receiver HUNTING, the reply behind those that wait, and the transmitters started where they were free. -/
def State.answered (s : State) (port : Port) (kind tag : Byte) (x : Reply) : State :=
  (s.setPort port { s.port port with
    receiver := .hunting
    replies := (s.port port).replies ++ [{ kind := kind, tag := tag, reply := x }] }).startSending

/-- OK with data (Table 11-5). -/
def Reply.okay (d : ReplyData) : Reply := ⟨.ok, d⟩

/-- OK with nothing further. -/
def Reply.plain : Reply := ⟨.ok, .none⟩

/-- REFUSED with a reason. -/
def Reply.refusal (why : Reason) : Reply := ⟨.refused why, .none⟩

/-- BUSY. -/
def Reply.busy : Reply := ⟨.busy, .none⟩

/-- HELD with the end record of an ENDED job. -/
def Reply.heldFor (j : Job) : Reply := ⟨.held, match j.endRec with | some e => .endRecord e | none => .none⟩

/-! ## A form reported for a row -/

/-- In TRACKING, `cmd` is a mark of ply p, or the end of its window, that gives row k a form of ply p at cue position `c`: a
mark that passes the tests of R24 and is mapped to a row past the ply's last (R26, R29, R34), or a flywheel (R36). Its form
report carries the assignment `a`. -/
def State.Reports (s : State) (cmd : Instr) (p : Ply) (ep : Epoch) (o0 : Pos) (k : Nat) (c : Pos) (a : Assignment) :
    Prop :=
  s.trk.epoch = some ep ∧ ep.o0 = some o0 ∧ inMask ep.mask p = true ∧
  ((∃ e : Int, cmd = .cueMarkDetection p ∧ c = s.trk.h ∧ a = .mark c e ∧ s.trk.retravel = false ∧
      (∀ g, (s.marks.get p).spacing = some g → g.dist ≤ 2 * posDiff c g.pos) ∧
      mapMark o0 ep.repeatUm (s.pipe.nextIndex.getD 4294967296) (c + BitVec.ofNat 40 (s.plies.get p).d) =
        ((k : Int), e) ∧
      (∀ i, (s.marks.get p).lastRow = some i → i < k)) ∨
   (∃ w x, cmd = .markWindowEnd p ∧ s.trk.dueEntry (.windowEnd p) = some w ∧ (s.marks.get p).expected = some x ∧
      x.row + 1 = (k : Int) ∧ c = x.pos ∧ a = .flywheel c))

/-- The send position of ply p's form at cue position `c` (R81 step 3). -/
def State.sendPos (s : State) (p : Ply) (c : Pos) : Pos :=
  c + BitVec.ofNat 40 (s.plies.get p).l - BitVec.ofNat 40 (s.drivers.get p.driver).lead

/-- Row k, its origin given, can be opened and given ply p's form with no event of it due: nothing of the row is scheduled,
and its merge, marker, delivery and send positions lie ahead of H. -/
def State.RowAhead (s : State) (k : Nat) (origin : Pos) (p : Ply) (c : Pos) : Prop :=
  (∀ y ∈ s.trk.schedule, y.ev ≠ .merge k ∧ y.ev ≠ .marker k ∧ y.ev ≠ .delivery k ∧ y.ev ≠ .send p k) ∧
  isAhead origin s.trk.h = true ∧ isAhead (origin + BitVec.ofNat 40 s.trk.v) s.trk.h = true ∧
  isAhead (origin + BitVec.ofNat 40 s.trk.x) s.trk.h = true ∧ isAhead (s.sendPos p c) s.trk.h = true

/-- Ply p's state in the Mark Unit once a form of it at row k's index is reported: an accepted mark at `c` with register error
`e` (R24, R25, R31 to R35, R37), or a flywheel at `c` (R36, R37). -/
def State.formMark (s : State) (p : Ply) (ep : Epoch) (k : Nat) (a : Assignment) : MarkPly :=
  let m := s.marks.get p
  let rt := rowDistance ep.repeatUm k
  match a with
  | .none => m
  | .mark c e =>
    let set := s.plies.get p
    let inRegister : Bool := decide (|e| ≤ (set.t : Int))
    let trend := if inRegister then m.trend + Int.tdiv (16 * e - m.trend) 8 else m.trend
    { expected := some ⟨c + BitVec.ofInt 40 rt, k⟩
      missed := 0
      trend := trend
      last := some ⟨c, some ⟨k, e⟩⟩
      spacing := some ⟨c, rt⟩
      lastRow := some k
      drift := if inRegister then decide (0 < set.driftLimit ∧ 16 * (set.driftLimit : Int) ≤ |trend|) else m.drift
      counts := { m.counts with
        accepted := satAdd m.counts.accepted 1
        outOfTolerance := if inRegister then m.counts.outOfTolerance else satAdd m.counts.outOfTolerance 1 } }
  | .flywheel c =>
    { m with
      expected := some ⟨c + BitVec.ofInt 40 rt, k⟩
      missed := min (m.missed + 1) 255
      spacing := some ⟨c, rt⟩
      lastRow := some k
      counts := { m.counts with flywheel := satAdd m.counts.flywheel 1 } }

/-- In `t` the Mark Unit has taken, from `s`, the form `a` of ply p at cue position `c` for row k: the ply's state follows and
no other ply's; the capture takes an accepted mark that it is set for (R17); DRIFT is pending where the drift condition starts
(R33); MARK_LOST ends at an accepted mark and starts at the eighth miss in a row (R37); and the ply's one window end stands at
the new E while a job is RUNNING (R35, R38). -/
def State.MarkTaken (s t : State) (p : Ply) (ep : Epoch) (k : Nat) (c : Pos) (a : Assignment) : Prop :=
  let cap := s.trk.capture
  let m := s.formMark p ep k a
  let lost := match a with | .flywheel _ => decide (m.missed = 8) | _ => false
  let kept := match a with | .mark _ _ => false | _ => StopSet.has s.stop.held (.markLost p)
  t.marks = s.marks.set p m ∧
  t.trk.capture = (match a with
    | .mark _ e => if cap.enabled = true ∧ cap.ply = some p then
        { cap with
          slots := cap.slots.set cap.index (some ⟨some ⟨k, e⟩, c⟩)
          index := if cap.index = 15 then 0 else cap.index + 1
          enabled := decide (cap.index ≠ 15) }
      else cap
    | _ => cap) ∧
  (∀ q, s.portAbsent q = false → AttentionSet.has (t.port q).pending .drift =
    (AttentionSet.has (s.port q).pending .drift || (m.drift && !(s.marks.get p).drift))) ∧
  StopSet.has t.stop.held (.markLost p) = (kept || lost) ∧
  StopSet.has t.stop.latched (.markLost p) = (StopSet.has s.stop.latched (.markLost p) || lost) ∧
  t.trk.schedule.filter (fun y => decide (y.ev = .windowEnd p)) = (if t.running.isSome then
    [⟨c + BitVec.ofInt 40 (rowDistance ep.repeatUm k) +
      BitVec.ofNat 40 (min (s.plies.get p).w (ep.repeatUm / 50 / 2) + 1), .windowEnd p⟩] else [])

/-- The expectations once ply p's form at cue position `c` is given to the row `r` of a job whose read policy is `policy`: one
more, of the row's numbered lanes, at C + D′ − Q, where the row has one, the policy reads and the ply has a reader (R81 step 4,
R115, R116). -/
def State.expecting (s : State) (p : Ply) (c : Pos) (r : Row) (policy : ReadPolicy) : PerPly ReaderPly :=
  let set := s.plies.get p
  if 0 < r.numbered ∧ policy ≠ .off ∧ set.reader = true then
    s.readers.set p { s.readers.get p with expectations := (s.readers.get p).expectations ++
      [⟨r.k, c + BitVec.ofNat 40 set.d - BitVec.ofNat 40 set.q, r.numberedSet⟩] }
  else s.readers

/-- The zone list of ply p and the position schedule once the span from `lo` to `hi` is placed on it (R44, R45): added; or, where
it meets the newest zone or the list is full, that zone extended over it, its expiry withdrawn. The expiry is then scheduled. -/
def State.zonePlaced (s : State) (p : Ply) (lo hi expiry : Pos) : List Zone × List Scheduled :=
  let zs := s.zones.get p
  let added : List Scheduled := [⟨expiry, .zoneExpiry p⟩]
  match zs.getLast? with
  | none => ([⟨lo, hi, expiry⟩], s.trk.schedule ++ added)
  | some n =>
    if isAhead lo (n.stop + 1) = true ∧ zs.length < 4 then (zs ++ [⟨lo, hi, expiry⟩], s.trk.schedule ++ added)
    else (zs.dropLast ++ [⟨n.start, hi, expiry⟩],
      s.trk.schedule.filter (fun y => !(decide (y.ev = .zoneExpiry p) && decide (y.pos = n.expiry))) ++ added)

/-- The numbers of the lanes of the row drawn at draw count r of a SEQUENCE plan (R55 to R57, R59). -/
def Plan.numbersAt (plan : Plan) (r : Nat) : List (Option LaneNumber) :=
  (List.range plan.lanes).map (fun l => (plan.setIndex r l).map (fun i =>
    { n := plan.number i, str := plan.printed (plan.number i), checked := decide (plan.check ≠ .none), source := .sequence }))

/-! ## The return to FREE, and a job that leaves RUNNING or ends -/

/-- In `t` the Tracker has returned to FREE from `s` (R7): the epoch and the next index are removed (R76); every ply is OFF, its
E, spacing reference, last row and drift condition removed and its m_p, F_p, last mark and counts kept (R21, R33), and its
MARK_LOST condition is no longer held (R37); no window end and no zone expiry is scheduled, and the zone lists are empty (R42);
and the reserve condition is clear but in SAVING and SAVED (R79). -/
def State.Freed (s t : State) : Prop :=
  t.trk.epoch = none ∧ t.pipe.nextIndex = none ∧
  (∀ p, t.sync p = .off ∧
    t.marks.get p = { s.marks.get p with
      expected := none
      spacing := none
      lastRow := none
      drift := false } ∧
    StopSet.has t.stop.held (.markLost p) = false ∧ t.zones.get p = [] ∧
    ∀ y ∈ t.trk.schedule, y.ev ≠ .windowEnd p ∧ y.ev ≠ .zoneExpiry p) ∧
  (t.audit.condition = .saving ∨ t.audit.condition = .saved ∨ t.pipe.reserve = false)

/-- The record of the job that stood as `j`, ENDED in `t` (R139): its end record is formed from its draw values and the WAITING
entries it leaves. Its drain reason is as it stood, which Table 8-1 does not say: log entry 26. -/
def State.endedAs (t : State) (j : Job) (reason : EndReason) (d : DrawValues) : Job :=
  { j with
    state := .ended
    endRec := some
      { job := j.id
        reason := reason
        tallies := j.tallies
        nextIndex := if j.plan.source = .sequence then d.r else 0
        feedConsumed := if j.plan.source = .list then d.listCount else 0
        makeUpOutstanding := if j.plan.accounting = .strict then
          (t.audit.queue.filter (fun e => decide (e.job = j.id) && decide (e.state = .waiting))).length else 0
        feedDiscarded := d.discarded } }

/-- In `t` the job that stood as `j` has ended by the retirement of its last row, or with none (R134): its record is
`State.endedAs`; it has no recovery record, and JOB_END is pending at its owner port. -/
def State.HasEnded (t : State) (j : Job) (reason : EndReason) (d : DrawValues) : Prop :=
  t.job j.id = some (t.endedAs j reason d) ∧
  (∀ z ∈ t.audit.records, z.job ≠ j.id) ∧
  (t.portAbsent j.owner = false → AttentionSet.has (t.port j.owner).pending .jobEnd = true)

/-- The job that starts by follow-on when `j` leaves RUNNING: the oldest LOADED job where it is marked to follow on, its form
repeat, lane count and ply mask are those of `j`, and a recovery record is free (R130). -/
def State.follower (s : State) (j : Job) : Option Job :=
  match s.oldestLoaded with
  | some n =>
    if n.follow = true ∧ n.plan.repeatUm = j.plan.repeatUm ∧ n.plan.lanes = j.plan.lanes ∧ n.plan.mask = j.plan.mask ∧
        s.audit.records.length < 4 then some n else none
  | none => none

/-- The recovery record of a job that becomes RUNNING: OPEN, its counts 0 (R129, R153). -/
def RecoveryRecord.forJob (n : Job) : RecoveryRecord :=
  { job := n.id, owner := n.owner, plan := n.plan, state := .opened, r := 0, retiredRows := 0, listCount := 0,
    retiredList := 0, drawn := 0, withdrawn := 0, good := 0, void := 0 }

/-- The job that stands as `j`, RUNNING in `s`, has left RUNNING in `t` for the reason (R38, R54, R130, R131, R133, R134). Its
draw values are kept and the feed, where it is its own, is emptied. It is DRAINING while the pipeline holds a row of it, else
ENDED. A follower is RUNNING in the same epoch, its recovery record opened. Where none starts, every window end is withdrawn,
and CHANGEOVER is latched and pending where a job marked to follow on could not. The Tracker has returned to FREE where no job
is RUNNING and no row is held (R7), and the marks and zones stand where it has not. That phase, r, list count and draw complete
stand on where no job follows is the model's choice (log entry 29). -/
def State.LeftRunning (s t : State) (j : Job) (reason : EndReason) : Prop :=
  let draw : DrawValues :=
    { r := s.gen.r
      listCount := s.gen.listCount
      discarded := if j.plan.source = .list then s.gen.feed.length else 0 }
  let left : Job := { j with
    state := .draining
    drain := some reason
    draw := some draw }
  let feed := if j.plan.source = .list then [] else s.gen.feed
  (if t.jobHasRow j.id = true then t.job j.id = some left else t.HasEnded left reason draw) ∧
  (match s.follower j with
   | some n =>
     t.running = some { n with state := .running } ∧
     t.gen = { s.gen with
       phase := .sequence
       r := 0
       listCount := 0
       complete := false
       feed := feed } ∧
     t.audit.records = (s.audit.records ++ [RecoveryRecord.forJob n]).filter
       (fun z => t.jobHasRow j.id || decide (z.job ≠ j.id))
   | none =>
     t.running = none ∧ t.gen = { s.gen with feed := feed } ∧
     t.audit.records = s.audit.records.filter (fun z => t.jobHasRow j.id || decide (z.job ≠ j.id)) ∧
     (∀ y ∈ t.trk.schedule, ∀ p, y.ev ≠ .windowEnd p) ∧
     ∀ n, s.oldestLoaded = some n → t.job n.id = some n ∧
       (n.follow = true → StopSet.has t.stop.latched .changeover = true ∧
         ∀ p, s.portAbsent p = false → AttentionSet.has (t.port p).pending .changeover = true)) ∧
  (if s.trk.epoch ≠ none ∧ t.running = none ∧ t.pipe.rows = [] then s.Freed t
   else t.trk.epoch = s.trk.epoch ∧ t.marks = s.marks ∧ t.zones = s.zones)

/-! ## The emptying of the pipeline, and held requests -/

/-- The state once `n` of the steps that a warm reset in progress still has to take have come about, the model's free choice of
`n` counted where there is one (log entry 16). -/
def State.advanced (s : State) (n : Nat) : State :=
  resetSteps n (if s.resetLeft = 0 then s else s.setFreeIndex (s.freeIndex + 1))

/-- The port's transmitter begins no frame now, whatever attention is raised: it is sending one, or it is idle by strap and
empty. -/
def State.PortBusy (s : State) (port : Port) : Prop :=
  (s.port port).sending ≠ none ∨
  (s.portAbsent port = true ∧ (s.port port).replies = [] ∧ (s.port port).unsent = false)

/-- The Stop Unit is consistent: the output is asserted just while a cause is both latched and enabled (R167), and a
cause held is latched (R166). -/
def StopUnit.Consistent (u : StopUnit) : Prop :=
  u.output = decide (u.latched &&& u.mask ≠ 0) ∧ u.held &&& ~~~u.latched = 0

/-- A saturating tally raised by one, `n` times. -/
def countUp (n x : Nat) : Nat := (fun v => satAdd v 1)^[n] x

/-- The owner port and the accounting with which the lanes of a job's row are disposed of (R88, R89). A row of a job that no
record holds, which no run has, is taken as the line port's and LOG_ONLY. -/
def State.ownerOf (s : State) (id : Nat) : Port × Accounting :=
  match s.job id with
  | some j => (j.owner, j.plan.accounting)
  | none => (.line, .logOnly)

/-- The numbered lanes in the pipeline: rows oldest first, the lanes of a row in order (the model's choice, log entry 21). Each
has its row, its lane number, its record and what it carries. -/
def State.lanesHeld (s : State) : List (Row × Nat × LaneRec × LaneNumber) :=
  s.pipe.rows.flatMap (fun r => (r.lanes.zipIdx 1).filterMap (fun (l, no) => l.number.map (fun n => (r, no, l, n))))

/-- The make-up queue once the first `i` of those lanes are retired void: each lane of a STRICT job takes its make-up step (R151,
`Obligations.MakeUpStepFollowsTheLane`). -/
def State.queueEmptied (s : State) (i : Nat) : List MakeUpEntry :=
  (s.lanesHeld.take i).foldl (fun q (r, no, _, n) =>
    if (s.ownerOf r.job).2 = .strict then makeUpQueue q r.job no n true else q) s.audit.queue

/-- The records that emptying the pipeline with a cause appends, one for each of those lanes (R88, R89, R93, R94, R146): their
sequences follow on from the newest record's, and 1 follows 2^32 − 1. -/
def State.emptied (s : State) (c : VoidCause) : List VoidRecord :=
  s.lanesHeld.zipIdx.map (fun ((r, no, l, n), i) =>
    let strict : Bool := decide ((s.ownerOf r.job).2 = .strict)
    { sequence := (fun q => if q = 2 ^ 32 - 1 then 1 else q + 1)^[i] s.audit.nextSequence
      job := r.job
      owner := (s.ownerOf r.job).1
      row := r.k
      laneNo := no
      lane := n
      causes := CauseSet.insert l.causes c
      unmarked := !l.marked
      notQueued := strict && stepNotQueued (s.queueEmptied i) r.job n
      exhausted := strict && stepExhausted n
      retire := s.trk.h })

/-- A job's record once the pipeline is emptied: ROWS, LANES_VOID and LANES_BLANK have taken its rows (R88, R140). -/
def State.jobEmptied (s : State) (j : Job) : Job :=
  let rs := s.pipe.rows.filter (fun r => decide (r.job = j.id))
  { j with tallies := { j.tallies with
    rows := countUp rs.length j.tallies.rows
    void := countUp (rs.map Row.numbered).sum j.tallies.void
    blank := countUp ((rs.flatMap Row.lanes).filter (fun l => !l.isNumbered)).length j.tallies.blank } }

/-- A recovery record once the pipeline is emptied: while it is OPEN it follows its job's rows (R153). -/
def State.recordEmptied (s : State) (z : RecoveryRecord) : RecoveryRecord :=
  let rs := s.pipe.rows.filter (fun r => decide (r.job = z.job))
  if z.state = .opened then
    { z with
      retiredRows := z.retiredRows + (rs.filter Row.fromDraw).length
      retiredList := z.retiredList + ((rs.flatMap Row.lanes).filter LaneRec.fromFeed).length
      void := z.void + (rs.map Row.numbered).sum }
  else z

/-- The shift tallies once the pipeline is emptied (R88, R160). -/
def State.shiftEmptied (s : State) : ShiftTallies :=
  { s.shift with
    rows := countUp s.pipe.rows.length s.shift.rows
    void := countUp s.lanesHeld.length s.shift.void
    blank := countUp ((s.pipe.rows.flatMap Row.lanes).filter (fun l => !l.isNumbered)).length s.shift.blank }

/-- The Audit Store once the pipeline is emptied with a cause (R89, R146, R151, R153). -/
def State.auditEmptied (s : State) (c : VoidCause) : AuditStore :=
  { s.audit with
    inFlight := s.audit.inFlight ++ s.emptied c
    queue := s.queueEmptied s.lanesHeld.length
    records := s.audit.records.map s.recordEmptied }

/-- In `t` the pipeline of `s` has been emptied with a cause, by a warm reset or a power-fail save (R88, R89, R93, R94, R110, R111,
R140, R146, R151, R153, R160): every numbered lane is appended in flight, with its make-up step, and counted void; every blank lane
and every row is counted; send requests, expectations and the rows' positions are withdrawn, and the drivers' orders abandoned. The
reserve condition is kept, or is cleared and its end reported. The Tracker returns to FREE where no job is RUNNING (R7, R21, R37,
R42, R76), and is as it was otherwise. Of the rest, only the operating condition, the fields of a reset in progress and the ports
may differ. -/
def State.Emptied (s t : State) (c : VoidCause) (keepReserve : Bool) : Prop :=
  let freed : Bool := decide (s.running = none ∧ s.trk.epoch ≠ none)
  t.audit = { s.auditEmptied c with
    condition := t.audit.condition
    resetDue := t.audit.resetDue
    resetNotQueued := t.audit.resetNotQueued
    resetStage := t.audit.resetStage } ∧
  t.jobs = s.jobs.map s.jobEmptied ∧ t.shift = s.shiftEmptied ∧
  t.pipe = { s.pipe with
    rows := []
    nextIndex := if freed then none else s.pipe.nextIndex
    reserve := s.pipe.reserve && keepReserve } ∧
  t.requests = [] ∧
  (∀ p, t.readers.get p = { s.readers.get p with expectations := [] }) ∧
  (∀ d, t.drivers.get d = { s.drivers.get d with
    orders := []
    counts := { (s.drivers.get d).counts with
      abandoned := satAdd (s.drivers.get d).counts.abandoned (s.drivers.get d).orders.length } }) ∧
  t.trk = { s.trk with
    epoch := if freed then none else s.trk.epoch
    schedule := s.trk.schedule.filter (fun y => match y.ev with
      | .merge _ | .marker _ | .delivery _ | .send _ _ => false
      | .windowEnd _ | .zoneExpiry _ => !freed
      | .pulseEnd _ => true) } ∧
  t.zones = (if freed then PerPly.all [] else s.zones) ∧
  (∀ p, t.marks.get p = if freed then { s.marks.get p with
      expected := none
      spacing := none
      lastRow := none
      drift := false } else s.marks.get p) ∧
  t.stop.latched = s.stop.latched ∧ t.stop.mask = s.stop.mask ∧
  (∀ x, StopSet.has t.stop.held x = (StopSet.has s.stop.held x && !(match x with
    | .markLost _ => freed
    | .voidReserve => s.pipe.reserve && !keepReserve
    | _ => false))) ∧
  t.gen = s.gen ∧ t.plies = s.plies ∧ t.monitors = s.monitors ∧ t.straps = s.straps ∧ t.headLink = s.headLink ∧
  t.powerFail = s.powerFail ∧ t.freeIndex = s.freeIndex ∧ t.pending = s.pending

/-- The state with the ports of `s` and MAKEUP raised at both where a record that emptying `s` appends is flagged NOT_QUEUED
(R89, R151). -/
def State.portsEmptied (s t : State) (c : VoidCause) : State :=
  let u := { t with line := s.line, panel := s.panel }
  if (s.emptied c).any VoidRecord.notQueued then u.raiseBoth .makeUp else u

/-- In `t` a power-fail save has begun from `s` (R94, R111, R157 steps 1 and 2): the condition is SAVING, and the pipeline is emptied
with POWER, the reserve condition kept. The output of the Stop Unit and the ports are as they were but for MAKEUP. -/
def State.SaveBegun (s t : State) : Prop :=
  s.Emptied t .power true ∧ t.audit.condition = .saving ∧ t.audit.resetDue = s.audit.resetDue ∧
  t.audit.resetNotQueued = s.audit.resetNotQueued ∧ t.audit.resetStage = s.audit.resetStage ∧
  (s.stop.Consistent → t.stop.output = s.stop.output ∧ t = (s.portsEmptied t .power).startSending)

/-- A job's record in `t`, once a warm reset begun in `s` has ended its jobs (R139, R142). The feed is discarded for the job it
belongs to (R63): the first LIST job, RUNNING or LOADED, from the RUNNING job on. -/
def State.resetEnded (s t : State) (j : Job) : Job :=
  let z := s.jobEmptied j
  let fromRunning := if s.running.isSome then s.jobs.dropWhile (fun x => decide (x.state ≠ .running)) else s.jobs
  let fed := fromRunning.find? (fun x => decide ((x.state = .running ∨ x.state = .loaded) ∧ x.plan.source = .list))
  let discarded := if fed = some j then s.gen.feed.length else 0
  let d : DrawValues := match j.state with
    | .running => { r := s.gen.r, listCount := s.gen.listCount, discarded := discarded }
    | .loaded => { r := 0, listCount := 0, discarded := discarded }
    | _ => j.draw.getD ⟨0, 0, 0⟩
  match j.state with
  | .ended => z
  | .draining => t.endedAs z .reset d
  | .running => t.endedAs { z with draw := some d } .reset d
  | .loaded => t.endedAs { z with draw := some d } .cancelled d

/-- One port, in use and its receiver HUNTING, holds the request, which passed the tests of R172, and has room for its reply;
the other port holds none; and both transmitters are sending, so that none begins a frame. -/
def State.HoldsAlone (s : State) (port : Port) (q : Request) : Prop :=
  s.portAbsent port = false ∧ (s.port port).held = [q] ∧ (s.port port).replies.length < 4 ∧
  (s.port port).receiver = .hunting ∧ isReplyKind q.kind = false ∧ q.body.length ≤ 240 ∧
  (∀ p, p ≠ port → (s.port p).held = []) ∧ ∀ p, (s.port p).sending ≠ none

/-! ## Invariants -/

/-- A monitor's counter is below its alarm level (R165). -/
def Monitor.Below (m : Monitor) : Prop := m.counter < m.level

/-- Every monitor's counter is below its alarm level (R165). -/
def MonitorsBelow (ms : PerMon Monitor) : Prop := ∀ i, (ms.get i).Below

/-- A port holds at most two requests and four formed replies (R174), and an unsent notice stands only while the pending
set is not empty (R178). -/
def PortState.Bounded (x : PortState) : Prop :=
  x.held.length ≤ 2 ∧ x.replies.length ≤ 4 ∧ (x.unsent = true → x.pending ≠ 0)

/-- For every ply, |F_p| ≤ 16·T_p (R32). -/
def TrendsBounded (ms : PerPly MarkPly) (ps : PerPly PlySettings) : Prop :=
  ∀ p, |(ms.get p).trend| ≤ 16 * ((ps.get p).t : Int)

/-- A driver has at most four outstanding orders, no two with one tag, and a no-reply count of at most 3 (R100). -/
def DriverRec.OrdersOk (d : DriverRec) : Prop :=
  d.orders.length ≤ 4 ∧ (d.orders.map Order.tag).Nodup ∧ d.noReply ≤ 3

/-- Every zone list holds at most four zones (R42). -/
def ZonesBounded (zs : PerPly (List Zone)) : Prop := ∀ p, (zs.get p).length ≤ 4

/-- The Job Table holds at most four records, no two with one id (R124), and at most one job is RUNNING (R125). -/
def JobsOk (js : List Job) : Prop :=
  js.length ≤ 4 ∧ (js.map Job.id).Nodup ∧ (js.filter (fun j => decide (j.state = .running))).length ≤ 1

/-- The job and number of a make-up entry. -/
def MakeUpEntry.key (e : MakeUpEntry) : Nat × Nat := (e.job, e.number)

/-- The make-up queue holds at most 256 entries, no two with one job and number (R150). -/
def QueueOk (q : List MakeUpEntry) : Prop := q.length ≤ 256 ∧ (q.map MakeUpEntry.key).Nodup

/-- The void-list entries, visible and in flight, together with the numbered lanes in the pipeline: what the reservation
counts (R79). -/
def State.reserved (s : State) : Nat := s.audit.voidCount + s.inFlight

/-- In FREE the pipeline holds no row (R5). -/
def FreeIsEmpty (s : State) : Prop := s.trk.epoch = none → s.pipe.rows = []

end Sys2Proof.Machine
end

