-- ==== Sys2Proof/Certificates/Slice0/Obligations.lean ====
section
/-! DEFINITION. The statements for the provers. Each docstring names the rule of spec/ a statement formalises; where a
clause is the model's own choice it says so and names the log entry. -/

section Statements

open Sys2Proof Sys2Proof.Machine

/-! ## The machine -/

/-- One step is the command at the front of the queue, run with the queue's rest; on an empty queue the block idles. The
queue is the model's own (log entries 12 and 13). -/
def Obligations.StepRunsTheFrontCommand : Prop :=
  (∀ (s : State) (c : Instr) (rest : List Instr), s.pending = c :: rest → step s = exec c (s.setPending rest)) ∧
  (∀ s : State, s.pending = [] → step s = .next s)

/-- Every command, in every state and with any operands, answers a next state, in which the waiting commands are those
that waited; and the strap values are sampled by POWER_UP alone (R180: "held until the next power-up"). -/
def Obligations.EveryCommandAnswersAndKeepsTheQueue : Prop :=
  ∀ (i : Instr) (s : State), ∃ t, exec i s = .next t ∧ t.pending = s.pending ∧
    t.straps = (match i with | .powerUp st => st | _ => s.straps)

/-- The reset state holds the values the spec gives at power-up (Tables 1-8, 1-11, 2-3, 2-6, 3-1, 4-2, 5-4, 6-2, 6-7, 7-1,
10-1, 10-2, 10-6; R115, R124, R144, R146, R147, R150, R153, R170, R178), the nonvolatile collections being empty as when
the controller is first put into service. The straps are not among them (log entry 1). -/
def Obligations.ResetHoldsThePowerUpValues : Prop :=
  let s := State.reset
  s.trk = { a := 0, h := 0, excursion := .none, epoch := none, schedule := [], v := 0, x := 0, reverseLimit := 200,
            capture := { ply := none, enabled := false, index := 0, slots := List.replicate 16 none } } ∧
  (∀ p, s.plies.get p = { d := 0, l := 0, q := 0, s := 0, mb := 1000, ma := 1000, reader := false, w := 200, t := 40,
                          driftLimit := 0 }) ∧
  (∀ p, s.marks.get p = { expected := none, missed := 0, trend := 0, last := none, spacing := none, lastRow := none,
                          drift := false, counts := ⟨0, 0, 0, 0, 0, 0⟩ } ∧ s.sync p = .off) ∧
  (∀ p, s.zones.get p = [] ∧ s.readers.get p = { expectations := [], counts := ⟨0, 0, 0, 0, 0, 0, 0⟩ }) ∧
  s.gen.phase = .sequence ∧ s.gen.r = 0 ∧ s.gen.listCount = 0 ∧ s.gen.complete = false ∧ s.gen.feed = [] ∧
  s.gen.lowMark = 64 ∧ s.running = none ∧ s.feedJob = none ∧
  s.pipe.rows = [] ∧ s.pipe.nextIndex = none ∧ s.pipe.reserve = false ∧ s.pipe.formsDiscarded = 0 ∧
  (∀ l, s.pipe.markers.get l = false) ∧
  (∀ d, s.drivers.get d = { orientation := .normal, lead := 200, dropClass := 2, state := .suspect, orders := [],
                            noReply := 0, nextTag := 0, counts := ⟨0, 0, 0, 0, 0, 0, 0, 0, 0, 0, 0⟩ }) ∧
  s.requests = [] ∧ s.jobs = [] ∧
  s.audit.condition = .recovering ∧ s.audit.voids = [] ∧ s.audit.inFlight = [] ∧ s.audit.notifyLevel = 1 ∧
  s.audit.queue = [] ∧ s.audit.records = [] ∧
  s.shift = ⟨0, 0, 0, 0, 0, 0, 0, 0⟩ ∧
  (∀ i, s.monitors.get i = { source := .none, threshold := 0, invert := false, edge := false, consecutive := false,
                             level := 65535, stopEnable := false, counter := 0, previous := false, alarms := 0 }) ∧
  s.stop.latched = 0 ∧ s.stop.held = 0 ∧ s.stop.output = false ∧
  (∀ c : StopCause, StopSet.has s.stop.mask c = decide (c ≠ .feedStarved)) ∧
  (∀ p, s.port p = { receiver := .hunting, held := [], replies := [], sending := none, pending := 0, unsent := false })

/-- POWER_UP samples the straps and gives every block its power-up value, in RECOVERING; the nonvolatile collections of
the Audit Store are kept, and so are the level of the power-fail input and the model's own fields (log entry 14). -/
def Obligations.PowerUpSetsEveryBlock : Prop :=
  ∀ (st : Straps) (s : State), exec (.powerUp st) s = .next
    { State.reset with
      straps := st
      audit := { State.reset.audit with
        voids := s.audit.voids, inFlight := s.audit.inFlight, queue := s.audit.queue, records := s.audit.records }
      powerFail := s.powerFail
      freeIndex := s.freeIndex
      pending := s.pending }

/-- RECOVERY_COMPLETE in RECOVERING (R158), the power-fail warning not asserted: appends complete in order, OPEN records
become UNCLEAN, ISSUED entries UNRESOLVED, the notify level is 1, the condition NORMAL; RECOVERY is raised at the line port
where a record is held, VOID_READY at both ports where a void is visible; SYNC goes to each driver (R111), in the order 1, 2, 3
(the model's choice, log entry 22). Nothing outside the Audit Store, the head link and the two ports changes, and in the ports
only what those attentions bring. With the warning asserted all this is done likewise, and a save has begun at once from
that state (`State.SaveBegun`; R157, R158; lanes, were any held, in the order of log entry 21), which with no row held brings the condition SAVING alone to the store. In any other condition it does nothing (log entry 7). -/
def Obligations.RecoveryCompletes : Prop :=
  ∀ s : State,
    let u := (s.setAudit { s.audit with
        condition := .normal
        voids := s.audit.voids ++ s.audit.inFlight
        inFlight := []
        notifyLevel := 1
        records := s.audit.records.map (fun r => if r.state = .opened then { r with state := .unclean } else r)
        queue := s.audit.queue.map (fun e => if e.state = .issued then { e with state := .unresolved } else e) }).setHeadLink
      (s.headLink ++ [.sync .d1 s.trk.a s.trk.h, .sync .d2 s.trk.a s.trk.h, .sync .d3 s.trk.a s.trk.h])
    let v := if s.audit.records = [] then u else u.raiseAt .line .recovery
    let w := if s.audit.voids ++ s.audit.inFlight = [] then v else v.raiseBoth .voidReady
    (s.audit.condition = .recovering → s.powerFail = false →
      ∃ t, exec .recoveryComplete s = .next t ∧ t = w.startSending ∧ t.audit = u.audit ∧ t.headLink = u.headLink ∧
        (AttentionSet.has t.line.pending .recovery ↔
          AttentionSet.has s.line.pending .recovery ∨ s.audit.records ≠ []) ∧
        (∀ p, s.portAbsent p = false → (AttentionSet.has (t.port p).pending .voidReady ↔
          AttentionSet.has (s.port p).pending .voidReady ∨ s.audit.voids ++ s.audit.inFlight ≠ []))) ∧
    (s.audit.condition = .recovering → s.powerFail = true →
      ∃ t, exec .recoveryComplete s = .next t ∧ w.SaveBegun t ∧ t.headLink = u.headLink ∧ t.audit.voids = u.audit.voids ∧
        (s.pipe.rows = [] → t.audit = { u.audit with condition := .saving })) ∧
    (s.audit.condition ≠ .recovering → exec .recoveryComplete s = .next s.startSending)

/-! ## The web -/

/-- FORWARD_COUNT, in every state: A rises by one modulo 2^40, and H is set equal to A where A lies ahead of it (R1).
Where no position event waits to be taken, nothing else changes but the end of a reverse excursion (R4), once as many steps of
a warm reset in progress have come about as the model leaves free (log entry 16). Events that wait untaken are settled first
(log entries 2 and 3). -/
def Obligations.ForwardCountMovesTheWeb : Prop :=
  ∀ s : State, ∃ t, exec .forwardCount s = .next t ∧
    t.trk.a = s.trk.a + 1 ∧ t.trk.h = (if isAhead (s.trk.a + 1) s.trk.h then s.trk.a + 1 else s.trk.h) ∧
    (s.due = [] → ∃ n, n ≤ s.resetLeft ∧
      let u := s.advanced n
      t = (u.setTrk { u.trk with
        a := t.trk.a
        h := t.trk.h
        excursion := if t.trk.a = t.trk.h then .none else s.trk.excursion }).startSending)

/-- REVERSE_COUNT, in every state: A falls by one modulo 2^40 and H stays (R1). The position events that wait untaken are
settled first (log entries 2 and 3), but for a marker or a delivery where the count takes A behind H with a reverse limit of 0: such
a one may be taken before the excursion or after it (R96), while no flywheel, opening or merge is left to fall behind H (R4, R92).
Where none is to be settled, NONE becomes BACKING; and in BACKING with H − A beyond the reverse limit and a row held, the excursion
is reported: the state is EXCURSION, every numbered lane of every row gets REVERSED and the stop cause REVERSED is latched (R4,
R92), the output re-formed and STOP raised where it is asserted (R167: `StopCausesLatchAndTheOutputFollows`). Nothing else changes,
once as many steps of a warm reset in progress have come about as the model leaves free (log entry 16). Where one is to be
settled, and neither port begins a frame, the count is as that event's own command and then the count. -/
def Obligations.ReverseCountBacksTheWeb : Prop :=
  ∀ s : State,
    let settled := fun (x : State) => x.due.filter (fun y => match y.ev with
      | .marker _ | .delivery _ => decide (x.trk.retravel = true ∨ x.trk.reverseLimit ≠ 0)
      | _ => true)
    (∀ (y : Scheduled) (w : State), settled s = [y] → (∀ p, s.PortBusy p) → exec y.ev.command s = .next w → settled w = [] →
      exec .reverseCount s = exec .reverseCount w) ∧
    ∃ t, exec .reverseCount s = .next t ∧ t.trk.a = s.trk.a - 1 ∧ t.trk.h = s.trk.h ∧
    (settled s = [] → ∃ n, n ≤ s.resetLeft ∧
      let u := s.advanced n
      (if (s.trk.excursion = .none ∨ s.trk.excursion = .backing) ∧
          (s.trk.reverseLimit : Int) < posDiff s.trk.h (s.trk.a - 1) ∧ s.pipe.rows ≠ [] then
        t.trk = { u.trk with a := s.trk.a - 1, excursion := .excursion } ∧
        t.pipe = { u.pipe with rows := s.pipe.rows.map (fun r => { r with
          lanes := r.lanes.map (fun l =>
            if l.isNumbered then { l with causes := CauseSet.insert l.causes .reversed } else l) }) } ∧
        t.stop.latched = StopSet.insert u.stop.latched .reversed ∧ t.stop.held = u.stop.held ∧
        t = (((u.setTrk t.trk).setPipe t.pipe).latchEvent .reversed).startSending
      else
        t = (u.setTrk { u.trk with
          a := s.trk.a - 1
          excursion := if s.trk.excursion = .none then .backing else s.trk.excursion }).startSending))

/-- No command but the two encoder counts moves A or H, and no command at all but POWER_UP and a forward count changes H
(R1, R20). -/
def Obligations.OnlyEncoderCountsMoveTheWeb : Prop :=
  ∀ (i : Instr) (s t : State), exec i s = .next t → (∀ st, i ≠ .powerUp st) →
    (i ≠ .forwardCount → t.trk.h = s.trk.h) ∧ (i ≠ .forwardCount → i ≠ .reverseCount → t.trk.a = s.trk.a)

/-- O(k) lies k·R/50 ticks from O0, rounded to the nearest tick with halves up, for every k, negative k too (R11). Rt(k), the
distance to the next origin, is Rt_min or Rt_min + 1, and is Rt_min where the form repeat is a multiple of 50 (R11, R26). -/
def Obligations.RowDistancesFollowTheFormRepeat : Prop :=
  ∀ (repeatUm : Nat) (k : Int),
    (rowDistance repeatUm k = ((repeatUm / 50 : Nat) : Int) ∨ rowDistance repeatUm k = ((repeatUm / 50 : Nat) : Int) + 1) ∧
    (repeatUm % 50 = 0 → rowDistance repeatUm k = ((repeatUm / 50 : Nat) : Int)) ∧ rowOffset repeatUm 0 = 0 ∧
    50 * rowOffset repeatUm k ≤ k * repeatUm + 25 ∧ k * repeatUm + 25 < 50 * rowOffset repeatUm k + 50 ∧
    rowDistance repeatUm k = rowOffset repeatUm (k + 1) - rowOffset repeatUm k

/-- The mapping of R26 in ticks from O0: the row found has its origin nearest to P, and on an exact tie is the later row;
the register error is the distance from its origin. The Mark Unit maps by `mapMark`, from the position itself: for a position `rel`
ticks from O0 that lies within 2^39 ticks of the anchor, the origin of the row that opens next, it gives the same row and error;
the anchor is the model's choice (log entry 9). -/
def Obligations.MarkMapsToTheNearestRow : Prop :=
  ∀ (repeatUm : Nat) (rel : Int), 60000 ≤ repeatUm →
    ∃ k0 : Int, rowOffset repeatUm k0 ≤ rel ∧ rel < rowOffset repeatUm (k0 + 1) ∧
      mapOffset repeatUm rel =
        (if rowOffset repeatUm (k0 + 1) - rel ≤ rel - rowOffset repeatUm k0 then
          (k0 + 1, rel - rowOffset repeatUm (k0 + 1))
        else (k0, rel - rowOffset repeatUm k0)) ∧
      (∀ j : Int, |rel - rowOffset repeatUm (mapOffset repeatUm rel).1| ≤ |rel - rowOffset repeatUm j|) ∧
      (∀ (o0 : Pos) (anchor : Nat), -(2 ^ 39) ≤ rel - rowOffset repeatUm anchor → rel - rowOffset repeatUm anchor < 2 ^ 39 →
        mapMark o0 repeatUm anchor (o0 + BitVec.ofInt 40 rel) = mapOffset repeatUm rel)

/-! ## Requests: the ports -/

/-- A request of any kind at a port that is ready, through tests 1 to 4 of R173 and Table 11-1: UNKNOWN_KIND, BAD_LENGTH,
NOT_PERMITTED, NOT_READY; under RESET_HOLD = DEFER it waits, held, with no reply. None of these changes anything else. The body
length of each kind is the sum of the widths R173 gives its fields; those of Arm Capture, Read Capture, Feed Numbers and a Set
Monitor whose source code is none of the eight (12 bytes) are the model's choice (log entry 10). The line port may send every kind, the panel port every kind under FULL, the read-only requests
of R181 and five more under VIEW, and none under ABSENT (R175). -/
def Obligations.RequestsMeetTheEarlyTestsInOrder : Prop :=
  (∀ (k : RequestKind) (body : List Byte),
    let source := fieldAt 1 1 body
    bodyLengthOk k body = decide (body.length = (match k with
      | .loadJob => 25
      | .startJob | .haltJob | .abortJob | .queryJob | .collectEnd => 2
      | .feedNumbers => 1 + 5 * fieldAt 0 1 body
      | .readVoids | .releaseVoids | .readMakeUp | .releaseMakeUp | .discardRecovery => 2
      | .setLine => 12
      | .setPly => 39
      | .setDriver => 11
      | .readPly | .readDriver | .readMonitor | .readCapture => 1
      | .readReader | .armCapture | .readTallies | .setStopMask | .clearStop => 3
      | .setMonitor => if source = 2 ∨ source = 4 then 13 else 12
      | .setNotify => 8
      | .acknowledgeAttention => 2
      | .readRecovery | .readLine | .readStop | .clearShift | .lineSummary | .reset => 0))) ∧
  (∀ (s : State) (k : RequestKind),
    let reads : List RequestKind := [.queryJob, .readVoids, .readMakeUp, .readRecovery, .readLine, .readPly, .readDriver,
      .readReader, .readCapture, .readStop, .readMonitor, .readTallies, .lineSummary]
    (k.readOnly = true ↔ k ∈ reads) ∧ s.permits .line k = true ∧
    (s.permits .panel k = true ↔ s.straps.panel = .full ∨ (s.straps.panel = .view ∧
      k ∈ reads ++ [.haltJob, .abortJob, .clearStop, .acknowledgeAttention, .clearShift]))) ∧
  ∀ (s : State) (port : Port) (kind tag : Byte) (body : List Byte), s.Ready port → isReplyKind kind = false →
    body.length ≤ 240 →
    (requestKind kind = none →
      exec (.unknownRequest port kind tag body) s = .next (s.answered port kind tag (.refusal .unknownKind))) ∧
    (∀ k, requestKind kind = some k →
      (bodyLengthOk k body = false →
        request port kind tag body s = .next (s.answered port kind tag (.refusal .badLength))) ∧
      (bodyLengthOk k body = true →
        (s.permits port k = false →
          request port kind tag body s = .next (s.answered port kind tag (.refusal .notPermitted))) ∧
        (s.permits port k = true → k.readOnly = false →
          ((s.audit.condition = .saving ∨ s.audit.condition = .saved) → k ≠ .reset →
            request port kind tag body s = .next (s.answered port kind tag ⟨.notReady, .none⟩)) ∧
          (s.audit.condition = .resetting → s.straps.hold = .refuse →
            request port kind tag body s = .next (s.answered port kind tag ⟨.notReady, .none⟩)) ∧
          (s.audit.condition = .resetting → s.straps.hold = .defer →
            request port kind tag body s = .next (s.setPort port { s.port port with
              receiver := .hunting
              held := [⟨kind, tag, body⟩] }).startSending))))

/-- A request that arrives at a port which holds two is answered BUSY at once and not held; where four replies wait
besides, it is discarded (R174). That the four replies count the one being sent is log entry 5. -/
def Obligations.ThirdRequestIsAnsweredBusy : Prop :=
  ∀ (s : State) (port : Port) (kind tag : Byte) (body : List Byte), s.listens port = true →
    (s.port port).held.length = 2 → isReplyKind kind = false → body.length ≤ 240 →
    ((s.port port).replies.length < 4 →
      request port kind tag body s = .next (s.answered port kind tag .busy)) ∧
    ((s.port port).replies.length = 4 →
      request port kind tag body s = .next (s.setPort port { s.port port with receiver := .hunting }).startSending)

/-- FRAME_GAP_TIMEOUT leaves the receiver HUNTING and what it gathered unexamined, and changes nothing else. FRAME_DISCARD
at a HUNTING port that takes bytes: bytes other than 0xC3, a length byte below 2 or above 242, a CRC that differs, and a
kind byte of 0x80 or above leave the state as it was; the bytes of a good frame are a received request (R172). That the
command carries bytes which run through the receiver is the model's choice (log entry 8), and so is that a frame whose kind byte
is 0x80 or above is discarded once it is whole, its later bytes not examined (log entry 28). -/
def Obligations.ReceiverSortsBytes : Prop :=
  (∀ (s : State) (port : Port), exec (.frameGapTimeout port) s =
    .next (s.setPort port { s.port port with receiver := .hunting }).startSending) ∧
  (∀ (s : State) (port : Port), s.listens port = true → (s.port port).receiver = .hunting →
    (∀ bytes : List Byte, (∀ b ∈ bytes, b ≠ 0xC3) → exec (.frameDiscard port bytes) s = .next s.startSending) ∧
    (∀ len : Byte, len.toNat < 2 ∨ 242 < len.toNat → exec (.frameDiscard port [0xC3, len]) s = .next s.startSending) ∧
    (∀ (kind tag : Byte) (body : List Byte), body.length ≤ 240 →
      (∀ hi lo : Byte,
        [hi, lo] ≠ [(crc (BitVec.ofNat 8 (body.length + 2) :: kind :: tag :: body)).extractLsb' 8 8,
                    (crc (BitVec.ofNat 8 (body.length + 2) :: kind :: tag :: body)).extractLsb' 0 8] →
        exec (.frameDiscard port (0xC3 :: BitVec.ofNat 8 (body.length + 2) :: kind :: tag :: (body ++ [hi, lo]))) s =
          .next s.startSending) ∧
      (isReplyKind kind = true → exec (.frameDiscard port (frameBytes kind tag body)) s = .next s.startSending) ∧
      (isReplyKind kind = false →
        exec (.frameDiscard port (frameBytes kind tag body)) s = request port kind tag body s)))

/-- FRAME_SENT: the frame sent, a reply among those that wait or a notice, is gone, and the transmitter begins the oldest
waiting reply, or else the unsent notice with the pending set as it stands; the pending set is untouched. A request that is
held is then served as one that arrives, as far as four replies allow; a second one behind it is served next where they allow
both, and waits where they do not (R174, R178). Where nothing is being sent the event does nothing. When a frame begins within a command, and that the four
replies count the one being sent, are the model's choice (log entry 5). -/
def Obligations.TransmitterSendsRepliesThenTheNotice : Prop :=
  ∀ (s : State) (port : Port),
    ((s.port port).sending = none → exec (.frameSent port) s = .next s.startSending) ∧
    (∀ (rest : List ReplyFrame),
      ((∃ f, (s.port port).sending = some .reply ∧ (s.port port).replies = f :: rest) ∨
       (∃ set, (s.port port).sending = some (.notice set) ∧ (s.port port).replies = rest)) →
      let u := s.setPort port
        (if rest ≠ [] then { s.port port with held := [], replies := rest, sending := some .reply }
         else if (s.port port).unsent = true then
           { s.port port with held := [], replies := [], sending := some (.notice (s.port port).pending), unsent := false }
         else { s.port port with held := [], replies := [], sending := none })
      ((s.port port).held = [] → exec (.frameSent port) s = .next u.startSending) ∧
      (∀ q : Request, s.listens port = true → (s.port port).receiver = .hunting → isReplyKind q.kind = false →
        q.body.length ≤ 240 →
        ((s.port port).held = [q] → exec (.frameSent port) s = request port q.kind q.tag q.body u) ∧
        (∀ q' v, (s.port port).held = [q, q'] → rest.length = 3 → request port q.kind q.tag q.body u = .next v →
          exec (.frameSent port) s =
            .next (v.setPort port { v.port port with held := (v.port port).held ++ [q'] })) ∧
        (∀ q' v, (s.port port).held = [q, q'] → rest.length ≤ 2 → isReplyKind q'.kind = false → q'.body.length ≤ 240 →
          (∀ p, p ≠ port → s.PortBusy p) → request port q.kind q.tag q.body u = .next v →
          exec (.frameSent port) s = request port q'.kind q'.tag q'.body v)))

/-! ## Requests: jobs -/

/-- Load Job at a port that takes it: the six tests of R126 in order, and the record of R127. The plan is that of bytes 3
to 24 of the body (Table 11-7). That a FOLLOW byte above 1 is out of range is the model's choice (log entry 10). -/
def Obligations.LoadJobTestsAndRecord : Prop :=
  ∀ (s : State) (port : Port) (tag : Byte) (body : List Byte), s.Takes port .loadJob → body.length = 25 →
    let id := fieldAt 0 2 body
    let out := exec (.loadJob port tag body) s
    let reply := fun (u : State) (x : Reply) => Host.Outcome.next (State.answered u port 0x01 tag x)
    (decodePlan body = none → out = reply s (.refusal .range)) ∧
    (∀ plan, decodePlan body = some plan →
      if id = 0 ∨ 1 < fieldAt 2 1 body ∨ plan.repeatUm < 60000 ∨ 640000 < plan.repeatUm ∨ plan.mask = 0 ∨
          plan.width < 4 ∨ 10 < plan.width ∨ plan.step < 1 ∨ 999 < plan.step ∨ plan.count < 1 ∨ 10000000 < plan.count ∨
          plan.lanes < 1 ∨ 4 < plan.lanes ∨ 10 ^ plan.width ≤ plan.first ∨
          (plan.source = .sequence ∧ (plan.numberInt (plan.count - 1) < 0 ∨
            (10 ^ plan.width : Nat) ≤ plan.numberInt (plan.count - 1))) then
        out = reply s (.refusal .range)
      else if ∃ p ∈ Ply.all, inMask plan.mask p = true ∧ s.straps.installed p = false then out = reply s (.refusal .plies)
      else if (∃ j ∈ s.jobs, j.id = id) ∨ (∃ e ∈ s.audit.queue, e.job = id) ∨ (∃ r ∈ s.audit.records, r.job = id) then
        out = reply s (.refusal .duplicateId)
      else if s.jobs.length < 4 then
        out = reply (s.setJobs (s.jobs ++
          [{ id := id, owner := port, plan := plan, follow := decide (fieldAt 2 1 body = 1), state := .loaded,
             drain := none, draw := none, tallies := ⟨0, 0, 0, 0, 0, 0, 0, 0⟩, endRec := none }])) .plain
      else
        match s.jobs.find? (fun j => decide (j.state = .ended) && decide (j.owner = port)) with
        | some j => out = reply s (.heldFor j)
        | none => out = reply s .busy)

/-- Start Job at a port that takes it: the eight tests of R128 in order. A Start that passes opens the epoch from the
plan, without an origin, at row 0, sets every ply of the mask as R21 gives and removes E, the spacing reference and the
last row of the others, makes the job RUNNING, the Generator's draw state that of R54, and opens the recovery record
(R129); nothing else changes. The geometry check is R14's: `Obligations.GeometryCheckTests`. -/
def Obligations.StartJobTestsAndStart : Prop :=
  ∀ (s : State) (port : Port) (tag : Byte) (body : List Byte), s.Takes port .startJob → body.length = 2 →
    let out := exec (.startJob port tag body) s
    let reply := fun (u : State) (x : Reply) => Host.Outcome.next (State.answered u port 0x02 tag x)
    match s.job (fieldAt 0 2 body) with
    | none => out = reply s (.refusal .noSuchJob)
    | some j =>
      if j.owner ≠ port then out = reply s (.refusal .notOwner)
      else if j.state ≠ .loaded then out = reply s (.refusal .wrongState)
      else if s.jobs.find? (fun x => decide (x.state = .loaded)) ≠ some j then out = reply s (.refusal .notNext)
      else if (∃ x ∈ s.jobs, x.state = .running) ∨ s.trk.epoch ≠ none then out = reply s .busy
      else if 4 ≤ s.audit.records.length then out = reply s (.refusal .full)
      else if geometryOk s.plies s.trk.v s.trk.x j.plan = false then out = reply s (.refusal .geometry)
      else ∃ ref, referencePly s.plies j.plan.mask = some ref ∧
        out = reply
          ((((((s.setTrk { s.trk with
              epoch := some ⟨j.plan.repeatUm, j.plan.mask, ref, (s.plies.get ref).d, none⟩ }).setMarks
            ⟨if inMask j.plan.mask .p1 then s.marks.p1.entered else s.marks.p1.off,
             if inMask j.plan.mask .p2 then s.marks.p2.entered else s.marks.p2.off,
             if inMask j.plan.mask .p3 then s.marks.p3.entered else s.marks.p3.off,
             if inMask j.plan.mask .p4 then s.marks.p4.entered else s.marks.p4.off,
             if inMask j.plan.mask .p5 then s.marks.p5.entered else s.marks.p5.off,
             if inMask j.plan.mask .p6 then s.marks.p6.entered else s.marks.p6.off⟩).setPipe
            { s.pipe with nextIndex := some 0 }).setJobs
            (s.jobs.map (fun x => if x.id = j.id then { x with state := .running } else x))).setGen
            { s.gen with phase := .sequence, r := 0, listCount := 0, complete := false }).setAudit
            { s.audit with records := s.audit.records ++
              [{ job := j.id, owner := j.owner, plan := j.plan, state := .opened, r := 0, retiredRows := 0,
                 listCount := 0, retiredList := 0, drawn := 0, withdrawn := 0, good := 0, void := 0 }] })
          .plain

/-- The geometry check of a plan whose mask has a ply (R14): it passes exactly when the five conditions hold, the
reference ply being the one of largest D′, the lowest number among equals (R9). -/
def Obligations.GeometryCheckTests : Prop :=
  ∀ (plies : PerPly PlySettings) (v x : Nat) (plan : Plan), plan.mask ≠ 0 →
    ∃ ref, referencePly plies plan.mask = some ref ∧ inMask plan.mask ref = true ∧
      (∀ p, inMask plan.mask p = true → (plies.get p).d ≤ (plies.get ref).d ∧
        (p.number < ref.number → (plies.get p).d < (plies.get ref).d)) ∧
      (geometryOk plies v x plan = true ↔
        (∀ p, inMask plan.mask p = true → (plies.get p).q < (plies.get p).d) ∧
        (∀ p, inMask plan.mask p = true → (plies.get p).l < (plies.get p).d - (plies.get p).q) ∧
        (∀ p, inMask plan.mask p = true → (plies.get p).d ≤ 2 ^ 20 - 1) ∧
        (0 < v ∧ v < x ∧ x ≤ 2 ^ 20) ∧
        ((plies.get ref).d + x + plan.repeatUm / 50 - 1) / (plan.repeatUm / 50) + 2 ≤ 64)

/-- Halt Job at a port that takes it, by the state of the job that holds the id (R135). A RUNNING job, with rows or with
none, and whatever job waits behind it, leaves RUNNING with reason HALTED, as `State.LeftRunning` gives (R38, R54, R130, R131,
R133, R134): its draw values kept, the follow-on test made, every window withdrawn where no job follows on, and the job ENDED
at once where it has no row, its drain reason as it then stood (log entry 26). Where no job follows, the Generator's phase, r,
list count and draw complete stand on (the model's choice, log entry 29). -/
def Obligations.HaltJobByState : Prop :=
  ∀ (s : State) (port : Port) (tag : Byte) (body : List Byte), s.Takes port .haltJob → body.length = 2 →
    let out := exec (.haltJob port tag body) s
    let reply := fun (u : State) (x : Reply) => Host.Outcome.next (State.answered u port 0x03 tag x)
    match s.job (fieldAt 0 2 body) with
    | none => out = reply s (.refusal .noSuchJob)
    | some j =>
      match j.state with
      | .draining => out = reply s .plain
      | .ended => out = reply s (.heldFor j)
      | .loaded => out = reply s (.refusal .wrongState)
      | .running => JobsOk s.jobs → ∃ t, out = .next t ∧
          (t.port port).replies = (s.port port).replies ++ [{ kind := 0x03, tag := tag, reply := .plain }] ∧
          t.pipe.rows = s.pipe.rows ∧ s.LeftRunning t j .halted ∧
          t.audit.voids = s.audit.voids ∧ t.audit.inFlight = s.audit.inFlight ∧ t.audit.queue = s.audit.queue ∧
          t.drivers = s.drivers ∧ t.requests = s.requests ∧ t.readers = s.readers ∧ t.monitors = s.monitors ∧
          t.shift = s.shift

/-- Abort Job at a port that takes it, by the state of the job that holds the id (R136). A LOADED job ends CANCELLED with
its share of the feed discarded and JOB_END raised at its owner port; a DRAINING job's rows get ABORTED and its drain
reason becomes ABORTED; a RUNNING job's rows get ABORTED (R91) and it leaves RUNNING with reason ABORTED, as
`State.LeftRunning` gives (R38, R130, R131, R133, R134), with rows or with none and whatever job waits behind it. The drain
reason of an ENDED record is as it stood (log entry 26), and where no job follows so do the Generator's phase, r, list count and
draw complete (the model's choice, log entry 29). -/
def Obligations.AbortJobByState : Prop :=
  ∀ (s : State) (port : Port) (tag : Byte) (body : List Byte), s.Takes port .abortJob → body.length = 2 →
    let out := exec (.abortJob port tag body) s
    let reply := fun (u : State) (x : Reply) => Host.Outcome.next (State.answered u port 0x04 tag x)
    let aborted := fun (id : Nat) => s.pipe.rows.map (fun r => if r.job = id then { r with
      lanes := r.lanes.map (fun l =>
        if l.isNumbered then { l with causes := CauseSet.insert l.causes .aborted } else l) } else r)
    match s.job (fieldAt 0 2 body) with
    | none => out = reply s (.refusal .noSuchJob)
    | some j =>
      match j.state with
      | .ended => out = reply s (.heldFor j)
      | .draining => out = reply ((s.setPipe { s.pipe with rows := aborted j.id }).setJobs
          (s.jobs.map (fun x => if x.id = j.id then { x with drain := some .aborted } else x))) .plain
      | .running => JobsOk s.jobs → ∃ t, out = .next t ∧
          (t.port port).replies = (s.port port).replies ++ [{ kind := 0x04, tag := tag, reply := .plain }] ∧
          t.pipe.rows = aborted j.id ∧ s.LeftRunning t j .aborted ∧
          t.audit.voids = s.audit.voids ∧ t.audit.inFlight = s.audit.inFlight ∧ t.audit.queue = s.audit.queue ∧
          t.drivers = s.drivers ∧ t.requests = s.requests ∧ t.readers = s.readers ∧ t.monitors = s.monitors ∧
          t.shift = s.shift
      | .loaded => JobsOk s.jobs → ∃ t e, out = .next t ∧
          (t.port port).replies = (s.port port).replies ++ [{ kind := 0x04, tag := tag, reply := .plain }] ∧
          t.job j.id = some { j with
            state := .ended
            draw := some { r := 0, listCount := 0, discarded := s.feedOf j.id }
            endRec := some e } ∧
          e.job = j.id ∧ e.reason = .cancelled ∧ e.tallies = j.tallies ∧ e.feedDiscarded = s.feedOf j.id ∧
          t.gen.feed = (if s.feedJob = some j then [] else s.gen.feed) ∧
          (s.portAbsent j.owner = false → AttentionSet.has (t.port j.owner).pending .jobEnd = true) ∧
          t = (((s.setJobs t.jobs).setGen { s.gen with feed := t.gen.feed }).setLine t.line).setPanel t.panel

/-- Query Job at a ready port, in every condition in which the ports take requests: NO_SUCH_JOB, HELD with the end record
of an ENDED job, or OK with the record, its place in load order, the Generator's state, and its lanes and rows in the
pipeline; nothing changes (R137). That the place counts from 0, the oldest, is the model's choice (log entry 10). -/
def Obligations.QueryJobReports : Prop :=
  ∀ (s : State) (port : Port) (tag : Byte) (body : List Byte), s.Ready port → body.length = 2 →
    exec (.queryJob port tag body) s = .next (s.answered port 0x05 tag
      (match s.job (fieldAt 0 2 body) with
       | none => .refusal .noSuchJob
       | some j =>
         if j.state = .ended then .heldFor j
         else .okay (.job
           { job := j
             place := s.jobs.findIdx (fun x => decide (x.id = j.id))
             gen := s.gen
             inFlight := ((s.pipe.rows.filter (fun r => decide (r.job = j.id))).map Row.numbered).sum
             rows := (s.pipe.rows.filter (fun r => decide (r.job = j.id))).length })))

/-- Collect End at a port that takes it: the five tests of R138 in order; at the last the slot is emptied. -/
def Obligations.CollectEndTests : Prop :=
  ∀ (s : State) (port : Port) (tag : Byte) (body : List Byte), s.Takes port .collectEnd → body.length = 2 →
    let out := exec (.collectEnd port tag body) s
    let reply := fun (u : State) (x : Reply) => Host.Outcome.next (State.answered u port 0x06 tag x)
    match s.job (fieldAt 0 2 body) with
    | none => out = reply s (.refusal .noSuchJob)
    | some j =>
      if j.owner ≠ port then out = reply s (.refusal .notOwner)
      else if j.state = .running ∨ j.state = .draining then out = reply s .busy
      else if j.state = .loaded then out = reply s (.refusal .wrongState)
      else ∀ e, j.endRec = some e →
        out = reply (s.setJobs (s.jobs.filter (fun x => decide (x.id ≠ j.id)))) (.okay (.endRecord e))

/-- Feed Numbers at a port that takes it: the four tests of R64 in order, for the job the feed belongs to by R63; numbers
taken go to the tail in the order carried and are counted in FEED_IN. That the body is a one-byte count and then the numbers is
the model's choice (log entry 10). -/
def Obligations.FeedNumbersTests : Prop :=
  ∀ (s : State) (port : Port) (tag : Byte) (body : List Byte), s.Takes port .feedNumbers →
    body.length = 1 + 5 * fieldAt 0 1 body →
    let ns := (List.range (fieldAt 0 1 body)).map (fun i => fieldAt (1 + 5 * i) 5 body)
    let owner := (match s.running with | some j => some j | none => s.oldestLoaded)
    let out := exec (.feedNumbers port tag body) s
    let reply := fun (u : State) (x : Reply) => Host.Outcome.next (State.answered u port 0x07 tag x)
    (((∀ j, owner = some j → j.plan.source ≠ .list) → out = reply s (.refusal .wrongState)) ∧
     (∀ j, owner = some j → j.plan.source = .list →
       if ns.length = 0 ∨ 32 < ns.length ∨ (∃ n ∈ ns, 10 ^ j.plan.width ≤ n) then out = reply s (.refusal .range)
       else if 512 < s.gen.feed.length + ns.length then out = reply s (.refusal .full)
       else out = reply ((s.setGen { s.gen with feed := s.gen.feed ++ ns }).setJobs
         (s.jobs.map (fun x => if x.id = j.id then
           { x with tallies := { x.tallies with feedIn := satAdd x.tallies.feedIn ns.length } } else x))) .plain))

/-! ## Attentions and stop causes -/

/-- An attention class raised at both ports (R175, R178): at each port that is not idle by strap it joins the pending set
and a notice is unsent, unless it is pending already; the panel port idle by strap is untouched. Nothing else changes. -/
def Obligations.AttentionsJoinThePendingSet : Prop :=
  ∀ (s : State) (c : Attention),
    (∀ p, (s.raiseBoth c).port p =
      if (p = .panel ∧ s.straps.panel = .absent) ∨ AttentionSet.has (s.port p).pending c = true then s.port p
      else { s.port p with pending := (s.raiseBoth c).port p |>.pending, unsent := true }) ∧
    (∀ p d, ¬(p = .panel ∧ s.straps.panel = .absent) → AttentionSet.has ((s.raiseBoth c).port p).pending d =
      (AttentionSet.has (s.port p).pending d || decide (d = c))) ∧
    s.raiseBoth c = (s.setLine ((s.raiseBoth c).port .line)).setPanel ((s.raiseBoth c).port .panel)

/-- Stop causes (R166, R167): a report of an event cause latches it; the start of a level condition latches and holds it;
its end leaves the latched flag and ends the hold; no other cause is touched, and neither is the mask. Where the Stop Unit
was consistent it is so afterwards: the output is asserted just while a latched cause is enabled. STOP is raised at both
ports exactly when the output goes from deasserted to asserted, and nothing else changes. -/
def Obligations.StopCausesLatchAndTheOutputFollows : Prop :=
  ∀ (s : State) (c d : StopCause), s.stop.Consistent →
    (StopSet.has (s.latchEvent c).stop.latched d = (StopSet.has s.stop.latched d || decide (d = c)) ∧
     (s.latchEvent c).stop.held = s.stop.held) ∧
    (StopSet.has (s.startLevel c).stop.latched d = (StopSet.has s.stop.latched d || decide (d = c)) ∧
     StopSet.has (s.startLevel c).stop.held d = (StopSet.has s.stop.held d || decide (d = c))) ∧
    ((s.endLevel c).stop.latched = s.stop.latched ∧
     StopSet.has (s.endLevel c).stop.held d = (StopSet.has s.stop.held d && !decide (d = c))) ∧
    (∀ t, t = s.latchEvent c ∨ t = s.startLevel c ∨ t = s.endLevel c →
      t.stop.Consistent ∧ t.stop.mask = s.stop.mask ∧
      (if s.stop.output = false ∧ t.stop.output = true then t = (s.setStop t.stop).raiseBoth .stop
       else t = s.setStop t.stop))

/-! ## Cue marks -/

/-- CUE_MARK_DETECTION where no row is given the mark: counted in RETRAVEL while the web re-travels (R3, R24); in FREE
offered to capture alone (R17, R24); disregarded for a ply outside the epoch's mask; and counted as spurious, for the ply
and for the shift, within half a row distance of the spacing reference (R24, R25). Nothing else changes. -/
def Obligations.MarksNotGivenToARow : Prop :=
  ∀ (s : State) (p : Ply),
    let out := exec (.cueMarkDetection p) s
    let m := s.marks.get p
    let c := s.trk.capture
    (s.trk.retravel = true → out = .next (s.setMarks (s.marks.set p
      { m with counts := { m.counts with retravel := satAdd m.counts.retravel 1 } })).startSending) ∧
    (s.trk.retravel = false → s.trk.epoch = none →
      (c.enabled = true ∧ c.ply = some p → out = .next (s.setTrk { s.trk with capture :=
        { c with
          slots := c.slots.set c.index (some ⟨none, s.trk.h⟩)
          index := if c.index = 15 then 0 else c.index + 1
          enabled := decide (c.index ≠ 15) } }).startSending) ∧
      (¬(c.enabled = true ∧ c.ply = some p) → out = .next s.startSending)) ∧
    (∀ e, s.trk.retravel = false → s.trk.epoch = some e →
      (inMask e.mask p = false → out = .next s.startSending) ∧
      (∀ g, inMask e.mask p = true → m.spacing = some g → 2 * posDiff s.trk.h g.pos < g.dist →
        out = .next ((s.setMarks (s.marks.set p
          { m with counts := { m.counts with spurious := satAdd m.counts.spurious 1 } })).setShift
          { s.shift with marksSpurious := satAdd s.shift.marksSpurious 1 }).startSending))

/-- CUE_MARK_DETECTION of a mark given to a row that is OPEN and not yet assigned (sections 2.2 to 2.6; R17, R24, R26, R30
to R35, R37, R77, R81): the ply's counts, trend, last mark, spacing reference, m_p, E, last row and drift condition; the
window end rescheduled while a job is RUNNING; capture; the end of a MARK_LOST condition; the row's assignment with SPLICE
and REGISTER; and for a row with a numbered lane the send request and the expectation. A send position at or behind H is taken
at once, as SEND_POSITION takes it (R101). Nothing else changes but DRIFT raised where the drift condition starts. The mapping is that of `MarkMapsToTheNearestRow`; the row
from which it is carried across the wrap of positions is the model's choice (log entry 9). -/
def Obligations.MarkGivenToAnOpenRow : Prop :=
  ∀ (s : State) (p : Ply) (ep : Epoch) (o0 : Pos) (k : Nat) (e : Int) (r : Row) (x : PlyRec),
    let c := s.trk.h
    let m := s.marks.get p
    let set := s.plies.get p
    let cap := s.trk.capture
    let fire := c + BitVec.ofNat 40 set.l
    let send := fire - BitVec.ofNat 40 (s.drivers.get p.driver).lead
    s.stop.Consistent → s.audit.condition = .normal → s.trk.retravel = false →
    s.trk.epoch = some ep → ep.o0 = some o0 → inMask ep.mask p = true →
    (∀ g, m.spacing = some g → g.dist ≤ 2 * posDiff c g.pos) →
    mapMark o0 ep.repeatUm (s.pipe.nextIndex.getD 4294967296) (c + BitVec.ofNat 40 set.d) = ((k : Int), e) →
    (∀ j, m.lastRow = some j → j < k) → (∀ n, s.pipe.nextIndex = some n → k < n) →
    s.row k = some r → r.stage = .opened → r.plyRec p = some x → x.assign = .none →
    s.trk.dueEntry (.send p k) = none →
    let inRegister : Bool := decide (|e| ≤ (set.t : Int))
    let trend := if inRegister then m.trend + Int.tdiv (16 * e - m.trend) 8 else m.trend
    let drift := if inRegister then decide (0 < set.driftLimit ∧ 16 * (set.driftLimit : Int) ≤ |trend|) else m.drift
    let rt := rowDistance ep.repeatUm k
    let expected := c + BitVec.ofInt 40 rt
    let causes : CauseSet := (if s.isSpoiled p c then CauseSet.ofList [.splice] else 0) |||
      (if inRegister then 0 else CauseSet.ofList [.register])
    let reads : Row → Bool := fun y => decide (0 < y.numbered ∧ s.policyOf y.job ≠ .off ∧ set.reader = true)
    let u := (((((s.setMarks (s.marks.set p
        { expected := some ⟨expected, k⟩
          missed := 0
          trend := trend
          last := some ⟨c, some ⟨k, e⟩⟩
          spacing := some ⟨c, rt⟩
          lastRow := some k
          drift := drift
          counts := { m.counts with
            accepted := satAdd m.counts.accepted 1
            outOfTolerance := if inRegister then m.counts.outOfTolerance else satAdd m.counts.outOfTolerance 1 } })).setTrk
      { s.trk with
        capture := if cap.enabled = true ∧ cap.ply = some p then
            { cap with
              slots := cap.slots.set cap.index (some ⟨some ⟨k, e⟩, c⟩)
              index := if cap.index = 15 then 0 else cap.index + 1
              enabled := decide (cap.index ≠ 15) }
          else cap
        schedule := s.trk.schedule.filter (fun y => !decide (y.ev = .windowEnd p)) ++
          (if s.running.isSome then
            [⟨expected + BitVec.ofNat 40 (min set.w (ep.repeatUm / 50 / 2) + 1), .windowEnd p⟩] else []) ++
          (if 0 < r.numbered then [⟨send, .send p k⟩] else []) }).setStop
      { s.stop with held := StopSet.erase s.stop.held (.markLost p) }).setPipe
      { s.pipe with rows := s.pipe.rows.map (fun y => if y.k = k then
          { y with
            plies := y.plies.map (fun z => if z.ply = p then
              { z with
                assign := .mark c e
                order := if 0 < y.numbered then .scheduled else z.order
                reads := if reads y then y.awaitedReads else z.reads } else z)
            lanes := y.lanes.map (fun l => if l.isNumbered then { l with causes := l.causes ||| causes } else l) }
        else y) }).setRequests
      (s.requests ++ if 0 < r.numbered then [⟨p, k, send, fire⟩] else [])).setReaders
      (if reads r then s.readers.set p { s.readers.get p with expectations := (s.readers.get p).expectations ++
        [⟨k, c + BitVec.ofNat 40 set.d - BitVec.ofNat 40 set.q, r.numberedSet⟩] } else s.readers)
    let v := if inRegister = true ∧ drift = true ∧ m.drift = false then u.raiseBoth .drift else u
    exec (.cueMarkDetection p) s = (if isAhead send c = true then .next v.startSending else exec (.sendPosition p k) v)

/-- CUE_MARK_DETECTION of a pre-job mark or a duplicate (R28, R29). A mark that maps to a row before row 0 is accepted
without row or error and sets the spacing reference, E and its window, and m_p to 0. One that maps to a row at or before
the last assigned row is counted as a duplicate, and reaches the row with REGISTER, while it is OPEN, where one of the last
m_p flywheels gave it this ply's form. Nothing else changes. The row from which the mapping is carried across the wrap of
positions is the model's choice (log entry 9). -/
def Obligations.PreJobMarksAndDuplicates : Prop :=
  ∀ (s : State) (p : Ply) (ep : Epoch) (o0 : Pos) (k e : Int),
    let c := s.trk.h
    let m := s.marks.get p
    let cap := s.trk.capture
    s.stop.Consistent → s.trk.retravel = false → s.trk.epoch = some ep → ep.o0 = some o0 → inMask ep.mask p = true →
    (∀ g, m.spacing = some g → g.dist ≤ 2 * posDiff c g.pos) →
    mapMark o0 ep.repeatUm (s.pipe.nextIndex.getD 4294967296) (c + BitVec.ofNat 40 (s.plies.get p).d) = (k, e) →
    (k < 0 → exec (.cueMarkDetection p) s = .next (((s.setMarks (s.marks.set p
        { m with
          expected := some ⟨c + BitVec.ofInt 40 (rowDistance ep.repeatUm k), k⟩
          missed := 0
          last := some ⟨c, none⟩
          spacing := some ⟨c, rowDistance ep.repeatUm k⟩
          counts := { m.counts with accepted := satAdd m.counts.accepted 1 } })).setTrk
      { s.trk with
        capture := if cap.enabled = true ∧ cap.ply = some p then
            { cap with
              slots := cap.slots.set cap.index (some ⟨none, c⟩)
              index := if cap.index = 15 then 0 else cap.index + 1
              enabled := decide (cap.index ≠ 15) }
          else cap
        schedule := s.trk.schedule.filter (fun y => !decide (y.ev = .windowEnd p)) ++
          (if s.running.isSome then
            [⟨c + BitVec.ofInt 40 (rowDistance ep.repeatUm k) +
              BitVec.ofNat 40 (min (s.plies.get p).w (ep.repeatUm / 50 / 2) + 1), .windowEnd p⟩] else []) }).setStop
      { s.stop with held := StopSet.erase s.stop.held (.markLost p) }).startSending) ∧
    (∀ (n j : Nat), k = (n : Int) → m.lastRow = some j → n ≤ j →
      exec (.cueMarkDetection p) s = .next ((s.setMarks (s.marks.set p
        { m with counts := { m.counts with duplicate := satAdd m.counts.duplicate 1 } })).setPipe
        { s.pipe with rows := s.pipe.rows.map (fun r =>
          if r.k = n ∧ r.stage = .opened ∧ j - (m.missed : Int) < n then
            { r with lanes := r.lanes.map (fun l =>
              if l.isNumbered then { l with causes := CauseSet.insert l.causes .register } else l) }
          else r) }).startSending)

/-- The opening of rows by a CUE_MARK_DETECTION or a MARK_WINDOW_END. In ORIGIN_PENDING the reference ply's mark sets O0 to its
cue position plus D′ and opens row 0 with its draw, its merge, marker and delivery positions scheduled (R10, R12, R27, R55 to
R59, R77, R78, R81); another ply's mark sets the spacing reference with g = Rt_min and opens none (R27). In TRACKING a form
reported for the row at the next index opens it for the RUNNING job (R77, R78): BLANK with SPLICE_AHEAD and nothing drawn where
it is spoiled (R46); BLANK with HELD, the reserve condition set and VOID_RESERVE latched, where its lanes have no room, and the
condition cleared where they have (R79); else with its draw, from the sequence (R59), the feed (R65, with FEED_STARVED and
FEED_LOW, R66) or the make-up queue (R69), or blank (R60). A draw that becomes complete puts a STRICT job in the MAKEUP phase and
a LOG_ONLY job in DRAINING (R61, R132), every window withdrawn where none follows on (R38). A form reported beyond the next index
opens the rows up to it in order, the form going to the last (R80). A form reported outside NORMAL, for a row that no running
job can open, or for a row past OPEN, gone or already assigned, counts in FORMS_DISCARDED alone (R77). Whatever becomes of
the form, the Mark Unit takes its mark or flywheel (`State.MarkTaken`; R24, R31 to R37), and a form given to a row hands its
expectation to the Read Unit (`State.expecting`; R81, R115). The mapping of a mark is that of log entry 9. Premises: the rows' positions and the send
position lie ahead of H. -/
def Obligations.OriginMarkOpensRowZero : Prop :=
  (∀ (s : State) (p : Ply) (ep : Epoch) (j : Job),
    let c := s.trk.h
    let m := s.marks.get p
    let o0 := c + BitVec.ofNat 40 ep.dRef
    let send := c + BitVec.ofNat 40 (s.plies.get p).l - BitVec.ofNat 40 (s.drivers.get p.driver).lead
    let lanes := (List.range j.plan.lanes).map (fun l =>
      match j.plan.setIndex 0 l with
      | some i => freshLane { n := j.plan.number i, str := j.plan.printed (j.plan.number i),
                              checked := decide (j.plan.check ≠ .none), source := .sequence }
      | none => blankLane)
    s.trk.retravel = false → s.trk.epoch = some ep → ep.o0 = none → inMask ep.mask p = true → m.spacing = none →
    (p ≠ ep.refPly → exec (.cueMarkDetection p) s = .next ((s.setMarks (s.marks.set p
        { m with
          counts := { m.counts with accepted := satAdd m.counts.accepted 1 }
          last := some ⟨c, none⟩
          spacing := some ⟨c, ((ep.repeatUm / 50 : Nat) : Int)⟩ })).offerCapture p ⟨none, c⟩).startSending) ∧
    (p = ep.refPly → s.audit.condition = .normal → s.running = some j → s.pipe.nextIndex = some 0 → s.pipe.rows = [] →
      s.trk.schedule = [] → s.gen.phase = .sequence → s.gen.complete = false → s.gen.r = 0 → j.plan.source = .sequence →
      0 < j.plan.lanes → j.plan.sequenceDone 1 = false → s.audit.voidCount + j.plan.lanes ≤ 1024 →
      (∀ q, s.zones.get q = []) → 0 < ep.dRef → ep.dRef + s.trk.v < 2 ^ 39 → ep.dRef + s.trk.x < 2 ^ 39 →
      isAhead send c = true → JobsOk s.jobs →
      ∃ t, exec (.cueMarkDetection p) s = .next t ∧
        t.trk.epoch = some { ep with o0 := some o0 } ∧ t.pipe.nextIndex = some 1 ∧
        (∃ r, t.pipe.rows = [r] ∧ r.k = 0 ∧ r.origin = o0 ∧ r.job = j.id ∧ r.lanes = lanes ∧ r.stage = .opened ∧
          r.kind = (if lanes.all LaneRec.isNumbered then .numbered else .partialRow) ∧
          r.blank = (if lanes.all LaneRec.isNumbered then none else some j.plan.endCause) ∧
          (∀ q, r.plyRec q = if inMask ep.mask q then
              some { ply := q
                     assign := if q = p then .mark c 0 else .none
                     order := if q = p then .scheduled else .notDue
                     reads := if q = p ∧ j.plan.policy ≠ .off ∧ (s.plies.get p).reader = true then r.awaitedReads
                       else PerLane.all .noneExpected }
            else none) ∧ t.readers = s.expecting p c r j.plan.policy) ∧
        s.MarkTaken t p ep 0 c (.mark c 0) ∧
        t.gen = { s.gen with r := 1 } ∧
        (∀ y, y ∈ t.trk.schedule ↔ y = ⟨o0, .merge 0⟩ ∨ y = ⟨o0 + BitVec.ofNat 40 s.trk.v, .marker 0⟩ ∨
          y = ⟨o0 + BitVec.ofNat 40 s.trk.x, .delivery 0⟩ ∨ y = ⟨send, .send p 0⟩ ∨
          y = ⟨c + BitVec.ofInt 40 (rowDistance ep.repeatUm 0) +
            BitVec.ofNat 40 (min (s.plies.get p).w (ep.repeatUm / 50 / 2) + 1), .windowEnd p⟩) ∧
        (t.job j.id = some { j with tallies := { j.tallies with
          drawn := satAdd j.tallies.drawn (countNumbered lanes) } }) ∧
        t.zones = s.zones ∧ t.shift = s.shift ∧ t.monitors = s.monitors ∧ t.drivers = s.drivers ∧
        t.audit.voids = s.audit.voids ∧ t.audit.inFlight = s.audit.inFlight ∧ t.audit.queue = s.audit.queue)) ∧
  (∀ (s : State) (cmd : Instr) (p : Ply) (ep : Epoch) (o0 : Pos) (n : Nat) (c : Pos) (a : Assignment) (j : Job),
    let origin := rowOrigin o0 ep.repeatUm n
    let plan := j.plan
    let waiting := s.audit.queue.filter (fun e => decide (e.job = j.id) && decide (e.state = .waiting))
    let want := (match s.gen.phase with
      | .makeUp => min plan.lanes waiting.length
      | .sequence => if s.gen.complete then 0 else (match plan.source with
        | .sequence => ((plan.numbersAt s.gen.r).filter Option.isSome).length
        | .list => min plan.lanes (min s.gen.feed.length (plan.count - s.gen.listCount))))
    let spoiled := ∃ q, inMask ep.mask q = true ∧ s.isSpoiled q (origin - BitVec.ofNat 40 (s.plies.get q).d) = true
    let room := s.audit.voids.length + s.audit.inFlight.length + (s.pipe.rows.map Row.numbered).sum + want ≤ 1024
    let causes : CauseSet := (if s.isSpoiled p c then CauseSet.ofList [.splice] else 0) ||| (match a with
      | .mark _ e => if |e| ≤ ((s.plies.get p).t : Int) then 0 else CauseSet.ofList [.register]
      | .flywheel _ => if 1 ≤ (s.marks.get p).missed then CauseSet.ofList [.noMark] else 0
      | .none => 0)
    let padded := fun (given : List (Option LaneNumber)) => given ++ List.replicate (plan.lanes - given.length) none
    let numbered := fun (n : Nat) (source : LaneSource) =>
      some { n := n, str := plan.printed n, checked := decide (plan.check ≠ .none), source := source : LaneNumber }
    s.Reports cmd p ep o0 n c a → s.RowAhead n origin p c → 0 < plan.lanes → s.audit.condition = .normal → s.stop.Consistent →
    JobsOk s.jobs → QueueOk s.audit.queue → s.running = some j → s.pipe.nextIndex = some n →
    (∀ r ∈ s.pipe.rows, r.k < n) →
    ∃ (t : State) (r : Row), exec cmd s = .next t ∧
      t.pipe.rows = s.pipe.rows ++ [r] ∧ t.pipe.nextIndex = (if n = 4294967295 then none else some (n + 1)) ∧
      t.pipe.formsDiscarded = s.pipe.formsDiscarded ∧
      r.k = n ∧ r.origin = origin ∧ r.job = j.id ∧ r.stage = .opened ∧
      (∀ l ∈ r.lanes, l.marked = false ∧ l.causes = if l.isNumbered then causes else 0) ∧
      (∀ q, r.plyRec q = if inMask ep.mask q then
          some { ply := q
                 assign := if q = p then a else .none
                 order := if q = p ∧ 0 < r.numbered then .scheduled else .notDue
                 reads := if q = p ∧ 0 < r.numbered ∧ plan.policy ≠ .off ∧ (s.plies.get p).reader = true then r.awaitedReads
                   else PerLane.all .noneExpected }
        else none) ∧
      ⟨origin, .merge n⟩ ∈ t.trk.schedule ∧ ⟨origin + BitVec.ofNat 40 s.trk.v, .marker n⟩ ∈ t.trk.schedule ∧
      ⟨origin + BitVec.ofNat 40 s.trk.x, .delivery n⟩ ∈ t.trk.schedule ∧
      (0 < r.numbered → ⟨s.sendPos p c, .send p n⟩ ∈ t.trk.schedule) ∧
      t.requests = s.requests ++
        (if 0 < r.numbered then [⟨p, n, s.sendPos p c, c + BitVec.ofNat 40 (s.plies.get p).l⟩] else []) ∧
      s.MarkTaken t p ep n c a ∧ t.readers = s.expecting p c r plan.policy ∧
      t.zones = s.zones ∧ t.drivers = s.drivers ∧ t.shift = s.shift ∧
      t.monitors = s.monitors ∧ t.audit.voids = s.audit.voids ∧ t.audit.inFlight = s.audit.inFlight ∧
      (spoiled → r.lanes = List.replicate plan.lanes blankLane ∧ r.blank = some .spliceAhead ∧
        t.gen = s.gen ∧ t.jobs = s.jobs ∧ t.audit = s.audit ∧ t.pipe.reserve = s.pipe.reserve) ∧
      (¬spoiled → 0 < want → ¬room → r.lanes = List.replicate plan.lanes blankLane ∧ r.blank = some .held ∧
        t.gen = s.gen ∧ t.jobs = s.jobs ∧ t.audit = s.audit ∧ t.pipe.reserve = true ∧
        (s.pipe.reserve = false → StopSet.has t.stop.latched .voidReserve = true ∧
          StopSet.has t.stop.held .voidReserve = true)) ∧
      (¬spoiled → want = 0 → t.pipe.reserve = s.pipe.reserve) ∧
      (¬spoiled → 0 < want → room → t.pipe.reserve = false ∧
        (s.pipe.reserve = true → StopSet.has t.stop.held .voidReserve = false)) ∧
      (¬spoiled → want = 0 ∨ room →
        let lists := decide (s.gen.phase = .sequence ∧ s.gen.complete = false ∧ plan.source = .list)
        let drawnNow := decide (s.gen.phase = .sequence ∧ 0 < want)
        let listCount := if lists then s.gen.listCount + want else s.gen.listCount
        let left := if lists then s.gen.feed.drop want else s.gen.feed
        let drawCount := if drawnNow then s.gen.r + 1 else s.gen.r
        let done := drawnNow && (match plan.source with
          | .sequence => plan.sequenceDone drawCount
          | .list => decide (listCount = plan.count))
        let starved := lists && decide (want < plan.lanes) && decide (listCount ≠ plan.count)
        r.lanes.map LaneRec.number = (match s.gen.phase with
          | .makeUp => padded ((waiting.take want).map (fun e => numbered e.number (.makeUp e.attempts)))
          | .sequence => if s.gen.complete then padded [] else (match plan.source with
            | .sequence => plan.numbersAt s.gen.r
            | .list => padded ((s.gen.feed.take want).map (fun x => numbered x .list)))) ∧
        r.blank = (if want = plan.lanes then none else some (match s.gen.phase with
          | .makeUp => .waitMakeUp
          | .sequence => (match plan.source with
            | .sequence => (match plan.mode with | .interleaved => .countEnd | .banked => .bankEnd)
            | .list => if starved then .feedStarved else .countEnd))) ∧
        t.audit.queue = s.audit.queue.map (fun e =>
          if s.gen.phase = .makeUp ∧ e ∈ waiting.take want then { e with state := .issued } else e) ∧
        (t.job j.id).map Job.tallies = some { j.tallies with
          drawn := if 0 < want then satAdd j.tallies.drawn want else j.tallies.drawn
          makeUpDrawn := if s.gen.phase = .makeUp ∧ 0 < want then satAdd j.tallies.makeUpDrawn want
            else j.tallies.makeUpDrawn } ∧
        (0 < want → ∀ z ∈ s.audit.records, z.job = j.id → z.state = .opened →
          { z with r := drawCount, listCount := listCount, drawn := z.drawn + want } ∈ t.audit.records) ∧
        StopSet.has t.stop.latched .feedStarved = (StopSet.has s.stop.latched .feedStarved || starved) ∧
        (∀ q, s.portAbsent q = false → AttentionSet.has (t.port q).pending .feedLow =
          (AttentionSet.has (s.port q).pending .feedLow ||
            decide (s.gen.lowMark ≤ s.gen.feed.length ∧ left.length < s.gen.lowMark))) ∧
        (¬(done = true ∧ plan.accounting = .logOnly) → (t.job j.id).map Job.state = some .running ∧
          t.gen = { s.gen with
            r := drawCount
            listCount := listCount
            feed := left
            complete := s.gen.complete || done
            phase := if done then .makeUp else s.gen.phase }) ∧
        (done = true → plan.accounting = .logOnly →
          (t.job j.id).map (fun z => (z.state, z.drain, z.draw)) = some (.draining, some .complete,
            some { r := drawCount, listCount := listCount, discarded := if plan.source = .list then left.length else 0 }) ∧
          (s.oldestLoaded = none → t.running = none ∧ t.trk.epoch = some ep ∧
            (∀ q, ∀ y ∈ t.trk.schedule, y.ev ≠ .windowEnd q) ∧
            t.gen.feed = if plan.source = .list then [] else s.gen.feed)))) ∧
  (∀ (s : State) (cmd : Instr) (p : Ply) (ep : Epoch) (o0 : Pos) (n m : Nat) (c : Pos) (a : Assignment) (j : Job),
    s.Reports cmd p ep o0 (n + m) c a → (∀ i, i ≤ m → s.RowAhead (n + i) (rowOrigin o0 ep.repeatUm (n + i : Nat)) p c) →
    n + m ≤ 4294967295 → s.audit.condition = .normal → s.stop.Consistent → JobsOk s.jobs → s.running = some j →
    s.pipe.nextIndex = some n → (∀ r ∈ s.pipe.rows, r.k < n) → (∀ q, s.zones.get q = []) → s.pipe.reserve = false →
    s.gen.phase = .sequence → s.gen.complete = false → j.plan.source = .sequence → 0 < j.plan.lanes →
    (∀ i, i ≤ m → j.plan.sequenceDone (s.gen.r + i + 1) = false) →
    s.audit.voids.length + s.audit.inFlight.length + (s.pipe.rows.map Row.numbered).sum + (m + 1) * j.plan.lanes ≤ 1024 →
    ∃ (t : State) (opened : List Row), exec cmd s = .next t ∧ t.pipe.rows = s.pipe.rows ++ opened ∧
      opened.map Row.k = List.range' n (m + 1) ∧
      t.pipe.nextIndex = (if n + m = 4294967295 then none else some (n + m + 1)) ∧
      (∀ (i : Nat) (r : Row), opened[i]? = some r → r.origin = rowOrigin o0 ep.repeatUm (n + i : Nat) ∧ r.job = j.id ∧
        r.stage = .opened ∧ r.lanes.map LaneRec.number = j.plan.numbersAt (s.gen.r + i) ∧
        (∀ q x, r.plyRec q = some x → x.assign = if i = m ∧ q = p then a else .none) ∧
        (i = m → t.readers = s.expecting p c r j.plan.policy)) ∧
      s.MarkTaken t p ep (n + m) c a ∧ t.gen = { s.gen with r := s.gen.r + m + 1 } ∧
      (t.job j.id).map Job.tallies = some { j.tallies with
        drawn := satAdd j.tallies.drawn (opened.map Row.numbered).sum }) ∧
  (∀ (s : State) (cmd : Instr) (p : Ply) (ep : Epoch) (o0 : Pos) (k : Nat) (c : Pos) (a : Assignment),
    s.Reports cmd p ep o0 k c a → s.stop.Consistent →
    (s.audit.condition ≠ .normal ∨
      ((∀ n, s.pipe.nextIndex = some n → k < n ∨ s.running = none) ∧
       (∀ r x, s.row k = some r → r.plyRec p = some x → r.stage ≠ .opened ∨ x.assign ≠ .none))) →
    ∃ t, exec cmd s = .next t ∧
      t.pipe = { s.pipe with formsDiscarded := satAdd s.pipe.formsDiscarded 1 } ∧ t.requests = s.requests ∧
      t.readers = s.readers ∧ t.gen = s.gen ∧ t.jobs = s.jobs ∧ t.audit = s.audit ∧ t.drivers = s.drivers ∧
      t.zones = s.zones ∧ s.MarkTaken t p ep k c a)

/-- MARK_WINDOW_END where the window end of ply p is due (R36, R37): a flywheel mark at E, given to the row after that of
the mark that set E. For a row that is OPEN and not yet assigned: m_p rises to at most 255, FLYWHEEL rises, MARK_LOST starts
at eight misses, the spacing reference, the last row, E and its window follow, and the row is assigned with SPLICE in a
spoil zone and NO_MARK from the second miss on; a send position at or behind H is taken at once, as SEND_POSITION takes it
(R81, R101). Before row 0, the spacing reference and E alone follow. That a window end is taken while it is due, and that where
none is due nothing changes, is the model's choice (log entry 2). -/
def Obligations.FlywheelAtTheWindowEnd : Prop :=
  ∀ (s : State) (p : Ply),
    (s.trk.dueEntry (.windowEnd p) = none → exec (.markWindowEnd p) s = .next s.startSending) ∧
    (∀ (ep : Epoch) (w : Scheduled) (x : Expected), s.trk.dueEntry (.windowEnd p) = some w →
      s.trk.epoch = some ep → (s.marks.get p).expected = some x →
      let m := s.marks.get p
      let set := s.plies.get p
      let c := x.pos
      let rt := rowDistance ep.repeatUm (x.row + 1)
      let expected := c + BitVec.ofInt 40 rt
      let window : List Scheduled := if s.running.isSome then
        [⟨expected + BitVec.ofNat 40 (min set.w (ep.repeatUm / 50 / 2) + 1), .windowEnd p⟩] else []
      let kept := s.trk.schedule.filter (fun y => !decide (y.ev = .windowEnd p))
      (x.row + 1 < 0 → exec (.markWindowEnd p) s = .next ((s.setMarks (s.marks.set p
          { m with expected := some ⟨expected, x.row + 1⟩, spacing := some ⟨c, rt⟩ })).setTrk
        { s.trk with schedule := kept ++ window }).startSending) ∧
      (∀ (k : Nat) (r : Row) (z : PlyRec), x.row + 1 = (k : Int) → s.audit.condition = .normal →
        (∀ n, s.pipe.nextIndex = some n → k < n) →
        s.row k = some r → r.stage = .opened → r.plyRec p = some z → z.assign = .none →
        s.trk.dueEntry (.send p k) = none →
        let missed := min (m.missed + 1) 255
        let fire := c + BitVec.ofNat 40 set.l
        let send := fire - BitVec.ofNat 40 (s.drivers.get p.driver).lead
        let causes : CauseSet := (if s.isSpoiled p c then CauseSet.ofList [.splice] else 0) |||
          (if 2 ≤ missed then CauseSet.ofList [.noMark] else 0)
        let reads : Row → Bool := fun y => decide (0 < y.numbered ∧ s.policyOf y.job ≠ .off ∧ set.reader = true)
        let u := ((((s.setMarks (s.marks.set p
            { m with
              expected := some ⟨expected, (k : Int)⟩
              missed := missed
              spacing := some ⟨c, rt⟩
              lastRow := some k
              counts := { m.counts with flywheel := satAdd m.counts.flywheel 1 } })).setTrk
          { s.trk with schedule := kept ++ window ++ (if 0 < r.numbered then [⟨send, .send p k⟩] else []) }).setPipe
          { s.pipe with rows := s.pipe.rows.map (fun y => if y.k = k then
              { y with
                plies := y.plies.map (fun v => if v.ply = p then
                  { v with
                    assign := .flywheel c
                    order := if 0 < y.numbered then .scheduled else v.order
                    reads := if reads y then y.awaitedReads else v.reads } else v)
                lanes := y.lanes.map (fun l => if l.isNumbered then { l with causes := l.causes ||| causes } else l) }
            else y) }).setRequests
          (s.requests ++ if 0 < r.numbered then [⟨p, k, send, fire⟩] else [])).setReaders
          (if reads r then s.readers.set p { s.readers.get p with expectations := (s.readers.get p).expectations ++
            [⟨k, c + BitVec.ofNat 40 set.d - BitVec.ofNat 40 set.q, r.numberedSet⟩] } else s.readers)
        let v := if missed = 8 then u.startLevel (.markLost p) else u
        exec (.markWindowEnd p) s =
          (if isAhead send s.trk.h = true then .next v.startSending else exec (.sendPosition p k) v)))

/-! ## Splices -/

/-- SPLICE_DETECTION disregarded, placed, and a ZONE_EXPIRY (R43 to R45). A detection while the web re-travels, in FREE, or
for a ply outside the mask changes nothing. Else SPLICES rises and the span around x is merged with the newest zone, added,
or, the list being full, the newest zone is extended over it, with its expiry scheduled anew: in every condition and whatever
rows are held. With no row to walk (R47), or outside NORMAL, nothing else changes. ZONE_EXPIRY drops the zones that carry the
expiry raised; that it does nothing where none is due is the model's choice (log entry 2), and so is that an older zone's expiry
which is due waits on while a splice is taken: the list is then as it was (R45). The premise says that the new zone does not expire at once. -/
def Obligations.SplicePlacesAZoneAndExpiryDropsIt : Prop :=
  ∀ (s : State) (p : Ply),
    (s.trk.retravel = true ∨ s.trk.epoch = none ∨ (∃ e ∈ s.trk.epoch, inMask e.mask p = false) →
      exec (.spliceDetection p) s = .next s.startSending) ∧
    (∀ (ep : Epoch), s.trk.retravel = false → s.trk.epoch = some ep → inMask ep.mask p = true →
      let x := s.trk.h + BitVec.ofNat 40 (s.plies.get p).s
      let lo := x - BitVec.ofNat 40 (s.plies.get p).mb
      let hi := x + BitVec.ofNat 40 (s.plies.get p).ma
      let expiry := hi + BitVec.ofNat 40 (ep.repeatUm / 50 / 2 + 2)
      let zs := s.zones.get p
      isAhead expiry s.trk.h = true →
      let ofZone := fun (y : Scheduled) => decide (y.ev = .zoneExpiry p)
      let shift := { s.shift with splices := satAdd s.shift.splices 1 }
      let placed := fun (zs' : List Zone) (kept : List Scheduled) =>
        (∃ t, exec (.spliceDetection p) s = .next t ∧ t.zones = s.zones.set p zs' ∧ t.shift = shift ∧
          t.trk.schedule.filter ofZone = kept.filter ofZone ++ [⟨expiry, .zoneExpiry p⟩]) ∧
        (s.audit.condition ≠ .normal ∨ s.pipe.rows = [] → exec (.spliceDetection p) s = .next
          (((s.setZones (s.zones.set p zs')).setTrk { s.trk with schedule := kept ++ [⟨expiry, .zoneExpiry p⟩] }).setShift
            shift).startSending)
      (zs = [] → placed [⟨lo, hi, expiry⟩] s.trk.schedule) ∧
      (∀ older n, zs = older ++ [n] →
        if isAhead lo (n.stop + 1) = true ∧ zs.length < 4 then placed (zs ++ [⟨lo, hi, expiry⟩]) s.trk.schedule
        else placed (older ++ [⟨n.start, hi, expiry⟩])
          (s.trk.schedule.filter (fun y => !(decide (y.ev = .zoneExpiry p) && decide (y.pos = n.expiry)))))) ∧
    (s.trk.dueEntry (.zoneExpiry p) = none → exec (.zoneExpiry p) s = .next s.startSending) ∧
    (∀ y, s.trk.dueEntry (.zoneExpiry p) = some y →
      exec (.zoneExpiry p) s = .next ((s.setZones (s.zones.set p
        ((s.zones.get p).filter (fun z => decide (z.expiry ≠ y.pos))))).setTrk
        { s.trk with schedule := s.trk.schedule.erase y }).startSending)

/-- The withdrawal walk of a splice (R44, R47, R48, R67, R84) from the youngest row back over `taken`: rows of the RUNNING job,
affected, unprinted, OPEN, with no order sent; it stops at the youngest of `older`. The affected span is that of the splice, or
begins past the newest zone where a full list has that zone extended; the splice is counted in SPLICES, and its zone and expiry
placed (R43 to R45). A row taken with a numbered lane is made BLANK with
SPLICE_AHEAD and loses its sends and expectations; one without is passed over. A row drawn in the SEQUENCE phase makes r fall
by one and the draw incomplete, and its LIST numbers return to the head of the feed, oldest row first, in lane order; the
ISSUED entries of its MAKEUP lanes are WAITING. WITHDRAWN rises by the numbered lanes, the recovery record follows, and the
reserve condition ends where a full row has room (R79). Older rows whose form is assigned in the span, and which are OPEN, get
SPLICE (R49). A row drawn in the MAKEUP phase is premised to be of a STRICT job and to have an ISSUED entry, as R69 leaves it. -/
def Obligations.SpliceWithdrawsTheYoungestRow : Prop :=
  ∀ (s : State) (p : Ply) (ep : Epoch) (j : Job) (older taken : List Row),
    let x := s.trk.h + BitVec.ofNat 40 (s.plies.get p).s
    let start := x - BitVec.ofNat 40 (s.plies.get p).mb
    let hi := x + BitVec.ofNat 40 (s.plies.get p).ma
    let lo := (match (s.zones.get p).getLast? with
      | some z => if isAhead start (z.stop + 1) = true ∧ 4 ≤ (s.zones.get p).length then z.stop + 1 else start
      | none => start)
    let d := (s.plies.get p).d
    let affected := fun (y : Row) =>
      inSpan lo hi ((y.assignedPos p).getD (y.origin - BitVec.ofNat 40 d)) = true
    let free := fun (y : Row) => y.printed = false ∧ y.stage = .opened ∧
      ∀ z ∈ y.plies, z.order = .notDue ∨ z.order = .scheduled
    let numbersOf := fun (f : LaneSource → Bool) (y : Row) => y.lanes.filterMap (fun l => match l.number with
      | some n => if f n.source then some n.n else none
      | none => none)
    let isMakeUp := fun (z : LaneSource) => (match z with | .makeUp _ => true | _ => false)
    let blanked := taken.filter (fun y => decide (0 < y.numbered))
    let drawn := blanked.filter Row.fromDraw
    let lists := taken.flatMap (numbersOf (fun z => decide (z = .list)))
    let count := (taken.map Row.numbered).sum
    let ofRow := fun (k : Nat) => blanked.any (fun y => decide (y.k = k))
    let room := s.audit.voids.length + s.audit.inFlight.length + (older.map Row.numbered).sum + j.plan.lanes ≤ 1024
    let expiry := hi + BitVec.ofNat 40 (ep.repeatUm / 50 / 2 + 2)
    let placed := s.zonePlaced p start hi expiry
    s.audit.condition = .normal → s.trk.retravel = false → s.trk.epoch = some ep → inMask ep.mask p = true →
    isAhead expiry s.trk.h = true → s.stop.Consistent →
    JobsOk s.jobs → s.running = some j → s.pipe.rows = older ++ taken → (s.pipe.rows.map Row.k).Nodup →
    (∀ y ∈ older.getLast?, ¬(y.job = j.id ∧ affected y ∧ free y)) →
    (∀ y ∈ taken, y.job = j.id ∧ affected y ∧ free y) →
    (∀ y ∈ blanked, y.fromDraw = false → j.plan.accounting = .strict ∧
      ∃ e ∈ s.audit.queue, e.job = j.id ∧ e.state = .issued ∧ e.number ∈ numbersOf isMakeUp y) →
    ∃ t, exec (.spliceDetection p) s = .next t ∧
      t.pipe = { s.pipe with
        rows := older.map (fun y =>
            if (match y.assignedPos p with | some c => inSpan lo hi c | none => false) = true ∧ y.stage = .opened then
              { y with lanes := y.lanes.map (fun l =>
                if l.isNumbered then { l with causes := CauseSet.insert l.causes .splice } else l) }
            else y) ++
          taken.map (fun y => if 0 < y.numbered then
            { y with
              kind := .blank
              blank := some .spliceAhead
              lanes := y.lanes.map (fun _ => blankLane)
              plies := y.plies.map (fun z => { z with order := .notDue, reads := PerLane.all .noneExpected }) } else y)
        reserve := s.pipe.reserve && !decide (blanked ≠ [] ∧ room) } ∧
      t.stop = { s.stop with held :=
        if s.pipe.reserve = true ∧ blanked ≠ [] ∧ room then StopSet.erase s.stop.held .voidReserve else s.stop.held } ∧
      t.gen = { s.gen with
        r := s.gen.r - drawn.length
        feed := lists ++ s.gen.feed
        listCount := s.gen.listCount - lists.length
        complete := s.gen.complete && decide (drawn = [])
        phase := if drawn ≠ [] ∧ s.gen.complete = true then .sequence else s.gen.phase } ∧
      t.audit = { s.audit with
        queue := s.audit.queue.map (fun e =>
          if e.job = j.id ∧ e.state = .issued ∧ e.number ∈ taken.flatMap (numbersOf isMakeUp) then
            { e with state := .waiting } else e)
        records := s.audit.records.map (fun z => if z.job = j.id ∧ z.state = .opened ∧ blanked ≠ [] then
          { z with
            r := t.gen.r
            listCount := t.gen.listCount
            withdrawn := z.withdrawn + count } else z) } ∧
      t.requests = s.requests.filter (fun q => !ofRow q.row) ∧
      t.zones = s.zones.set p placed.1 ∧ t.shift = { s.shift with splices := satAdd s.shift.splices 1 } ∧
      t.trk = { s.trk with schedule := placed.2.filter (fun w => match w.ev with | .send _ k => !ofRow k | _ => true) } ∧
      (∀ q, t.readers.get q = { s.readers.get q with
        expectations := (s.readers.get q).expectations.filter (fun e => !ofRow e.row) }) ∧
      t.jobs = s.jobs.map (fun z => if z.id = j.id ∧ blanked ≠ [] then
        { z with tallies := { z.tallies with withdrawn := satAdd z.tallies.withdrawn count } } else z) ∧
      t.drivers = s.drivers ∧ t.marks = s.marks ∧ t.monitors = s.monitors

/-! ## Numbers -/

/-- A plan that passes its tests draws each set index below its count exactly once: on one row and one lane before the draw
is complete, and it draws no other (R55, R56, R61). Its rows of a set index are lane l of row r with r·L + l in INTERLEAVED
mode and l·B + r in BANKED mode, B being ceil(C/L). Every number of a SEQUENCE plan has at most W digits (R51, R52). -/
def Obligations.EverySetIndexIsDrawnOnceAndInRange : Prop :=
  ∀ plan : Plan, plan.valid = true →
    (∀ i, i < plan.count →
      ∃ r l, l < plan.lanes ∧ plan.sequenceDone r = false ∧ plan.setIndex r l = some i ∧
        i = (match plan.mode with
          | .interleaved => r * plan.lanes + l
          | .banked => l * ((plan.count + plan.lanes - 1) / plan.lanes) + r) ∧
        ∀ r' l', l' < plan.lanes → plan.setIndex r' l' = some i → r' = r ∧ l' = l) ∧
    (∀ r l i, plan.setIndex r l = some i → l < plan.lanes → i < plan.count ∧ plan.sequenceDone r = false) ∧
    (plan.source = .sequence → ∀ i, i < plan.count → 0 ≤ plan.numberInt i ∧ plan.numberInt i < (10 ^ plan.width : Nat) ∧
      plan.numberInt i = (match plan.direction with
        | .up => (plan.first : Int) + i * plan.step
        | .down => (plan.first : Int) - i * plan.step))

/-- The printed string (R57): W digits, most significant first with leading zeros, then the check digit of the scheme. For
MOD7 it is the number modulo 7. For MOD10W it brings the weighted sum, the weights 3, 1, 3, 1 from the rightmost digit of
the number, to a multiple of 10. -/
def Obligations.PrintedStringsAndCheckDigits : Prop :=
  ∀ (plan : Plan) (n : Nat), n < 10 ^ plan.width →
    ∃ ds check : List Digit, plan.printed n = ds ++ check ∧ ds.length = plan.width ∧
      ds.foldl (fun a d => a * 10 + d.val) 0 = n ∧
      (match plan.check with
       | .none => check = []
       | .mod7 => ∃ d, check = [d] ∧ d.val = n % 7
       | .mod10w => ∃ d, check = [d] ∧
           (((List.range plan.width).map (fun i => (if i % 2 = 0 then 3 else 1) * (n / 10 ^ i % 10))).sum + d.val) % 10 = 0)

/-! ## The row pipeline -/

/-- MERGE where the merge position of row k is due and the row is OPEN (R86, R107, R108, R116): a ply without a form gives
PLY_MISSING, an order SENT gives NO_REPLY and HEAD_NO_REPLY, a send still SCHEDULED is withdrawn and gives LATE and
HEAD_LATE, a read still AWAITED gives NOREAD, and under read policy STRICT NO_READ on the lane; the row is MERGED and its
expectations end. Each SENT order lapses at its driver, in ply order: NO_REPLY and the no-reply count rise, and the driver is
SUSPECT, or at the third DOWN with its other orders abandoned and DRIVER_DOWN(d) latched and held; a driver that has no order
for a SENT ply is untouched. A row past OPEN is left as it is (R85), and a position not due changes nothing (log entry 2). -/
def Obligations.MergeJudgesTheRow : Prop :=
  ∀ (s : State) (k : Nat),
    (s.trk.dueEntry (.merge k) = none → exec (.merge k) s = .next s.startSending) ∧
    (∀ y : Scheduled, s.trk.dueEntry (.merge k) = some y → (∀ r, s.row k = some r → r.stage ≠ .opened) →
      exec (.merge k) s = .next (s.setTrk { s.trk with schedule := s.trk.schedule.erase y }).startSending) ∧
    (∀ (y : Scheduled) (r : Row), s.trk.dueEntry (.merge k) = some y → s.row k = some r → r.stage = .opened →
      let policy := s.policyOf r.job
      let lapse := fun (v : DriverRec) (z : PlyRec) =>
        match v.orders.find? (fun o => decide (o.ply = z.ply) && decide (o.row = k)) with
        | none => v
        | some o => if v.noReply + 1 < 3 then
            { v with
              orders := v.orders.erase o
              noReply := v.noReply + 1
              state := if v.state = .ready then .suspect else v.state
              counts := { v.counts with noReply := satAdd v.counts.noReply 1 } }
          else
            { v with
              orders := []
              noReply := 3
              state := .down
              counts := { v.counts with
                noReply := satAdd v.counts.noReply 1
                abandoned := satAdd v.counts.abandoned (v.orders.erase o).length } }
      let judgedPly := fun (z : PlyRec) =>
        { z with
          order := if z.order = .sent then .noReply else if z.order = .scheduled then .late false else z.order
          reads := z.reads.map (fun x => if x = .awaited then .noRead else x) }
      let causes := fun (v : Row) => CauseSet.ofList
        ((if v.plies.any (fun z => decide (z.assign = .none)) then [.plyMissing] else []) ++
         (if v.plies.any (fun z => decide (z.order = .sent)) then [.headNoReply] else []) ++
         (if v.plies.any (fun z => decide (z.order = .scheduled)) then [.headLate] else []))
      ∃ t, exec (.merge k) s = .next t ∧
        t.trk.schedule = (s.trk.schedule.erase y).filter (fun w =>
          !r.plies.any (fun z => decide (z.order = .scheduled) && decide (w.ev = .send z.ply k))) ∧
        t.requests = s.requests.filter (fun q =>
          !(decide (q.row = k) && r.plies.any (fun z => decide (z.order = .scheduled) && decide (q.ply = z.ply)))) ∧
        t.pipe = { s.pipe with rows := s.pipe.rows.map (fun v => if v.k = k then
          { v with
            stage := .merged
            plies := v.plies.map judgedPly
            lanes := v.lanes.mapIdx (fun i l =>
              if l.isNumbered then
                { l with causes := l.causes ||| causes v |||
                    (if policy = .strict ∧ ∃ m ∈ Lane.all, m.index = i ∧
                        (v.plies.map judgedPly).any (fun z => decide (z.reads.get m = .noRead)) = true
                      then CauseSet.ofList [.noRead] else 0) }
              else l) }
          else v) } ∧
        (∀ q, t.readers.get q = { s.readers.get q with
          expectations := (s.readers.get q).expectations.filter (fun e => decide (e.row ≠ k)) }) ∧
        (∀ d, t.drivers.get d =
          (r.plies.filter (fun z => decide (z.order = .sent) && decide (z.ply.driver = d))).foldl lapse (s.drivers.get d)) ∧
        (s.stop.Consistent → ∀ d, (s.drivers.get d).state ≠ .down →
          StopSet.has t.stop.latched (.driverDown d) =
            (StopSet.has s.stop.latched (.driverDown d) || decide ((t.drivers.get d).state = .down)) ∧
          StopSet.has t.stop.held (.driverDown d) =
            (StopSet.has s.stop.held (.driverDown d) || decide ((t.drivers.get d).state = .down))) ∧
        (∀ c, (∀ d, c ≠ .driverDown d) → StopSet.has t.stop.latched c = StopSet.has s.stop.latched c ∧
          StopSet.has t.stop.held c = StopSet.has s.stop.held c) ∧
        t.jobs = s.jobs ∧ t.gen = s.gen ∧ t.audit = s.audit ∧ t.marks = s.marks ∧ t.zones = s.zones ∧
        t.shift = s.shift ∧ t.monitors = s.monitors)

/-- MARKER where the marker position of a MERGED row is due (R87, R170): the row is MARKED and its void lanes carry the
marker-issued flag; each void lane's output is asserted, its pulse to end 64 ticks past O(k) + V; nothing else changes. Of a
row still OPEN the merge work is done first, as a merge due at H would do it (R85). PULSE_END where an end is due deasserts the
output unless a later end is kept (R170), and changes nothing else. That neither event does anything where its position is not
due is the model's choice (log entry 2). The first clause's premises say that no pulse end is due, and that these are ahead of
H. -/
def Obligations.MarkerPulsesVoidLanes : Prop :=
  (∀ (s : State) (k : Nat) (y : Scheduled) (r : Row), s.trk.dueEntry (.marker k) = some y → s.row k = some r →
    r.stage = .merged → (∀ l, s.trk.dueEntry (.pulseEnd l) = none) →
    let stop := r.origin + BitVec.ofNat 40 s.trk.v + 64
    let pulsed := fun (l : Lane) => (match r.lanes[l.index]? with
      | some x => x.isNumbered && decide (x.causes ≠ 0)
      | none => false)
    isAhead stop s.trk.h = true →
    let ends : List Scheduled := (Lane.all.filter pulsed).map (fun l => ⟨stop, .pulseEnd l⟩)
    exec (.marker k) s = .next ((s.setTrk { s.trk with schedule := s.trk.schedule.erase y ++ ends }).setPipe
      { s.pipe with
        rows := s.pipe.rows.map (fun v => if v.k = k then
          { v with
            stage := .marked
            lanes := v.lanes.map (fun l => { l with marked := l.marked || (l.isNumbered && decide (l.causes ≠ 0)) }) }
          else v)
        markers :=
          ⟨s.pipe.markers.l1 || pulsed .l1, s.pipe.markers.l2 || pulsed .l2, s.pipe.markers.l3 || pulsed .l3,
           s.pipe.markers.l4 || pulsed .l4⟩ }).startSending) ∧
  (∀ (s : State) (k : Nat) (y : Scheduled) (r : Row) (w : State), s.trk.dueEntry (.marker k) = some y →
    s.row k = some r → r.stage = .opened →
    exec (.merge k) (s.setTrk { s.trk with schedule := ⟨s.trk.h, .merge k⟩ :: s.trk.schedule }) = .next w →
    exec (.marker k) s = exec (.marker k) w) ∧
  (∀ (s : State) (k : Nat), s.trk.dueEntry (.marker k) = none → exec (.marker k) s = .next s.startSending) ∧
  (∀ (s : State) (l : Lane), s.trk.dueEntry (.pulseEnd l) = none → exec (.pulseEnd l) s = .next s.startSending) ∧
  (∀ (s : State) (l : Lane) (y : Scheduled), s.trk.dueEntry (.pulseEnd l) = some y →
    exec (.pulseEnd l) s = .next ((s.setTrk { s.trk with schedule := s.trk.schedule.erase y }).setPipe
      (if ∃ x ∈ s.trk.schedule.erase y, x.ev = .pulseEnd l then s.pipe
       else { s.pipe with markers := s.pipe.markers.set l false })).startSending)

/-- DELIVERY where the delivery position of a MARKED row of a RUNNING or DRAINING job is due (R88 to R90, R146, R147, R151,
R153, R160, R163 to R165): the row leaves; each good lane, void lane and blank lane is counted for the job and the shift, and
ROWS rises; each void lane, in lane order (the model's choice, log entry 21), is appended in flight as a record with the next
sequence, its causes, UNMARKED where no pulse was issued, and H as its retire position. For a STRICT job every numbered lane
takes its make-up step, which gives the record its NOT_QUEUED and MAKEUP_EXHAUSTED flags, and MAKEUP is raised for a record
flagged NOT_QUEUED. The recovery record follows. Each monitor samples the row; an alarm raises MONITOR and, with stop enable,
latches MONITOR(n). The reserve condition ends where a full row has room or no job is RUNNING (R79). A RUNNING job whose draw
is complete and which leaves no lane in flight, and if STRICT no WAITING entry, leaves RUNNING (R132; with no follower the
Generator's values but the feed stand on, the model's choice, log entry 29); a DRAINING job with no row left ends (R134; its
drain reason as it stood, log entry 26); and the Tracker has returned to FREE with no job RUNNING and no row held (R7,
`State.Freed`). Of a row still OPEN or MERGED the merge and marker work is done first, as a marker due at H would do it (R85).
A position not due changes nothing (log entry 2). -/
def Obligations.DeliveryRetiresTheRow : Prop :=
  ∀ (s : State) (k : Nat),
    (s.trk.dueEntry (.delivery k) = none → exec (.delivery k) s = .next s.startSending) ∧
    (∀ (y : Scheduled) (r : Row) (w : State), s.trk.dueEntry (.delivery k) = some y → s.row k = some r → r.stage ≠ .marked →
      (∀ p, s.PortBusy p) →
      exec (.marker k) (s.setTrk { s.trk with schedule := ⟨s.trk.h, .marker k⟩ :: s.trk.schedule }) = .next w →
      exec (.delivery k) s = exec (.delivery k) w) ∧
    (∀ (y : Scheduled) (r : Row) (j : Job) (ep : Epoch), s.trk.dueEntry (.delivery k) = some y → s.row k = some r →
      r.stage = .marked → JobsOk s.jobs → s.job r.job = some j → j.state = .running ∨ j.state = .draining →
      s.trk.epoch = some ep → s.audit.condition = .normal → s.stop.Consistent →
      let strict : Bool := decide (j.plan.accounting = .strict)
      let queueAt := fun (m : Nat) => ((r.lanes.take m).zipIdx 1).foldl (fun q (l, no) => match l.number with
        | some n => if strict then makeUpQueue q r.job no n (decide (l.causes ≠ 0)) else q
        | none => q) s.audit.queue
      let voids := (r.lanes.zipIdx 1).filterMap (fun (l, no) =>
        match l.number with
        | some n => if l.causes = 0 then none
          else some (no, n, l.causes, !l.marked, strict && stepNotQueued (queueAt (no - 1)) r.job n, strict && stepExhausted n)
        | none => none)
      let good := (r.lanes.filter (fun l => l.isNumbered && decide (l.causes = 0))).length
      let blank := (r.lanes.filter (fun l => !l.isNumbered)).length
      let up := fun (n x : Nat) => (fun v => satAdd v 1)^[n] x
      let alarmed := fun (i : Mon) => (s.monitors.get i).alarmed ((s.monitors.get i).source.rowCount r)
      let tallied : Job := { j with tallies := { j.tallies with
        rows := satAdd j.tallies.rows 1
        good := up good j.tallies.good
        void := up voids.length j.tallies.void
        blank := up blank j.tallies.blank } }
      let others := s.pipe.rows.filter (fun v => decide (v.k ≠ k))
      let u := (s.setJobs (s.jobs.map (fun z => if z.id = r.job then tallied else z))).setAudit { s.audit with
        queue := queueAt r.lanes.length
        records := s.audit.records.map (fun z => if z.job = r.job ∧ z.state = .opened then
          { z with
            good := z.good + good
            void := z.void + voids.length
            retiredRows := z.retiredRows + (if r.fromDraw then 1 else 0)
            retiredList := z.retiredList + (r.lanes.filter LaneRec.fromFeed).length } else z) }
      let spent : Bool := decide (j.state = .running) && s.gen.complete &&
        decide (((others.filter (fun v => decide (v.job = r.job))).map Row.numbered).sum = 0) &&
        (!strict || !(queueAt r.lanes.length).any (fun e => decide (e.job = r.job) && decide (e.state = .waiting)))
      let last : Bool := decide (j.state = .draining) && !others.any (fun v => decide (v.job = r.job))
      let fits : Bool := (match s.running with
        | none => true
        | some x => decide (s.audit.voids.length + s.audit.inFlight.length + voids.length + (others.map Row.numbered).sum +
          x.plan.lanes ≤ 1024))
      ∃ (t : State) (recs : List VoidRecord), exec (.delivery k) s = .next t ∧
        t.audit.inFlight = s.audit.inFlight ++ recs ∧
        recs.map (fun v => (v.laneNo, v.lane, v.causes, v.unmarked, v.notQueued, v.exhausted)) = voids ∧
        (∀ v ∈ recs, v.job = r.job ∧ v.owner = j.owner ∧ v.row = k ∧ v.retire = s.trk.h) ∧
        (∀ (i : Nat) (v : VoidRecord), recs[i]? = some v → v.sequence = (match i with
          | 0 => s.audit.nextSequence
          | i + 1 => (match recs[i]? with
            | some w => if w.sequence = 2 ^ 32 - 1 then 1 else w.sequence + 1
            | none => 0))) ∧
        t.audit.voids = s.audit.voids ∧ t.audit.queue = u.audit.queue ∧ t.drivers = s.drivers ∧
        t.shift = { s.shift with
          rows := satAdd s.shift.rows 1
          good := up good s.shift.good
          void := up voids.length s.shift.void
          blank := up blank s.shift.blank } ∧
        (∀ i, t.monitors.get i = (s.monitors.get i).sampled ((s.monitors.get i).source.rowCount r)) ∧
        (∀ i, StopSet.has t.stop.latched (.monitor i) =
          (StopSet.has s.stop.latched (.monitor i) || (alarmed i && (s.monitors.get i).stopEnable))) ∧
        (∀ q, s.portAbsent q = false →
          AttentionSet.has (t.port q).pending .monitor =
            (AttentionSet.has (s.port q).pending .monitor || Mon.all.any alarmed) ∧
          AttentionSet.has (t.port q).pending .makeUp =
            (AttentionSet.has (s.port q).pending .makeUp || recs.any VoidRecord.notQueued)) ∧
        t.trk.epoch = (if t.running = none ∧ others = [] then none else some ep) ∧ (t.trk.epoch = none → s.Freed t) ∧
        t.pipe = { s.pipe with
          rows := others
          nextIndex := if t.trk.epoch = none then none else s.pipe.nextIndex
          reserve := s.pipe.reserve && t.trk.epoch.isSome && !(decide (0 < r.numbered) && fits) } ∧
        (s.pipe.reserve = true → t.pipe.reserve = false → StopSet.has t.stop.held .voidReserve = false) ∧
        (spent = true → u.LeftRunning t tallied .complete) ∧
        (spent = false → t.gen = s.gen ∧ t.running.map Job.id = s.running.map Job.id ∧
          (∀ z ∈ u.jobs, z.id ≠ r.job → t.job z.id = some z) ∧
          (last = true → t.HasEnded tallied (j.drain.getD .complete) (j.draw.getD ⟨0, 0, 0⟩) ∧
            t.audit.records = u.audit.records.filter (fun z => decide (z.job ≠ r.job))) ∧
          (last = false → t.jobs = u.jobs ∧ t.audit.records = u.audit.records)) ∧
        ((∀ i, alarmed i = false) → spent = false → t.trk.epoch = some ep → t.pipe.reserve = s.pipe.reserve →
          t.stop = s.stop ∧ t.marks = s.marks ∧ t.zones = s.zones))

/-- The make-up step of a numbered lane of a STRICT job (R151), on the queue of a store that is in order. A SEQUENCE or LIST
lane that is void enters at the tail as WAITING with attempt 1, unless the queue is full or holds the number. A MAKEUP lane
that is void at attempt 1 or 2 puts its ISSUED entry back to WAITING with the attempt raised; at attempt 3, or good, the entry
leaves. Its record is flagged NOT_QUEUED or MAKEUP_EXHAUSTED. The queue stays in order. -/
def Obligations.MakeUpStepFollowsTheLane : Prop :=
  ∀ (q : List MakeUpEntry) (job lane : Nat) (n : LaneNumber), QueueOk q →
    QueueOk (makeUpQueue q job lane n true) ∧ QueueOk (makeUpQueue q job lane n false) ∧
    (n.source = .sequence ∨ n.source = .list →
      makeUpQueue q job lane n false = q ∧ stepExhausted n = false ∧
      (stepNotQueued q job n = true ↔ 256 ≤ q.length ∨ ∃ e ∈ q, e.job = job ∧ e.number = n.n) ∧
      makeUpQueue q job lane n true = (if stepNotQueued q job n then q
        else q ++ [{ job := job, number := n.n, lane := lane, attempts := 1, state := .waiting }])) ∧
    (∀ (attempt : Nat) (a b : List MakeUpEntry) (e : MakeUpEntry), n.source = .makeUp attempt → q = a ++ e :: b →
      e.job = job → e.number = n.n → e.state = .issued →
      makeUpQueue q job lane n false = a ++ b ∧ stepNotQueued q job n = false ∧
      (stepExhausted n = true ↔ 3 ≤ attempt) ∧
      makeUpQueue q job lane n true = (if attempt < 3 then
        a ++ { e with state := .waiting, attempts := e.attempts + 1 } :: b else a ++ b))

/-- The void list's entries, in flight included, and the numbered lanes in the pipeline never exceed 1024 together: no step
takes the two past it (R79). -/
def Obligations.VoidListAndLanesNeverExceed1024 : Prop := KeptByStep (fun s => s.reserved ≤ 1024)

/-- In FREE the pipeline holds no row: no step leaves one there (R5, R7). -/
def Obligations.FreeHoldsNoRow : Prop := KeptByStep FreeIsEmpty

/-! ## The head link -/

/-- SEND_POSITION where the send position of a pending request is due (R101 to R104, R82): the request is no longer pending.
A DOWN driver sends nothing: NOT_SENT_DOWN is counted, and the row, while it is OPEN, gets DRIVER_DOWN; a driver with four
outstanding orders: OVERRUN and HEAD_OVERRUN. Else the IMPRINT order goes out with the first value from the next tag upward
that no outstanding order holds, from 255 to 0 (R104), the driver's drop class, and one entry for each numbered lane in
increasing order, its digits reversed for an INVERTED driver; the order is outstanding and the ply SENT. Nothing else changes.
That a position not due changes nothing is the model's choice (log entry 2). -/
def Obligations.SendPositionSendsOrCounts : Prop :=
  ∀ (s : State) (p : Ply) (k : Nat),
    (s.trk.dueEntry (.send p k) = none → exec (.sendPosition p k) s = .next s.startSending) ∧
    (∀ (y : Scheduled) (q : SendRequest), s.trk.dueEntry (.send p k) = some y →
      s.requests.find? (fun x => decide (x.ply = p) && decide (x.row = k)) = some q →
      let d := s.drivers.get p.driver
      let taken := (s.setTrk { s.trk with schedule := s.trk.schedule.erase y }).setRequests
        (s.requests.filter (fun x => !(decide (x.ply = p) && decide (x.row = k))))
      let rows := fun (order : OrderState) (cs : List VoidCause) => s.pipe.rows.map (fun r =>
        if r.k = k ∧ r.stage = .opened then
          { r with
            plies := r.plies.map (fun z => if z.ply = p then { z with order := order } else z)
            lanes := r.lanes.map (fun l =>
              if l.isNumbered then { l with causes := l.causes ||| CauseSet.ofList cs } else l) }
        else r)
      (d.state = .down → exec (.sendPosition p k) s = .next ((taken.setDrivers (s.drivers.set p.driver
        { d with counts := { d.counts with notSentDown := satAdd d.counts.notSentDown 1 } })).setPipe
        { s.pipe with rows := rows .notSentDown [.driverDown] }).startSending) ∧
      (d.state ≠ .down → 4 ≤ d.orders.length → exec (.sendPosition p k) s = .next ((taken.setDrivers
        (s.drivers.set p.driver { d with counts := { d.counts with overrun := satAdd d.counts.overrun 1 } })).setPipe
        { s.pipe with rows := rows .overrun [.headOverrun] }).startSending) ∧
      (d.state ≠ .down → d.orders.length < 4 → ∀ r, s.row k = some r →
        ∃ passed : Nat,
          let tag := d.nextTag + BitVec.ofNat 8 passed
          passed ≤ d.orders.length ∧ (∀ o ∈ d.orders, o.tag ≠ tag) ∧
          (∀ i, i < passed → ∃ o ∈ d.orders, o.tag = d.nextTag + BitVec.ofNat 8 i) ∧
          exec (.sendPosition p k) s = .next (((taken.setDrivers (s.drivers.set p.driver
            { d with
              orders := d.orders ++ [{ tag := tag, ply := p, row := k, fire := q.fire }]
              nextTag := tag + 1
              counts := { d.counts with ordersSent := satAdd d.counts.ordersSent 1 } })).setHeadLink
            (s.headLink ++ [.imprint p.driver
              { tag := tag, ply := p, row := k, fire := q.fire, send := q.send, dropClass := d.dropClass
                lanes := (r.lanes.zipIdx 1).filterMap (fun (l, no) => l.number.map (fun n =>
                  ⟨no, match d.orientation with | .normal => n.str | .inverted => n.str.reverse⟩)) }])).setPipe
            { s.pipe with rows := s.pipe.rows.map (fun r => if r.k = k ∧ r.stage = .opened then
              { r with plies := r.plies.map (fun z => if z.ply = p then { z with order := .sent } else z) }
              else r) }).startSending))

/-- A driver's reply that matches an outstanding order in tag, ply and row index, its row being OPEN, takes the order off the
list (R105), with the effect of Table 6-5 (R106) on the driver and on the row (R82, R163): DONE makes a SUSPECT driver READY;
LATE gives HEAD_LATE on the row; FAULT gives HEAD_FAULT on the lanes it names that are numbered; NOT_READY is a FAULT of
every numbered lane, and makes a READY driver SUSPECT. All but NOT_READY set the no-reply count to 0. A reply that matches
none, or whose row is not OPEN or has left (R82), is stray, for the driver and the shift, and the order stays; that the latter
changes nothing more is log entry 27. Nothing else changes. -/
def Obligations.DriverRepliesTakeTheirOrder : Prop :=
  ∀ (s : State) (d : Driver) (m : LinkReply) (named : List Nat),
    let v := s.drivers.get d
    let stray := Host.Outcome.next ((s.setDrivers (s.drivers.set d
      { v with counts := { v.counts with stray := satAdd v.counts.stray 1 } })).setShift
      { s.shift with repliesStray := satAdd s.shift.repliesStray 1 }).startSending
    ((∀ o ∈ v.orders, o.tag = m.tag → o.ply.number ≠ m.ply ∨ o.row ≠ m.row) ∨
        (∀ r, s.row m.row = some r → r.stage ≠ .opened) →
      exec (.doneReply d m) s = stray ∧ exec (.lateReply d m) s = stray ∧
      exec (.faultReply d m named) s = stray ∧ exec (.notReadyReply d m) s = stray) ∧
    (∀ o r, v.OrdersOk → o ∈ v.orders → o.tag = m.tag → o.ply.number = m.ply → o.row = m.row →
      s.row m.row = some r → r.stage = .opened →
      let left := v.orders.filter (fun x => decide (x.tag ≠ m.tag))
      let out := fun (d' : DriverRec) (f : Row → Row) => Host.Outcome.next ((s.setDrivers (s.drivers.set d d')).setPipe
        { s.pipe with rows := s.pipe.rows.map (fun r => if r.k = m.row ∧ r.stage = .opened then f r else r) }).startSending
      let ply := fun (r : Row) (order : OrderState) =>
        r.plies.map (fun z => if z.ply = o.ply then { z with order := order } else z)
      let faulted := fun (r : Row) (lanes : List Nat) =>
        { r with
          plies := ply r (.fault lanes)
          lanes := r.lanes.mapIdx (fun i l =>
            if i + 1 ∈ lanes ∧ l.isNumbered then { l with causes := CauseSet.insert l.causes .headFault } else l)
          headFaults := r.headFaults + 1 }
      let numbered := fun (r : Row) (n : Nat) =>
        decide (1 ≤ n) && (match r.lanes[n - 1]? with | some l => l.isNumbered | none => false)
      exec (.doneReply d m) s = out
        { v with
          orders := left
          noReply := 0
          state := if v.state = .suspect then .ready else v.state
          counts := { v.counts with done := satAdd v.counts.done 1 } }
        (fun r => { r with plies := ply r .done }) ∧
      exec (.lateReply d m) s = out
        { v with
          orders := left
          noReply := 0
          counts := { v.counts with late := satAdd v.counts.late 1 } }
        (fun r => { r with
          plies := ply r (.late true)
          lanes := r.lanes.map (fun l =>
            if l.isNumbered then { l with causes := CauseSet.insert l.causes .headLate } else l) }) ∧
      exec (.faultReply d m named) s = out
        { v with
          orders := left
          noReply := 0
          counts := { v.counts with fault := satAdd v.counts.fault 1 } }
        (fun r => faulted r (named.filter (numbered r))) ∧
      exec (.notReadyReply d m) s = out
        { v with
          orders := left
          state := if v.state = .ready then .suspect else v.state
          counts := { v.counts with notReady := satAdd v.counts.notReady 1 } }
        (fun r => faulted r ((List.range' 1 r.lanes.length).filter (numbered r))))

/-- READY_NOTICE, in every state and whatever the driver's (R109): its outstanding orders are abandoned and counted, the
no-reply count is 0 and the driver is READY; the end of DRIVER_DOWN is reported; SYNC with A and H goes to it. The rows keep
what they have. HEAD_LINK_DISCARD is counted for the driver whose address can be read, and for none otherwise (R97). Nothing
else changes. -/
def Obligations.ReadyNoticeAndLinkErrors : Prop :=
  ∀ (s : State) (d : Driver), s.stop.Consistent →
    let v := s.drivers.get d
    exec (.readyNotice d) s = .next (((s.setDrivers (s.drivers.set d
        { v with
          orders := []
          noReply := 0
          state := .ready
          counts := { v.counts with abandoned := satAdd v.counts.abandoned v.orders.length } })).setStop
      { s.stop with held := StopSet.erase s.stop.held (.driverDown d) }).setHeadLink
      (s.headLink ++ [.sync d s.trk.a s.trk.h])).startSending ∧
    exec (.headLinkDiscard (some d)) s = .next (s.setDrivers (s.drivers.set d
      { v with counts := { v.counts with linkErrors := satAdd v.counts.linkErrors 1 } })).startSending ∧
    exec (.headLinkDiscard none) s = .next s.startSending

/-- No step takes a driver past four outstanding orders, gives two orders of one driver the same tag, or takes its no-reply
count past 3 (R100, R104); takes a zone list past four zones (R42, R44); or takes the trend of a ply past 16 times its
tolerance either way, whatever marks and settings it brings (R32). -/
def Obligations.OrdersZonesAndTrendsStayBounded : Prop :=
  KeptByStep (fun s => ∀ d, (s.drivers.get d).OrdersOk) ∧ KeptByStep (fun s => ZonesBounded s.zones) ∧
  KeptByStep (fun s => TrendsBounded s.marks s.plies)

/-! ## Reading back -/

/-- READ_RESULT (R117 to R120): disregarded for a ply that is not installed; counted in READ_ERRORS where it is malformed;
else RESULTS rises, and the result is counted in RETRAVEL while the web re-travels, stray where no expectation of the ply is
due for its lane, and else matched to the oldest that is: the lane is no longer awaited, and MATCHED, MISREAD or NOREAD is
counted and, while the row is OPEN, recorded on it, MISREAD as a cause of the lane too. Digits of an INVERTED driver's ply
are compared reversed. Nothing else changes. That a malformed result of a ply that is not installed is disregarded and not
counted is log entry 17, and that a result after the reverse count which reports an excursion is re-travel (R118) and not
matched (R122) is the model's choice (log entry 23). -/
def Obligations.ReadResultsAreSortedAndJudged : Prop :=
  ∀ (s : State) (p : Ply) (r : ReadReport),
    let v := s.readers.get p
    let out := exec (.readResult p r) s
    let counted := fun (c : ReadCounts) => s.setReaders (s.readers.set p { v with counts := c })
    (s.straps.installed p = false → out = .next s.startSending) ∧
    (s.straps.installed p = true →
      ((∀ l ds, r = .string l ds → ds.length = 0 ∨ 16 < ds.length ∨ l = 0 ∨ 4 < l ∨ .other ∈ ds) →
        (∀ l, r = .noRead l → l = 0 ∨ 4 < l) →
        out = .next (counted { v.counts with readErrors := satAdd v.counts.readErrors 1 }).startSending) ∧
      (∀ (l : Lane) (ds : Option (List Digit)),
        (match ds with
          | none => r = .noRead l.number
          | some x => r = .string l.number (x.map .digit) ∧ 1 ≤ x.length ∧ x.length ≤ 16) →
        (s.trk.retravel = true → out = .next (counted
          { v.counts with
            results := satAdd v.counts.results 1
            retravel := satAdd v.counts.retravel 1 }).startSending) ∧
        (s.trk.retravel = false →
          (∀ e ∈ v.expectations, isAhead e.pos s.trk.h = true ∨ inLanes e.awaited l = false) →
          out = .next ((counted
            { v.counts with
              results := satAdd v.counts.results 1
              stray := satAdd v.counts.stray 1 }).setShift
            { s.shift with readsStray := satAdd s.shift.readsStray 1 }).startSending) ∧
        (∀ (older younger : List Expectation) (e : Expectation) (row : Row) (x : LaneRec) (n : LaneNumber),
          s.trk.retravel = false → v.expectations = older ++ e :: younger →
          (∀ f ∈ older, isAhead f.pos s.trk.h = true ∨ inLanes f.awaited l = false) →
          isAhead e.pos s.trk.h = false → inLanes e.awaited l = true → (∀ f ∈ older ++ younger, f.row ≠ e.row) →
          (∀ f ∈ older ++ younger, f.awaited ≠ 0) →
          s.row e.row = some row → row.lanes[l.index]? = some x → x.number = some n →
          let st : ReadState := (match ds with
            | none => .noRead
            | some y => if (match (s.drivers.get p.driver).orientation with
                | .normal => y
                | .inverted => y.reverse) = n.str then .matched else .misread)
          let left := e.awaited &&& ~~~(BitVec.twoPow 4 l.index)
          out = .next ((s.setReaders (s.readers.set p
              { expectations := older ++ (if left = 0 then [] else [{ e with awaited := left }]) ++ younger
                counts := { v.counts with
                  results := satAdd v.counts.results 1
                  matched := if st = .matched then satAdd v.counts.matched 1 else v.counts.matched
                  misread := if st = .misread then satAdd v.counts.misread 1 else v.counts.misread
                  noRead := if st = .noRead then satAdd v.counts.noRead 1 else v.counts.noRead } })).setPipe
            { s.pipe with rows := s.pipe.rows.map (fun w => if w.k = e.row ∧ w.stage = .opened then
              { w with
                plies := w.plies.map (fun z => if z.ply = p then { z with reads := z.reads.set l st } else z)
                lanes := w.lanes.mapIdx (fun i y =>
                  if st = .misread ∧ i = l.index ∧ y.isNumbered then
                    { y with causes := CauseSet.insert y.causes .misread } else y)
                misreads := if st = .misread then w.misreads + 1 else w.misreads }
              else w) }).startSending)))

/-! ## Requests: the void list, the make-up queue and the recovery records -/

/-- Read Voids at a ready port, in every condition, and Release Voids at a port that takes it (R148, R149): an offset or a
count above the visible count is refused with RANGE; else the visible count, the count in flight and up to 8 records from
the offset on; and the oldest records removed, the reply giving the count left. A release of at least one record ends the
reserve condition where a full row of the RUNNING job then has room, or no job is RUNNING (R79). Nothing else changes. -/
def Obligations.VoidsAreReadAndReleased : Prop :=
  ∀ (s : State) (port : Port) (tag : Byte) (body : List Byte), s.Ready port → body.length = 2 →
    let n := fieldAt 0 2 body
    exec (.readVoids port tag body) s = .next (s.answered port 0x10 tag
      (if s.audit.voids.length < n then .refusal .range
       else .okay (.voids s.audit.voids.length s.audit.inFlight.length ((s.audit.voids.drop n).take 8)))) ∧
    (s.Takes port .releaseVoids →
      (s.audit.voids.length < n →
        exec (.releaseVoids port tag body) s = .next (s.answered port 0x11 tag (.refusal .range))) ∧
      (n ≤ s.audit.voids.length → s.stop.Consistent →
        let left := s.audit.voids.length - n
        let room := (match s.running with
          | none => true
          | some j => decide (left + s.audit.inFlight.length + (s.pipe.rows.map Row.numbered).sum + j.plan.lanes ≤ 1024))
        let u := s.setAudit { s.audit with voids := s.audit.voids.drop n }
        exec (.releaseVoids port tag body) s = .next
          ((if s.pipe.reserve = true ∧ 0 < n ∧ room = true then
              (u.setPipe { s.pipe with reserve := false }).setStop
                { s.stop with held := StopSet.erase s.stop.held .voidReserve }
            else u).answered port 0x11 tag (.okay (.remaining left)))))

/-- Read Make-up, Release Make-up, Read Recovery and Discard Recovery (R152, R154), the two reads at a ready port in every
condition, the two others at a port that takes them. -/
def Obligations.MakeUpEntriesAndRecoveryRecords : Prop :=
  ∀ (s : State) (port : Port) (tag : Byte) (body : List Byte), s.Ready port →
    let n := fieldAt 0 2 body
    (body.length = 2 → exec (.readMakeUp port tag body) s = .next (s.answered port 0x12 tag
      (if s.audit.queue.length < n then .refusal .range
       else .okay (.makeUp s.audit.queue.length ((s.audit.queue.drop n).take 16))))) ∧
    (exec (.readRecovery port tag []) s = .next (s.answered port 0x14 tag
      (.okay (.recovery (s.audit.records.take 4))))) ∧
    (body.length = 2 → s.Takes port .releaseMakeUp →
      exec (.releaseMakeUp port tag body) s = .next (
        if ∃ j ∈ s.jobs, j.id = n ∧ j.state = .running then s.answered port 0x13 tag (.refusal .wrongState)
        else (s.setAudit { s.audit with
            queue := s.audit.queue.filter (fun e => decide (e.job ≠ n) || decide (e.state = .issued)) }).answered
          port 0x13 tag (.okay (.removed
            (s.audit.queue.filter (fun e => decide (e.job = n) && decide (e.state ≠ .issued))).length)))) ∧
    (body.length = 2 → s.Takes port .discardRecovery →
      exec (.discardRecovery port tag body) s = .next (
        match s.audit.records.find? (fun r => decide (r.job = n)) with
        | none => s.answered port 0x15 tag (.refusal .noSuchJob)
        | some r =>
          if r.state = .opened then s.answered port 0x15 tag (.refusal .wrongState)
          else (s.setAudit { s.audit with
            records := s.audit.records.filter (fun x => decide (x.job ≠ n)) }).answered port 0x15 tag .plain))

/-- APPEND_COMPLETE (R146, R147): the oldest record in flight becomes the newest visible one, and VOID_READY is raised at
both ports exactly where the visible count reaches the notify level from below. Nothing else changes, and nothing at all
with no append in flight. In RECOVERING the appends complete within the recovery, and that the event then does nothing is the
model's choice (log entry 7). -/
def Obligations.AppendsCompleteInOrder : Prop :=
  ∀ s : State,
    (s.audit.condition = .recovering ∨ s.audit.inFlight = [] → exec .appendComplete s = .next s.startSending) ∧
    (∀ v rest, s.audit.condition ≠ .recovering → s.audit.inFlight = v :: rest →
      let u := s.setAudit { s.audit with
        voids := s.audit.voids ++ [v]
        inFlight := rest }
      exec .appendComplete s = .next
        (if s.audit.voids.length + 1 = s.audit.notifyLevel then u.raiseBoth .voidReady else u).startSending)

/-! ## Requests: settings -/

/-- Set Line at a port that takes it and Read Line at a ready port (R13, R179): a present V or X above 2^20, a reverse limit
above 2,000 or a presence byte above 1 is refused with RANGE; a present V or X outside FREE is answered BUSY; else the present
values are taken. A reverse limit given in BACKING is tested at once (R4): with H − A beyond it and a row held the excursion
is reported, every numbered lane getting REVERSED and the stop cause REVERSED being latched. Nothing else changes. That a presence byte above 1 is out of range is the model's choice (log entry 10). -/
def Obligations.LineSettings : Prop :=
  ∀ (s : State) (port : Port) (tag : Byte) (body : List Byte),
    let v := optField 0 3 body
    let x := optField 4 3 body
    let limit := optField 8 3 body
    (s.Takes port .setLine → body.length = 12 →
      let u := s.setTrk { s.trk with
        v := v.getD s.trk.v
        x := x.getD s.trk.x
        reverseLimit := limit.getD s.trk.reverseLimit }
      exec (.setLine port tag body) s = .next (
        if (1 < fieldAt 0 1 body ∨ 1 < fieldAt 4 1 body ∨ 1 < fieldAt 8 1 body) ∨
            (∃ n ∈ v, 2 ^ 20 < n) ∨ (∃ n ∈ x, 2 ^ 20 < n) ∨ (∃ n ∈ limit, 2000 < n) then
          s.answered port 0x20 tag (.refusal .range)
        else if (v ≠ none ∨ x ≠ none) ∧ s.trk.epoch ≠ none then s.answered port 0x20 tag .busy
        else if (∃ n ∈ limit, (n : Int) < posDiff s.trk.h s.trk.a) ∧ s.trk.excursion = .backing ∧ s.pipe.rows ≠ [] then
          (((u.setTrk { u.trk with excursion := .excursion }).setPipe { s.pipe with rows := s.pipe.rows.map (fun r => { r with
            lanes := r.lanes.map (fun l =>
              if l.isNumbered then { l with causes := CauseSet.insert l.causes .reversed } else l) }) }).latchEvent
            .reversed).answered port 0x20 tag .plain
        else u.answered port 0x20 tag .plain)) ∧
    (s.Ready port → exec (.readLine port tag []) s = .next (s.answered port 0x21 tag (.okay (.line
      { v := s.trk.v
        x := s.trk.x
        reverseLimit := s.trk.reverseLimit
        a := s.trk.a
        h := s.trk.h
        tracker := (match s.trk.epoch with
          | none => .free
          | some e => if e.o0 = none then .originPending else .tracking)
        excursion := s.trk.excursion
        epoch := s.trk.epoch }))))

/-- Set Ply at a port that takes it and Read Ply at a ready port (R23, R39): the four tests in order, and the present settings
taken. A new T brings the trend into its bound (R32); a new T or drift limit has the drift condition tested, DRIFT raised
where it starts (R33); nothing else changes. That a presence byte above 1 is out of range is the model's choice (log
entry 10). -/
def Obligations.PlySettingsAreTested : Prop :=
  ∀ (s : State) (port : Port) (tag : Byte) (body : List Byte),
    let f := decodePlyFields body
    (s.Takes port .setPly → body.length = 39 →
      let out := exec (.setPly port tag body) s
      let reply := fun (u : State) (x : Reply) => Host.Outcome.next (State.answered u port 0x22 tag x)
      (fieldAt 0 1 body < 1 ∨ 6 < fieldAt 0 1 body → out = reply s (.refusal .range)) ∧
      (∀ p : Ply, fieldAt 0 1 body = p.number →
        if s.straps.installed p = false then out = reply s (.refusal .plies)
        else if (∃ off ∈ [1, 5, 9, 13, 17, 21, 25, 27, 31, 35], 1 < fieldAt off 1 body) ∨
            (∃ n ∈ f.d, 4194303 < n) ∨ (∃ n ∈ f.l, 65535 < n) ∨ (∃ n ∈ f.q, 1048575 < n) ∨ (∃ n ∈ f.s, 1048575 < n) ∨
            (∃ n ∈ f.mb, 20000 < n) ∨ (∃ n ∈ f.ma, 20000 < n) ∨ (∃ n ∈ f.reader, 1 < n) ∨ (∃ n ∈ f.w, 4095 < n) ∨
            (∃ n ∈ f.t, 4095 < n) ∨ (∃ n ∈ f.driftLimit, 4095 < n) then out = reply s (.refusal .range)
        else if (f.d ≠ none ∨ f.l ≠ none ∨ f.q ≠ none ∨ f.s ≠ none ∨ f.mb ≠ none ∨ f.ma ≠ none ∨ f.reader ≠ none) ∧
            s.trk.epoch ≠ none then out = reply s .busy
        else
          let old := s.plies.get p
          let m := s.marks.get p
          let new : PlySettings :=
            { d := f.d.getD old.d
              l := f.l.getD old.l
              q := f.q.getD old.q
              s := f.s.getD old.s
              mb := f.mb.getD old.mb
              ma := f.ma.getD old.ma
              reader := (match f.reader with | some n => decide (n = 1) | none => old.reader)
              w := f.w.getD old.w
              t := f.t.getD old.t
              driftLimit := f.driftLimit.getD old.driftLimit }
          let bound : Int := 16 * (new.t : Int)
          let trend := if f.t = none then m.trend else max (-bound) (min bound m.trend)
          let drift := if f.t = none ∧ f.driftLimit = none then m.drift
            else decide (s.sync p ≠ .off ∧ 0 < new.driftLimit ∧ 16 * (new.driftLimit : Int) ≤ |trend|)
          let u := (s.setPlies (s.plies.set p new)).setMarks (s.marks.set p { m with
            trend := trend
            drift := drift })
          out = reply (if drift = true ∧ m.drift = false then u.raiseBoth .drift else u) .plain)) ∧
    (s.Ready port → body.length = 1 → ∀ p : Ply,
      (fieldAt 0 1 body = p.number → exec (.readPly port tag body) s = .next (s.answered port 0x23 tag
        (.okay (.ply (s.plies.get p) (s.sync p) (s.marks.get p))))) ∧
      (fieldAt 0 1 body = 0 ∨ 6 < fieldAt 0 1 body →
        exec (.readPly port tag body) s = .next (s.answered port 0x23 tag (.refusal .range))))

/-- Set Driver at a port that takes it and Read Driver at a ready port (R99, R113): the tests in order, and the present
settings taken while the Tracker is FREE; the settings, state, orders and counts reported. Nothing else changes. That a
presence byte above 1 is out of range is the model's choice (log entry 10). -/
def Obligations.DriverSettings : Prop :=
  ∀ (s : State) (port : Port) (tag : Byte) (body : List Byte),
    let f := decodeDriverFields body
    (s.Takes port .setDriver → body.length = 11 →
      let out := exec (.setDriver port tag body) s
      let reply := fun (u : State) (x : Reply) => Host.Outcome.next (State.answered u port 0x24 tag x)
      (fieldAt 0 1 body < 1 ∨ 3 < fieldAt 0 1 body → out = reply s (.refusal .range)) ∧
      (∀ d : Driver, fieldAt 0 1 body = d.number →
        if (∀ p ∈ Ply.all, p.driver = d → s.straps.installed p = false) then out = reply s (.refusal .plies)
        else if (1 < fieldAt 1 1 body ∨ 1 < fieldAt 3 1 body ∨ 1 < fieldAt 7 1 body) ∨
            (∃ n ∈ f.orientation, 1 < n) ∨ (∃ n ∈ f.lead, 4095 < n) ∨
            (∃ n ∈ f.dropClass, n = 0) ∨ (∃ n ∈ f.dropClass, 3 < n) then out = reply s (.refusal .range)
        else if (f.orientation ≠ none ∨ f.lead ≠ none ∨ f.dropClass ≠ none) ∧ s.trk.epoch ≠ none then
          out = reply s .busy
        else
          let v := s.drivers.get d
          out = reply (s.setDrivers (s.drivers.set d
            { v with
              orientation := (match f.orientation with
                | some n => if n = 0 then .normal else .inverted
                | none => v.orientation)
              lead := f.lead.getD v.lead
              dropClass := f.dropClass.getD v.dropClass })) .plain)) ∧
    (s.Ready port → body.length = 1 →
      (fieldAt 0 1 body = 0 ∨ 3 < fieldAt 0 1 body →
        exec (.readDriver port tag body) s = .next (s.answered port 0x25 tag (.refusal .range))) ∧
      (∀ d : Driver, fieldAt 0 1 body = d.number →
        exec (.readDriver port tag body) s = .next (s.answered port 0x25 tag (.okay (.driver (s.drivers.get d))))))

/-- Read Reader and Read Capture at a ready port, and Arm Capture at a port that takes it (R16, R18, R123). Nothing changes
but the capture's ply, index and enable, as Arm Capture gives. The model's choices (log entry 10): Arm Capture's fields are a
presence byte, the ply and the start slot, and a presence byte above 1 is refused RANGE; Read Capture's first slot is one byte. -/
def Obligations.ReadersAndCapture : Prop :=
  ∀ (s : State) (port : Port) (tag : Byte) (body : List Byte), s.Ready port →
    (body.length = 3 → ∀ p : Ply, fieldAt 0 1 body = p.number →
      exec (.readReader port tag body) s = .next (s.answered port 0x26 tag
        (if (s.readers.get p).expectations.length < fieldAt 1 2 body then .refusal .range
         else .okay (.reader
           { q := (s.plies.get p).q
             reader := (s.plies.get p).reader
             orientation := (s.drivers.get p.driver).orientation
             count := (s.readers.get p).expectations.length
             expectations := ((s.readers.get p).expectations.drop (fieldAt 1 2 body)).take 8
             counts := (s.readers.get p).counts })))) ∧
    (body.length = 3 → fieldAt 0 1 body = 0 ∨ 6 < fieldAt 0 1 body →
      exec (.readReader port tag body) s = .next (s.answered port 0x26 tag (.refusal .range))) ∧
    (body.length = 1 → exec (.readCapture port tag body) s = .next (s.answered port 0x28 tag
      (if 15 < fieldAt 0 1 body then .refusal .range
       else .okay (.capture s.trk.capture.ply s.trk.capture.enabled s.trk.capture.index
         ((s.trk.capture.slots.drop (fieldAt 0 1 body)).take 8))))) ∧
    (body.length = 3 → s.Takes port .armCapture →
      let out := exec (.armCapture port tag body) s
      let capture := fun (c : Capture) => Host.Outcome.next ((s.setTrk { s.trk with capture := c }).answered port 0x27 tag .plain)
      (1 < fieldAt 0 1 body → out = .next (s.answered port 0x27 tag (.refusal .range))) ∧
      (fieldAt 0 1 body = 0 → out = capture { s.trk.capture with
        ply := none
        enabled := false }) ∧
      (fieldAt 0 1 body = 1 →
        (fieldAt 1 1 body = 0 ∨ 6 < fieldAt 1 1 body ∨ 15 < fieldAt 2 1 body →
          out = .next (s.answered port 0x27 tag (.refusal .range))) ∧
        (∀ p : Ply, fieldAt 1 1 body = p.number → fieldAt 2 1 body ≤ 15 →
          if s.straps.installed p = false then out = .next (s.answered port 0x27 tag (.refusal .plies))
          else out = capture { s.trk.capture with
            ply := some p
            index := fieldAt 2 1 body
            enabled := true })))

/-! ## Requests: stop, monitors, tallies, notices -/

/-- Set Stop Mask, Read Stop and Clear Stop (R167, R168): a mask of three bytes with a bit above 16 is refused with RANGE. A
new mask re-forms the output; a cleared cause that is held latches again in the same change, and the reply gives the latched
set that results. STOP is raised at both ports where the output goes from deasserted to asserted, as a new mask may make it;
nothing else changes. That the three bytes of a mask are taken high byte first is the model's choice (log entry 10). -/
def Obligations.StopRequests : Prop :=
  ∀ (s : State) (port : Port) (tag : Byte) (body : List Byte), s.Ready port →
    let n := fieldAt 0 3 body
    let named := BitVec.ofNat 17 n
    (exec (.readStop port tag []) s = .next (s.answered port 0x31 tag
      (.okay (.stop s.stop.latched s.stop.mask s.stop.held s.stop.output)))) ∧
    (body.length = 3 → s.Takes port .setStopMask →
      exec (.setStopMask port tag body) s = .next (
        if 2 ^ 17 ≤ n then s.answered port 0x30 tag (.refusal .range)
        else
          let u := s.setStop { s.stop with
            mask := named
            output := decide (s.stop.latched &&& named ≠ 0) }
          (if s.stop.output = false ∧ u.stop.output = true then u.raiseBoth .stop else u).answered port 0x30 tag .plain)) ∧
    (body.length = 3 → s.Takes port .clearStop → s.stop.Consistent →
      exec (.clearStop port tag body) s = .next (
        if 2 ^ 17 ≤ n then s.answered port 0x32 tag (.refusal .range)
        else
          let left := (s.stop.latched &&& ~~~named) ||| (named &&& s.stop.held)
          (s.setStop { s.stop with
            latched := left
            output := decide (left &&& s.stop.mask ≠ 0) }).answered port 0x32 tag (.okay (.latched left))))

/-- Set Monitor and Clear Shift at a port that takes them, Read Monitor and Read Tallies at a ready port (R161, R162). A
setting outside Table 10-2 is refused with RANGE; else the settings are taken, the counter and the previous-row condition
are cleared and ALARMS is kept. Clear Shift zeroes the shift tallies and FORMS_DISCARDED, and nothing else changes. That a
yes-or-no byte or a selector byte above 1 is out of range, and the order of the blank causes' codes, are the model's
choices (log entries 10 and 11). -/
def Obligations.MonitorAndTallyRequests : Prop :=
  ∀ (s : State) (port : Port) (tag : Byte) (body : List Byte), s.Ready port →
    (bodyLengthOk .setMonitor body = true → s.Takes port .setMonitor →
      let code := fieldAt 1 1 body
      let off := if code = 2 ∨ code = 4 then 3 else 2
      let out := exec (.setMonitor port tag body) s
      let refused := Host.Outcome.next (s.answered port 0x33 tag (.refusal .range))
      (fieldAt 0 1 body = 0 ∨ 4 < fieldAt 0 1 body → out = refused) ∧
      (∀ m : Mon, fieldAt 0 1 body = m.index + 1 →
        (decodeMonitorSource code (fieldAt 2 1 body) = none → out = refused) ∧
        (∀ source, decodeMonitorSource code (fieldAt 2 1 body) = some source →
          if 15 < fieldAt off 3 body ∨ 1 < fieldAt (off + 3) 1 body ∨ 1 < fieldAt (off + 4) 1 body ∨
              1 < fieldAt (off + 5) 1 body ∨ fieldAt (off + 6) 3 body < 1 ∨ 65535 < fieldAt (off + 6) 3 body ∨
              1 < fieldAt (off + 9) 1 body then out = refused
          else out = .next ((s.setMonitors (s.monitors.set m
            { source := source
              threshold := fieldAt off 3 body
              invert := decide (fieldAt (off + 3) 1 body = 1)
              edge := decide (fieldAt (off + 4) 1 body = 1)
              consecutive := decide (fieldAt (off + 5) 1 body = 1)
              level := fieldAt (off + 6) 3 body
              stopEnable := decide (fieldAt (off + 9) 1 body = 1)
              counter := 0
              previous := false
              alarms := (s.monitors.get m).alarms })).answered port 0x33 tag .plain)))) ∧
    (body.length = 1 →
      (fieldAt 0 1 body = 0 ∨ 4 < fieldAt 0 1 body →
        exec (.readMonitor port tag body) s = .next (s.answered port 0x34 tag (.refusal .range))) ∧
      (∀ m : Mon, fieldAt 0 1 body = m.index + 1 →
        exec (.readMonitor port tag body) s = .next (s.answered port 0x34 tag (.okay (.monitor (s.monitors.get m)))))) ∧
    (body.length = 3 → exec (.readTallies port tag body) s = .next (s.answered port 0x35 tag
      (if 1 < fieldAt 0 1 body then .refusal .range
       else if fieldAt 0 1 body = 0 then .okay (.shift s.shift s.pipe.formsDiscarded)
       else match s.job (fieldAt 1 2 body) with
         | none => .refusal .noSuchJob
         | some j => .okay (.jobTallies j.state j.tallies)))) ∧
    (s.Takes port .clearShift → exec (.clearShift port tag []) s = .next
      (((s.setShift ⟨0, 0, 0, 0, 0, 0, 0, 0⟩).setPipe { s.pipe with formsDiscarded := 0 }).answered port 0x36 tag .plain))

/-- The row count of each source but NONE is that of Table 10-3. A monitor's sample of a row of count n (R164, R165), the
source being other than NONE: the row's condition, its addition, the counter, which an addition of 0 under CONSECUTIVE clears
and an alarm clears, the previous-row condition, and ALARMS. The counter stays below the alarm level. -/
def Obligations.MonitorsAccumulateAndAlarm : Prop :=
  (∀ (r : Row) (c : VoidCause) (b : BlankCause),
    let blank := r.lanes.countP (fun l => decide (l.number = none))
    MonitorSource.rowCount .lanesVoid r = r.lanes.countP (fun l => decide (l.number ≠ none ∧ l.causes ≠ 0)) ∧
    MonitorSource.rowCount (.voidCause c) r =
      r.lanes.countP (fun l => decide (l.number ≠ none ∧ CauseSet.has l.causes c = true)) ∧
    MonitorSource.rowCount .lanesBlank r = blank ∧
    MonitorSource.rowCount (.blankCause b) r = (if r.blank = some b then blank else 0) ∧
    MonitorSource.rowCount .misreads r = r.misreads ∧
    MonitorSource.rowCount .flywheels r = r.plies.countP (fun z => (match z.assign with | .flywheel _ => true | _ => false)) ∧
    MonitorSource.rowCount .headFaults r = r.headFaults) ∧
  ∀ (m : Monitor) (n : Nat), m.source ≠ .none → m.Below →
    let met : Bool := if m.invert then decide (n < m.threshold) else decide (m.threshold ≤ n)
    let addition := if m.threshold = 0 then n
      else if met = true ∧ (m.edge = true → m.previous = false) then 1 else 0
    let counter := if m.consecutive = true ∧ addition = 0 then 0 else m.counter + addition
    (m.alarmed n = true ↔ m.level ≤ counter) ∧ (m.sampled n).Below ∧
    m.sampled n = { m with
      counter := if m.level ≤ counter then 0 else counter
      previous := decide (m.threshold ≠ 0) && met
      alarms := if m.level ≤ counter then satAdd m.alarms 1 else m.alarms }

/-- Set Notify and Acknowledge Attention at a port that takes them, and Line Summary at a ready port (R178, R179). The classes
acknowledged leave the port's pending set, and its unsent notice is withdrawn where the set is then empty. The summary is
FULL with no slot EMPTY, else ATTENTION with a class pending, whose set it gives, else READY. Nothing else changes. That a
presence byte above 1 is out of range, and that the two bytes of the classes' mask are taken high byte first, are the model's
choices (log entry 10). -/
def Obligations.NotifyAcknowledgeAndSummary : Prop :=
  ∀ (s : State) (port : Port) (tag : Byte) (body : List Byte), s.Ready port →
    let x := s.port port
    (body.length = 8 → s.Takes port .setNotify →
      let level := optField 0 3 body
      let low := optField 4 3 body
      exec (.setNotify port tag body) s = .next (
        if 1 < fieldAt 0 1 body ∨ 1 < fieldAt 4 1 body ∨ (∃ n ∈ level, n < 1 ∨ 1024 < n) ∨ (∃ n ∈ low, 511 < n) then
          s.answered port 0x40 tag (.refusal .range)
        else ((s.setAudit { s.audit with notifyLevel := level.getD s.audit.notifyLevel }).setGen
          { s.gen with lowMark := low.getD s.gen.lowMark }).answered port 0x40 tag .plain)) ∧
    (body.length = 2 → s.Takes port .acknowledgeAttention →
      let left := x.pending &&& ~~~(BitVec.ofNat 10 (fieldAt 0 2 body))
      exec (.acknowledgeAttention port tag body) s = .next (
        if 2 ^ 10 ≤ fieldAt 0 2 body then s.answered port 0x41 tag (.refusal .range)
        else (s.setPort port { x with
          pending := left
          unsent := x.unsent && decide (left ≠ 0) }).answered port 0x41 tag (.okay (.pending left)))) ∧
    (exec (.lineSummary port tag []) s = .next (s.answered port 0x42 tag (.okay (.summary
      { summary := if 4 ≤ s.jobs.length then .full else if x.pending ≠ 0 then .attention else .ready
        running := (match s.running with | some j => j.id | none => 0)
        tracker := (match s.trk.epoch with
          | none => .free
          | some e => if e.o0 = none then .originPending else .tracking)
        stopOutput := s.stop.output
        pending := if s.jobs.length < 4 ∧ x.pending ≠ 0 then some x.pending else none }))))

/-! ## Warm reset and power -/

/-- A warm reset, from an assertion of the RESET line or a Reset message (R155, R156, R177; R20, R40, R93, R110, R142). In NORMAL
and SAVED it is begun (steps 1, 2): RESETTING, and the pipeline emptied with RESET (`State.Emptied`), every lane retired with its
record, make-up step and counts, rows oldest first and the lanes of a row in order (the model's choice, log entry 21), MAKEUP
raised for a number not queued, and the drivers' orders abandoned (R110, where R155 lists it in step 4: log entry 16). A RUNNING
job still runs then, and the Tracker keeps its epoch. At step 3 RUNNING and DRAINING jobs end RESET without their recovery record,
LOADED jobs end CANCELLED (`State.resetEnded`; drain reasons as they stood, log entry 26), the feed is empty, the Generator's
other values as they stood (the model's choice, log entry 29), and the Tracker
FREE (`State.Freed`), A, H, V, X and the reverse limit kept. At step 4 the schedule is empty, marker outputs deasserted, monitor
counters 0, no stop cause latched that is not held, no class pending; void list, make-up queue and tallies are kept. How many of
steps 3 and 4 fall with the beginning is free (log entry 16). In SAVING a reset is due after the save, one for however many are asked for
(log entry 25); in RECOVERING and RESETTING nothing changes. RESET_COMPLETE, in RESETTING with no append in flight, takes the
steps still to come and ends the reset: NORMAL, RESET_DONE, VOID_READY at the notify level or above, MAKEUP where a record of the
reset was flagged NOT_QUEUED, and SYNC to each driver (in the order 1, 2, 3: log entry 22). Every request that was held is then
answered in its port's order (R176): one held alone as the same request arriving after the reset would be. In any other case it
does nothing (log entry 7). -/
def Obligations.WarmResetBeginsAndEnds : Prop :=
  (∀ s : State, exec .resetLine s = .next s.requestReset.startSending) ∧
  (∀ s : State, s.audit.condition = .normal ∨ s.audit.condition = .saved →
    ∃ n, n ≤ 2 ∧ s.requestReset = s.beginReset.advanced n) ∧
  (∀ s : State, s.audit.condition = .normal ∨ s.audit.condition = .saved →
    let t := s.beginReset
    t.audit.condition = .resetting ∧ t.resetLeft = 2 ∧ t.audit.resetDue = false ∧
      t.audit.resetNotQueued = (s.emptied .reset).any VoidRecord.notQueued ∧
      s.Emptied t .reset false ∧ (s.stop.Consistent → t.stop.output = s.stop.output ∧ t = s.portsEmptied t .reset) ∧
      (∀ id, (t.job id).map Job.state = (s.job id).map Job.state) ∧
      (if s.running = none ∧ s.trk.epoch ≠ none then s.Freed t
       else t.trk.epoch = s.trk.epoch ∧ t.marks = s.marks ∧ t.zones = s.zones)) ∧
  (∀ s : State, s.audit.condition = .normal ∨ s.audit.condition = .saved → JobsOk s.jobs →
    let t := s.beginReset
    let v := resetSteps 1 t
    v.resetLeft = 1 ∧ v.running = none ∧ v.gen.feed = [] ∧ (∀ j ∈ v.jobs, j.state = .ended) ∧
    (s.trk.epoch ≠ none → s.Freed v) ∧ v.trk.epoch = none ∧
    v.audit = { t.audit with
      resetStage := .ended
      records := t.audit.records.filter (fun z => !s.jobs.any (fun j =>
        decide (j.id = z.job ∧ (j.state = .running ∨ j.state = .draining)))) } ∧
    v.jobs = s.jobs.map (s.resetEnded v) ∧ v.shift = t.shift ∧ (s.stop.Consistent → v.line = t.line ∧ v.panel = t.panel) ∧
    v.drivers = t.drivers ∧ v.monitors = s.monitors ∧ v.pipe.markers = s.pipe.markers ∧ v.trk.capture = s.trk.capture) ∧
  (∀ (s : State), s.audit.condition = .normal ∨ s.audit.condition = .saved → JobsOk s.jobs →
    let t := resetSteps 2 s.beginReset
    t.audit.condition = .resetting ∧ t.resetLeft = 0 ∧ s.Freed t ∧
      t.audit = { s.auditEmptied .reset with
        condition := .resetting
        resetDue := false
        resetNotQueued := (s.emptied .reset).any VoidRecord.notQueued
        resetStage := .cleared
        records := (s.auditEmptied .reset).records.filter (fun z => !s.jobs.any (fun j =>
          decide (j.id = z.job ∧ (j.state = .running ∨ j.state = .draining)))) } ∧
      t.jobs = s.jobs.map (s.resetEnded t) ∧ t.shift = s.shiftEmptied ∧
      t.pipe.rows = [] ∧ t.pipe.nextIndex = none ∧ t.pipe.reserve = false ∧ t.pipe.markers = PerLane.all false ∧
      t.pipe.formsDiscarded = s.pipe.formsDiscarded ∧
      t.trk = { s.trk with
        epoch := none
        schedule := []
        capture := { ply := none, enabled := false, index := 0, slots := List.replicate 16 none } } ∧
      t.zones = PerPly.all [] ∧ t.requests = [] ∧ t.gen = { s.gen with feed := [] } ∧
      (∀ p, t.readers.get p = { s.readers.get p with expectations := [] }) ∧
      (∀ d, t.drivers.get d = { s.drivers.get d with
        orders := []
        counts := { (s.drivers.get d).counts with
          abandoned := satAdd (s.drivers.get d).counts.abandoned (s.drivers.get d).orders.length } }) ∧
      (∀ i, t.monitors.get i = { s.monitors.get i with
        counter := 0
        previous := false }) ∧
      t.stop.latched = t.stop.held ∧ t.stop.mask = s.stop.mask ∧ (∀ p, StopSet.has t.stop.held (.markLost p) = false) ∧
      (∀ d, StopSet.has t.stop.held (.driverDown d) = StopSet.has s.stop.held (.driverDown d)) ∧
      (∀ q, t.port q = { s.port q with
        pending := 0
        unsent := false }) ∧
      (∀ id j, s.job id = some j → ∃ j', t.job id = some j' ∧ j'.state = .ended ∧ j'.owner = j.owner ∧
        (match j.state with
         | .ended => j'.endRec = j.endRec
         | .loaded => ∃ e, j'.endRec = some e ∧ e.reason = .cancelled
         | _ => (∃ e, j'.endRec = some e ∧ e.reason = .reset) ∧ ∀ r ∈ t.audit.records, r.job ≠ id)) ∧
      t.plies = s.plies ∧ t.straps = s.straps ∧ t.headLink = s.headLink ∧ t.powerFail = s.powerFail) ∧
  (∀ s : State, s.audit.condition = .saving → s.requestReset = s.setAudit { s.audit with resetDue := true }) ∧
  (∀ s : State, s.audit.condition = .recovering ∨ s.audit.condition = .resetting → s.requestReset = s) ∧
  (∀ (s : State) (port : Port) (tag : Byte), s.Ready port → s.permits port .reset = true → s.audit.condition ≠ .resetting →
    let u := (s.setPort port { s.port port with
      receiver := .hunting
      held := [⟨0x4F, tag, []⟩] }).requestReset
    exec (.reset port tag []) s = .next (u.setPort port { u.port port with
      held := []
      replies := (s.port port).replies ++ [{ kind := 0x4F, tag := tag, reply := .plain }] }).startSending) ∧
  (∀ s : State, s.audit.condition = .resetting → s.audit.inFlight = [] →
    exec .resetComplete s = exec .resetComplete (resetSteps s.resetLeft s)) ∧
  (∀ s : State, s.audit.condition = .resetting → s.audit.inFlight = [] → s.resetLeft = 0 →
    s.line.held = [] → s.panel.held = [] →
    ∃ t, exec .resetComplete s = .next t ∧
      t.audit = { s.audit with
        condition := .normal
        resetNotQueued := false } ∧
      t.headLink = s.headLink ++ [.sync .d1 s.trk.a s.trk.h, .sync .d2 s.trk.a s.trk.h, .sync .d3 s.trk.a s.trk.h] ∧
      (∀ p, s.portAbsent p = false →
        AttentionSet.has (t.port p).pending .resetDone = true ∧
        (AttentionSet.has (t.port p).pending .voidReady ↔
          AttentionSet.has (s.port p).pending .voidReady ∨ s.audit.notifyLevel ≤ s.audit.voids.length) ∧
        (AttentionSet.has (t.port p).pending .makeUp ↔
          AttentionSet.has (s.port p).pending .makeUp ∨ s.audit.resetNotQueued)) ∧
      t = (((s.setAudit t.audit).setHeadLink t.headLink).setLine t.line).setPanel t.panel) ∧
  (∀ s : State, ¬(s.audit.condition = .resetting ∧ s.audit.inFlight = []) →
    exec .resetComplete s = .next s.startSending) ∧
  (∀ s : State, s.audit.condition = .resetting → s.audit.inFlight = [] →
    (∀ p, (s.port p).held.length ≤ 2 ∧ (s.port p).replies.length + (s.port p).held.length ≤ 4 ∧
      ∀ q ∈ (s.port p).held, q.kind ≠ 0x4F) →
    ∃ t, exec .resetComplete s = .next t ∧ t.audit.condition = .normal ∧
      ∀ p, (t.port p).held = [] ∧ (t.port p).replies.map (fun f => (f.kind, f.tag)) =
        (s.port p).replies.map (fun f => (f.kind, f.tag)) ++ (s.port p).held.map (fun q => (q.kind, q.tag))) ∧
  (∀ (s u : State) (port : Port) (q : Request), s.audit.condition = .resetting → s.audit.inFlight = [] →
    s.HoldsAlone port q → exec .resetComplete (s.setPort port { s.port port with held := [] }) = .next u →
    exec .resetComplete s = request port q.kind q.tag q.body u)

/-- A power-fail save (R94, R111, R156, R157): the warning asserted in NORMAL or RESETTING makes the condition SAVING and empties the
pipeline with POWER (`State.SaveBegun`, `State.Emptied`): every lane is retired with its record, make-up step and counts, rows
oldest first and the lanes of a row in order (the model's choice, log entry 21); MAKEUP is raised for a number not queued; the
drivers' orders are abandoned, the reserve condition is kept, and the Tracker returns to FREE where no job is RUNNING; the steps
a warm reset still had to take are not taken, and the jobs keep their states; that this is one step is log entry 16. In the other conditions, and where it is released, its level alone is noted; that an assertion with the level already
asserted is taken again is log entry 18. Every request that was held is then answered in its port's order, NOT_READY where it
is neither read-only nor Reset (R176), and one held alone as the same request arriving in SAVING would be. SAVE_COMPLETE, in
SAVING with no row and no append left, makes OPEN recovery records CLEAN and the condition SAVED, and begins the reset that is
due as the RESET line would in that state (R156); with no such state it does nothing (log entry 7). -/
def Obligations.PowerFailSaveBeginsAndEnds : Prop :=
  (∀ s : State, s.audit.condition = .normal ∨ s.audit.condition = .resetting → s.line.held = [] → s.panel.held = [] →
    ∃ t, exec (.powerFailWarning true) s = .next t ∧ (s.setPowerFail true).SaveBegun t ∧
      (∀ id, (t.job id).map Job.state = (s.job id).map Job.state) ∧
      (if s.running = none ∧ s.trk.epoch ≠ none then s.Freed t
       else t.trk.epoch = s.trk.epoch ∧ t.marks = s.marks ∧ t.zones = s.zones)) ∧
  (∀ s : State, s.audit.condition = .recovering ∨ s.audit.condition = .saving ∨ s.audit.condition = .saved →
    s.line.held = [] → s.panel.held = [] →
    exec (.powerFailWarning true) s = .next (s.setPowerFail true).startSending) ∧
  (∀ s : State, exec (.powerFailWarning false) s = .next (s.setPowerFail false).startSending) ∧
  (∀ s : State, s.audit.condition = .saving → s.pipe.rows = [] → s.audit.inFlight = [] → s.audit.resetDue = false →
    exec .saveComplete s = .next (s.setAudit { s.audit with
      condition := .saved
      records := s.audit.records.map (fun r => if r.state = .opened then { r with state := .clean } else r) }).startSending) ∧
  (∀ s : State, s.audit.condition = .saving → s.pipe.rows = [] → s.audit.inFlight = [] → s.audit.resetDue = true →
    exec .saveComplete s = exec .resetLine (s.setAudit { s.audit with
      condition := .saved
      records := s.audit.records.map (fun r => if r.state = .opened then { r with state := .clean } else r) })) ∧
  (∀ s : State, ¬(s.audit.condition = .saving ∧ s.pipe.rows = [] ∧ s.audit.inFlight = []) →
    exec .saveComplete s = .next s.startSending) ∧
  (∀ s : State, s.audit.condition = .normal ∨ s.audit.condition = .resetting →
    (∀ p, (s.port p).held.length ≤ 2 ∧ (s.port p).replies.length + (s.port p).held.length ≤ 4) →
    ∃ t, exec (.powerFailWarning true) s = .next t ∧ t.audit.condition = .saving ∧
      ∀ p, (t.port p).held = [] ∧ ∃ made, (t.port p).replies = (s.port p).replies ++ made ∧
        made.map (fun f => (f.kind, f.tag)) = (s.port p).held.map (fun q => (q.kind, q.tag)) ∧
        ∀ (i : Nat) (q : Request) (f : ReplyFrame) (k : RequestKind), (s.port p).held[i]? = some q → made[i]? = some f →
          requestKind q.kind = some k → bodyLengthOk k q.body = true → s.permits p k = true → k.readOnly = false →
          k ≠ .reset → f.reply = ⟨.notReady, .none⟩) ∧
  (∀ (s u : State) (port : Port) (q : Request), s.audit.condition = .normal ∨ s.audit.condition = .resetting →
    s.HoldsAlone port q → exec (.powerFailWarning true) (s.setPort port { s.port port with held := [] }) = .next u →
    exec (.powerFailWarning true) s = request port q.kind q.tag q.body u)

/-! ## Invariants -/

/-- No step takes the Job Table past four records, gives two records one id, or leaves two jobs RUNNING (R124, R125); takes
the make-up queue past 256 entries or lets two entries carry one job and number (R150, R151); or takes the store past four
recovery records (R153). -/
def Obligations.JobsQueueAndRecordsStayInOrder : Prop :=
  KeptByStep (fun s => JobsOk s.jobs) ∧ KeptByStep (fun s => QueueOk s.audit.queue) ∧
  KeptByStep (fun s => s.audit.records.length ≤ 4)

/-- No step leaves the line-stop output other than asserted just while a latched cause is enabled, or a held cause unlatched
(R166, R167); a monitor's counter at its alarm level or above (R165); or a port with more than two held requests or four
formed replies, or with an unsent notice and an empty pending set (R174, R178). That the four replies count the one being sent
is log entry 5. -/
def Obligations.StopMonitorsAndPortsStayInOrder : Prop :=
  KeptByStep (fun s => s.stop.Consistent) ∧ KeptByStep (fun s => MonitorsBelow s.monitors) ∧
  KeptByStep (fun s => ∀ p, (s.port p).Bounded)

/-- The reset state meets every invariant stated above. -/
def Obligations.ResetMeetsTheInvariants : Prop :=
  let s := State.reset
  s.reserved ≤ 1024 ∧ FreeIsEmpty s ∧ (∀ d, (s.drivers.get d).OrdersOk) ∧ ZonesBounded s.zones ∧
  TrendsBounded s.marks s.plies ∧ JobsOk s.jobs ∧ QueueOk s.audit.queue ∧ s.audit.records.length ≤ 4 ∧
  s.stop.Consistent ∧ MonitorsBelow s.monitors ∧ ∀ p, (s.port p).Bounded

end Statements
end

