-- ==== Sys2Proof/Laws/State.lean ====
section
/-! SUPPORT. One lemma per field per update of State, each true by rfl. -/

namespace Sys2Proof.Machine

variable (s : State)

@[simp] theorem State.setStraps_straps (x : Straps) : (s.setStraps x).straps = x := rfl
@[simp] theorem State.setStraps_trk (x : Straps) : (s.setStraps x).trk = s.trk := rfl
@[simp] theorem State.setStraps_plies (x : Straps) : (s.setStraps x).plies = s.plies := rfl
@[simp] theorem State.setStraps_marks (x : Straps) : (s.setStraps x).marks = s.marks := rfl
@[simp] theorem State.setStraps_zones (x : Straps) : (s.setStraps x).zones = s.zones := rfl
@[simp] theorem State.setStraps_gen (x : Straps) : (s.setStraps x).gen = s.gen := rfl
@[simp] theorem State.setStraps_pipe (x : Straps) : (s.setStraps x).pipe = s.pipe := rfl
@[simp] theorem State.setStraps_drivers (x : Straps) : (s.setStraps x).drivers = s.drivers := rfl
@[simp] theorem State.setStraps_requests (x : Straps) : (s.setStraps x).requests = s.requests := rfl
@[simp] theorem State.setStraps_readers (x : Straps) : (s.setStraps x).readers = s.readers := rfl
@[simp] theorem State.setStraps_jobs (x : Straps) : (s.setStraps x).jobs = s.jobs := rfl
@[simp] theorem State.setStraps_audit (x : Straps) : (s.setStraps x).audit = s.audit := rfl
@[simp] theorem State.setStraps_shift (x : Straps) : (s.setStraps x).shift = s.shift := rfl
@[simp] theorem State.setStraps_monitors (x : Straps) : (s.setStraps x).monitors = s.monitors := rfl
@[simp] theorem State.setStraps_stop (x : Straps) : (s.setStraps x).stop = s.stop := rfl
@[simp] theorem State.setStraps_line (x : Straps) : (s.setStraps x).line = s.line := rfl
@[simp] theorem State.setStraps_panel (x : Straps) : (s.setStraps x).panel = s.panel := rfl
@[simp] theorem State.setStraps_headLink (x : Straps) : (s.setStraps x).headLink = s.headLink := rfl
@[simp] theorem State.setStraps_powerFail (x : Straps) : (s.setStraps x).powerFail = s.powerFail := rfl
@[simp] theorem State.setStraps_freeIndex (x : Straps) : (s.setStraps x).freeIndex = s.freeIndex := rfl
@[simp] theorem State.setStraps_pending (x : Straps) : (s.setStraps x).pending = s.pending := rfl

@[simp] theorem State.setTrk_straps (x : Tracker) : (s.setTrk x).straps = s.straps := rfl
@[simp] theorem State.setTrk_trk (x : Tracker) : (s.setTrk x).trk = x := rfl
@[simp] theorem State.setTrk_plies (x : Tracker) : (s.setTrk x).plies = s.plies := rfl
@[simp] theorem State.setTrk_marks (x : Tracker) : (s.setTrk x).marks = s.marks := rfl
@[simp] theorem State.setTrk_zones (x : Tracker) : (s.setTrk x).zones = s.zones := rfl
@[simp] theorem State.setTrk_gen (x : Tracker) : (s.setTrk x).gen = s.gen := rfl
@[simp] theorem State.setTrk_pipe (x : Tracker) : (s.setTrk x).pipe = s.pipe := rfl
@[simp] theorem State.setTrk_drivers (x : Tracker) : (s.setTrk x).drivers = s.drivers := rfl
@[simp] theorem State.setTrk_requests (x : Tracker) : (s.setTrk x).requests = s.requests := rfl
@[simp] theorem State.setTrk_readers (x : Tracker) : (s.setTrk x).readers = s.readers := rfl
@[simp] theorem State.setTrk_jobs (x : Tracker) : (s.setTrk x).jobs = s.jobs := rfl
@[simp] theorem State.setTrk_audit (x : Tracker) : (s.setTrk x).audit = s.audit := rfl
@[simp] theorem State.setTrk_shift (x : Tracker) : (s.setTrk x).shift = s.shift := rfl
@[simp] theorem State.setTrk_monitors (x : Tracker) : (s.setTrk x).monitors = s.monitors := rfl
@[simp] theorem State.setTrk_stop (x : Tracker) : (s.setTrk x).stop = s.stop := rfl
@[simp] theorem State.setTrk_line (x : Tracker) : (s.setTrk x).line = s.line := rfl
@[simp] theorem State.setTrk_panel (x : Tracker) : (s.setTrk x).panel = s.panel := rfl
@[simp] theorem State.setTrk_headLink (x : Tracker) : (s.setTrk x).headLink = s.headLink := rfl
@[simp] theorem State.setTrk_powerFail (x : Tracker) : (s.setTrk x).powerFail = s.powerFail := rfl
@[simp] theorem State.setTrk_freeIndex (x : Tracker) : (s.setTrk x).freeIndex = s.freeIndex := rfl
@[simp] theorem State.setTrk_pending (x : Tracker) : (s.setTrk x).pending = s.pending := rfl

@[simp] theorem State.setPlies_straps (x : PerPly PlySettings) : (s.setPlies x).straps = s.straps := rfl
@[simp] theorem State.setPlies_trk (x : PerPly PlySettings) : (s.setPlies x).trk = s.trk := rfl
@[simp] theorem State.setPlies_plies (x : PerPly PlySettings) : (s.setPlies x).plies = x := rfl
@[simp] theorem State.setPlies_marks (x : PerPly PlySettings) : (s.setPlies x).marks = s.marks := rfl
@[simp] theorem State.setPlies_zones (x : PerPly PlySettings) : (s.setPlies x).zones = s.zones := rfl
@[simp] theorem State.setPlies_gen (x : PerPly PlySettings) : (s.setPlies x).gen = s.gen := rfl
@[simp] theorem State.setPlies_pipe (x : PerPly PlySettings) : (s.setPlies x).pipe = s.pipe := rfl
@[simp] theorem State.setPlies_drivers (x : PerPly PlySettings) : (s.setPlies x).drivers = s.drivers := rfl
@[simp] theorem State.setPlies_requests (x : PerPly PlySettings) : (s.setPlies x).requests = s.requests := rfl
@[simp] theorem State.setPlies_readers (x : PerPly PlySettings) : (s.setPlies x).readers = s.readers := rfl
@[simp] theorem State.setPlies_jobs (x : PerPly PlySettings) : (s.setPlies x).jobs = s.jobs := rfl
@[simp] theorem State.setPlies_audit (x : PerPly PlySettings) : (s.setPlies x).audit = s.audit := rfl
@[simp] theorem State.setPlies_shift (x : PerPly PlySettings) : (s.setPlies x).shift = s.shift := rfl
@[simp] theorem State.setPlies_monitors (x : PerPly PlySettings) : (s.setPlies x).monitors = s.monitors := rfl
@[simp] theorem State.setPlies_stop (x : PerPly PlySettings) : (s.setPlies x).stop = s.stop := rfl
@[simp] theorem State.setPlies_line (x : PerPly PlySettings) : (s.setPlies x).line = s.line := rfl
@[simp] theorem State.setPlies_panel (x : PerPly PlySettings) : (s.setPlies x).panel = s.panel := rfl
@[simp] theorem State.setPlies_headLink (x : PerPly PlySettings) : (s.setPlies x).headLink = s.headLink := rfl
@[simp] theorem State.setPlies_powerFail (x : PerPly PlySettings) : (s.setPlies x).powerFail = s.powerFail := rfl
@[simp] theorem State.setPlies_freeIndex (x : PerPly PlySettings) : (s.setPlies x).freeIndex = s.freeIndex := rfl
@[simp] theorem State.setPlies_pending (x : PerPly PlySettings) : (s.setPlies x).pending = s.pending := rfl

@[simp] theorem State.setMarks_straps (x : PerPly MarkPly) : (s.setMarks x).straps = s.straps := rfl
@[simp] theorem State.setMarks_trk (x : PerPly MarkPly) : (s.setMarks x).trk = s.trk := rfl
@[simp] theorem State.setMarks_plies (x : PerPly MarkPly) : (s.setMarks x).plies = s.plies := rfl
@[simp] theorem State.setMarks_marks (x : PerPly MarkPly) : (s.setMarks x).marks = x := rfl
@[simp] theorem State.setMarks_zones (x : PerPly MarkPly) : (s.setMarks x).zones = s.zones := rfl
@[simp] theorem State.setMarks_gen (x : PerPly MarkPly) : (s.setMarks x).gen = s.gen := rfl
@[simp] theorem State.setMarks_pipe (x : PerPly MarkPly) : (s.setMarks x).pipe = s.pipe := rfl
@[simp] theorem State.setMarks_drivers (x : PerPly MarkPly) : (s.setMarks x).drivers = s.drivers := rfl
@[simp] theorem State.setMarks_requests (x : PerPly MarkPly) : (s.setMarks x).requests = s.requests := rfl
@[simp] theorem State.setMarks_readers (x : PerPly MarkPly) : (s.setMarks x).readers = s.readers := rfl
@[simp] theorem State.setMarks_jobs (x : PerPly MarkPly) : (s.setMarks x).jobs = s.jobs := rfl
@[simp] theorem State.setMarks_audit (x : PerPly MarkPly) : (s.setMarks x).audit = s.audit := rfl
@[simp] theorem State.setMarks_shift (x : PerPly MarkPly) : (s.setMarks x).shift = s.shift := rfl
@[simp] theorem State.setMarks_monitors (x : PerPly MarkPly) : (s.setMarks x).monitors = s.monitors := rfl
@[simp] theorem State.setMarks_stop (x : PerPly MarkPly) : (s.setMarks x).stop = s.stop := rfl
@[simp] theorem State.setMarks_line (x : PerPly MarkPly) : (s.setMarks x).line = s.line := rfl
@[simp] theorem State.setMarks_panel (x : PerPly MarkPly) : (s.setMarks x).panel = s.panel := rfl
@[simp] theorem State.setMarks_headLink (x : PerPly MarkPly) : (s.setMarks x).headLink = s.headLink := rfl
@[simp] theorem State.setMarks_powerFail (x : PerPly MarkPly) : (s.setMarks x).powerFail = s.powerFail := rfl
@[simp] theorem State.setMarks_freeIndex (x : PerPly MarkPly) : (s.setMarks x).freeIndex = s.freeIndex := rfl
@[simp] theorem State.setMarks_pending (x : PerPly MarkPly) : (s.setMarks x).pending = s.pending := rfl

@[simp] theorem State.setZones_straps (x : PerPly (List Zone)) : (s.setZones x).straps = s.straps := rfl
@[simp] theorem State.setZones_trk (x : PerPly (List Zone)) : (s.setZones x).trk = s.trk := rfl
@[simp] theorem State.setZones_plies (x : PerPly (List Zone)) : (s.setZones x).plies = s.plies := rfl
@[simp] theorem State.setZones_marks (x : PerPly (List Zone)) : (s.setZones x).marks = s.marks := rfl
@[simp] theorem State.setZones_zones (x : PerPly (List Zone)) : (s.setZones x).zones = x := rfl
@[simp] theorem State.setZones_gen (x : PerPly (List Zone)) : (s.setZones x).gen = s.gen := rfl
@[simp] theorem State.setZones_pipe (x : PerPly (List Zone)) : (s.setZones x).pipe = s.pipe := rfl
@[simp] theorem State.setZones_drivers (x : PerPly (List Zone)) : (s.setZones x).drivers = s.drivers := rfl
@[simp] theorem State.setZones_requests (x : PerPly (List Zone)) : (s.setZones x).requests = s.requests := rfl
@[simp] theorem State.setZones_readers (x : PerPly (List Zone)) : (s.setZones x).readers = s.readers := rfl
@[simp] theorem State.setZones_jobs (x : PerPly (List Zone)) : (s.setZones x).jobs = s.jobs := rfl
@[simp] theorem State.setZones_audit (x : PerPly (List Zone)) : (s.setZones x).audit = s.audit := rfl
@[simp] theorem State.setZones_shift (x : PerPly (List Zone)) : (s.setZones x).shift = s.shift := rfl
@[simp] theorem State.setZones_monitors (x : PerPly (List Zone)) : (s.setZones x).monitors = s.monitors := rfl
@[simp] theorem State.setZones_stop (x : PerPly (List Zone)) : (s.setZones x).stop = s.stop := rfl
@[simp] theorem State.setZones_line (x : PerPly (List Zone)) : (s.setZones x).line = s.line := rfl
@[simp] theorem State.setZones_panel (x : PerPly (List Zone)) : (s.setZones x).panel = s.panel := rfl
@[simp] theorem State.setZones_headLink (x : PerPly (List Zone)) : (s.setZones x).headLink = s.headLink := rfl
@[simp] theorem State.setZones_powerFail (x : PerPly (List Zone)) : (s.setZones x).powerFail = s.powerFail := rfl
@[simp] theorem State.setZones_freeIndex (x : PerPly (List Zone)) : (s.setZones x).freeIndex = s.freeIndex := rfl
@[simp] theorem State.setZones_pending (x : PerPly (List Zone)) : (s.setZones x).pending = s.pending := rfl

@[simp] theorem State.setGen_straps (x : Generator) : (s.setGen x).straps = s.straps := rfl
@[simp] theorem State.setGen_trk (x : Generator) : (s.setGen x).trk = s.trk := rfl
@[simp] theorem State.setGen_plies (x : Generator) : (s.setGen x).plies = s.plies := rfl
@[simp] theorem State.setGen_marks (x : Generator) : (s.setGen x).marks = s.marks := rfl
@[simp] theorem State.setGen_zones (x : Generator) : (s.setGen x).zones = s.zones := rfl
@[simp] theorem State.setGen_gen (x : Generator) : (s.setGen x).gen = x := rfl
@[simp] theorem State.setGen_pipe (x : Generator) : (s.setGen x).pipe = s.pipe := rfl
@[simp] theorem State.setGen_drivers (x : Generator) : (s.setGen x).drivers = s.drivers := rfl
@[simp] theorem State.setGen_requests (x : Generator) : (s.setGen x).requests = s.requests := rfl
@[simp] theorem State.setGen_readers (x : Generator) : (s.setGen x).readers = s.readers := rfl
@[simp] theorem State.setGen_jobs (x : Generator) : (s.setGen x).jobs = s.jobs := rfl
@[simp] theorem State.setGen_audit (x : Generator) : (s.setGen x).audit = s.audit := rfl
@[simp] theorem State.setGen_shift (x : Generator) : (s.setGen x).shift = s.shift := rfl
@[simp] theorem State.setGen_monitors (x : Generator) : (s.setGen x).monitors = s.monitors := rfl
@[simp] theorem State.setGen_stop (x : Generator) : (s.setGen x).stop = s.stop := rfl
@[simp] theorem State.setGen_line (x : Generator) : (s.setGen x).line = s.line := rfl
@[simp] theorem State.setGen_panel (x : Generator) : (s.setGen x).panel = s.panel := rfl
@[simp] theorem State.setGen_headLink (x : Generator) : (s.setGen x).headLink = s.headLink := rfl
@[simp] theorem State.setGen_powerFail (x : Generator) : (s.setGen x).powerFail = s.powerFail := rfl
@[simp] theorem State.setGen_freeIndex (x : Generator) : (s.setGen x).freeIndex = s.freeIndex := rfl
@[simp] theorem State.setGen_pending (x : Generator) : (s.setGen x).pending = s.pending := rfl

@[simp] theorem State.setPipe_straps (x : Pipeline) : (s.setPipe x).straps = s.straps := rfl
@[simp] theorem State.setPipe_trk (x : Pipeline) : (s.setPipe x).trk = s.trk := rfl
@[simp] theorem State.setPipe_plies (x : Pipeline) : (s.setPipe x).plies = s.plies := rfl
@[simp] theorem State.setPipe_marks (x : Pipeline) : (s.setPipe x).marks = s.marks := rfl
@[simp] theorem State.setPipe_zones (x : Pipeline) : (s.setPipe x).zones = s.zones := rfl
@[simp] theorem State.setPipe_gen (x : Pipeline) : (s.setPipe x).gen = s.gen := rfl
@[simp] theorem State.setPipe_pipe (x : Pipeline) : (s.setPipe x).pipe = x := rfl
@[simp] theorem State.setPipe_drivers (x : Pipeline) : (s.setPipe x).drivers = s.drivers := rfl
@[simp] theorem State.setPipe_requests (x : Pipeline) : (s.setPipe x).requests = s.requests := rfl
@[simp] theorem State.setPipe_readers (x : Pipeline) : (s.setPipe x).readers = s.readers := rfl
@[simp] theorem State.setPipe_jobs (x : Pipeline) : (s.setPipe x).jobs = s.jobs := rfl
@[simp] theorem State.setPipe_audit (x : Pipeline) : (s.setPipe x).audit = s.audit := rfl
@[simp] theorem State.setPipe_shift (x : Pipeline) : (s.setPipe x).shift = s.shift := rfl
@[simp] theorem State.setPipe_monitors (x : Pipeline) : (s.setPipe x).monitors = s.monitors := rfl
@[simp] theorem State.setPipe_stop (x : Pipeline) : (s.setPipe x).stop = s.stop := rfl
@[simp] theorem State.setPipe_line (x : Pipeline) : (s.setPipe x).line = s.line := rfl
@[simp] theorem State.setPipe_panel (x : Pipeline) : (s.setPipe x).panel = s.panel := rfl
@[simp] theorem State.setPipe_headLink (x : Pipeline) : (s.setPipe x).headLink = s.headLink := rfl
@[simp] theorem State.setPipe_powerFail (x : Pipeline) : (s.setPipe x).powerFail = s.powerFail := rfl
@[simp] theorem State.setPipe_freeIndex (x : Pipeline) : (s.setPipe x).freeIndex = s.freeIndex := rfl
@[simp] theorem State.setPipe_pending (x : Pipeline) : (s.setPipe x).pending = s.pending := rfl

@[simp] theorem State.setDrivers_straps (x : PerDriver DriverRec) : (s.setDrivers x).straps = s.straps := rfl
@[simp] theorem State.setDrivers_trk (x : PerDriver DriverRec) : (s.setDrivers x).trk = s.trk := rfl
@[simp] theorem State.setDrivers_plies (x : PerDriver DriverRec) : (s.setDrivers x).plies = s.plies := rfl
@[simp] theorem State.setDrivers_marks (x : PerDriver DriverRec) : (s.setDrivers x).marks = s.marks := rfl
@[simp] theorem State.setDrivers_zones (x : PerDriver DriverRec) : (s.setDrivers x).zones = s.zones := rfl
@[simp] theorem State.setDrivers_gen (x : PerDriver DriverRec) : (s.setDrivers x).gen = s.gen := rfl
@[simp] theorem State.setDrivers_pipe (x : PerDriver DriverRec) : (s.setDrivers x).pipe = s.pipe := rfl
@[simp] theorem State.setDrivers_drivers (x : PerDriver DriverRec) : (s.setDrivers x).drivers = x := rfl
@[simp] theorem State.setDrivers_requests (x : PerDriver DriverRec) : (s.setDrivers x).requests = s.requests := rfl
@[simp] theorem State.setDrivers_readers (x : PerDriver DriverRec) : (s.setDrivers x).readers = s.readers := rfl
@[simp] theorem State.setDrivers_jobs (x : PerDriver DriverRec) : (s.setDrivers x).jobs = s.jobs := rfl
@[simp] theorem State.setDrivers_audit (x : PerDriver DriverRec) : (s.setDrivers x).audit = s.audit := rfl
@[simp] theorem State.setDrivers_shift (x : PerDriver DriverRec) : (s.setDrivers x).shift = s.shift := rfl
@[simp] theorem State.setDrivers_monitors (x : PerDriver DriverRec) : (s.setDrivers x).monitors = s.monitors := rfl
@[simp] theorem State.setDrivers_stop (x : PerDriver DriverRec) : (s.setDrivers x).stop = s.stop := rfl
@[simp] theorem State.setDrivers_line (x : PerDriver DriverRec) : (s.setDrivers x).line = s.line := rfl
@[simp] theorem State.setDrivers_panel (x : PerDriver DriverRec) : (s.setDrivers x).panel = s.panel := rfl
@[simp] theorem State.setDrivers_headLink (x : PerDriver DriverRec) : (s.setDrivers x).headLink = s.headLink := rfl
@[simp] theorem State.setDrivers_powerFail (x : PerDriver DriverRec) : (s.setDrivers x).powerFail = s.powerFail := rfl
@[simp] theorem State.setDrivers_freeIndex (x : PerDriver DriverRec) : (s.setDrivers x).freeIndex = s.freeIndex := rfl
@[simp] theorem State.setDrivers_pending (x : PerDriver DriverRec) : (s.setDrivers x).pending = s.pending := rfl

@[simp] theorem State.setRequests_straps (x : List SendRequest) : (s.setRequests x).straps = s.straps := rfl
@[simp] theorem State.setRequests_trk (x : List SendRequest) : (s.setRequests x).trk = s.trk := rfl
@[simp] theorem State.setRequests_plies (x : List SendRequest) : (s.setRequests x).plies = s.plies := rfl
@[simp] theorem State.setRequests_marks (x : List SendRequest) : (s.setRequests x).marks = s.marks := rfl
@[simp] theorem State.setRequests_zones (x : List SendRequest) : (s.setRequests x).zones = s.zones := rfl
@[simp] theorem State.setRequests_gen (x : List SendRequest) : (s.setRequests x).gen = s.gen := rfl
@[simp] theorem State.setRequests_pipe (x : List SendRequest) : (s.setRequests x).pipe = s.pipe := rfl
@[simp] theorem State.setRequests_drivers (x : List SendRequest) : (s.setRequests x).drivers = s.drivers := rfl
@[simp] theorem State.setRequests_requests (x : List SendRequest) : (s.setRequests x).requests = x := rfl
@[simp] theorem State.setRequests_readers (x : List SendRequest) : (s.setRequests x).readers = s.readers := rfl
@[simp] theorem State.setRequests_jobs (x : List SendRequest) : (s.setRequests x).jobs = s.jobs := rfl
@[simp] theorem State.setRequests_audit (x : List SendRequest) : (s.setRequests x).audit = s.audit := rfl
@[simp] theorem State.setRequests_shift (x : List SendRequest) : (s.setRequests x).shift = s.shift := rfl
@[simp] theorem State.setRequests_monitors (x : List SendRequest) : (s.setRequests x).monitors = s.monitors := rfl
@[simp] theorem State.setRequests_stop (x : List SendRequest) : (s.setRequests x).stop = s.stop := rfl
@[simp] theorem State.setRequests_line (x : List SendRequest) : (s.setRequests x).line = s.line := rfl
@[simp] theorem State.setRequests_panel (x : List SendRequest) : (s.setRequests x).panel = s.panel := rfl
@[simp] theorem State.setRequests_headLink (x : List SendRequest) : (s.setRequests x).headLink = s.headLink := rfl
@[simp] theorem State.setRequests_powerFail (x : List SendRequest) : (s.setRequests x).powerFail = s.powerFail := rfl
@[simp] theorem State.setRequests_freeIndex (x : List SendRequest) : (s.setRequests x).freeIndex = s.freeIndex := rfl
@[simp] theorem State.setRequests_pending (x : List SendRequest) : (s.setRequests x).pending = s.pending := rfl

@[simp] theorem State.setReaders_straps (x : PerPly ReaderPly) : (s.setReaders x).straps = s.straps := rfl
@[simp] theorem State.setReaders_trk (x : PerPly ReaderPly) : (s.setReaders x).trk = s.trk := rfl
@[simp] theorem State.setReaders_plies (x : PerPly ReaderPly) : (s.setReaders x).plies = s.plies := rfl
@[simp] theorem State.setReaders_marks (x : PerPly ReaderPly) : (s.setReaders x).marks = s.marks := rfl
@[simp] theorem State.setReaders_zones (x : PerPly ReaderPly) : (s.setReaders x).zones = s.zones := rfl
@[simp] theorem State.setReaders_gen (x : PerPly ReaderPly) : (s.setReaders x).gen = s.gen := rfl
@[simp] theorem State.setReaders_pipe (x : PerPly ReaderPly) : (s.setReaders x).pipe = s.pipe := rfl
@[simp] theorem State.setReaders_drivers (x : PerPly ReaderPly) : (s.setReaders x).drivers = s.drivers := rfl
@[simp] theorem State.setReaders_requests (x : PerPly ReaderPly) : (s.setReaders x).requests = s.requests := rfl
@[simp] theorem State.setReaders_readers (x : PerPly ReaderPly) : (s.setReaders x).readers = x := rfl
@[simp] theorem State.setReaders_jobs (x : PerPly ReaderPly) : (s.setReaders x).jobs = s.jobs := rfl
@[simp] theorem State.setReaders_audit (x : PerPly ReaderPly) : (s.setReaders x).audit = s.audit := rfl
@[simp] theorem State.setReaders_shift (x : PerPly ReaderPly) : (s.setReaders x).shift = s.shift := rfl
@[simp] theorem State.setReaders_monitors (x : PerPly ReaderPly) : (s.setReaders x).monitors = s.monitors := rfl
@[simp] theorem State.setReaders_stop (x : PerPly ReaderPly) : (s.setReaders x).stop = s.stop := rfl
@[simp] theorem State.setReaders_line (x : PerPly ReaderPly) : (s.setReaders x).line = s.line := rfl
@[simp] theorem State.setReaders_panel (x : PerPly ReaderPly) : (s.setReaders x).panel = s.panel := rfl
@[simp] theorem State.setReaders_headLink (x : PerPly ReaderPly) : (s.setReaders x).headLink = s.headLink := rfl
@[simp] theorem State.setReaders_powerFail (x : PerPly ReaderPly) : (s.setReaders x).powerFail = s.powerFail := rfl
@[simp] theorem State.setReaders_freeIndex (x : PerPly ReaderPly) : (s.setReaders x).freeIndex = s.freeIndex := rfl
@[simp] theorem State.setReaders_pending (x : PerPly ReaderPly) : (s.setReaders x).pending = s.pending := rfl

@[simp] theorem State.setJobs_straps (x : List Job) : (s.setJobs x).straps = s.straps := rfl
@[simp] theorem State.setJobs_trk (x : List Job) : (s.setJobs x).trk = s.trk := rfl
@[simp] theorem State.setJobs_plies (x : List Job) : (s.setJobs x).plies = s.plies := rfl
@[simp] theorem State.setJobs_marks (x : List Job) : (s.setJobs x).marks = s.marks := rfl
@[simp] theorem State.setJobs_zones (x : List Job) : (s.setJobs x).zones = s.zones := rfl
@[simp] theorem State.setJobs_gen (x : List Job) : (s.setJobs x).gen = s.gen := rfl
@[simp] theorem State.setJobs_pipe (x : List Job) : (s.setJobs x).pipe = s.pipe := rfl
@[simp] theorem State.setJobs_drivers (x : List Job) : (s.setJobs x).drivers = s.drivers := rfl
@[simp] theorem State.setJobs_requests (x : List Job) : (s.setJobs x).requests = s.requests := rfl
@[simp] theorem State.setJobs_readers (x : List Job) : (s.setJobs x).readers = s.readers := rfl
@[simp] theorem State.setJobs_jobs (x : List Job) : (s.setJobs x).jobs = x := rfl
@[simp] theorem State.setJobs_audit (x : List Job) : (s.setJobs x).audit = s.audit := rfl
@[simp] theorem State.setJobs_shift (x : List Job) : (s.setJobs x).shift = s.shift := rfl
@[simp] theorem State.setJobs_monitors (x : List Job) : (s.setJobs x).monitors = s.monitors := rfl
@[simp] theorem State.setJobs_stop (x : List Job) : (s.setJobs x).stop = s.stop := rfl
@[simp] theorem State.setJobs_line (x : List Job) : (s.setJobs x).line = s.line := rfl
@[simp] theorem State.setJobs_panel (x : List Job) : (s.setJobs x).panel = s.panel := rfl
@[simp] theorem State.setJobs_headLink (x : List Job) : (s.setJobs x).headLink = s.headLink := rfl
@[simp] theorem State.setJobs_powerFail (x : List Job) : (s.setJobs x).powerFail = s.powerFail := rfl
@[simp] theorem State.setJobs_freeIndex (x : List Job) : (s.setJobs x).freeIndex = s.freeIndex := rfl
@[simp] theorem State.setJobs_pending (x : List Job) : (s.setJobs x).pending = s.pending := rfl

@[simp] theorem State.setAudit_straps (x : AuditStore) : (s.setAudit x).straps = s.straps := rfl
@[simp] theorem State.setAudit_trk (x : AuditStore) : (s.setAudit x).trk = s.trk := rfl
@[simp] theorem State.setAudit_plies (x : AuditStore) : (s.setAudit x).plies = s.plies := rfl
@[simp] theorem State.setAudit_marks (x : AuditStore) : (s.setAudit x).marks = s.marks := rfl
@[simp] theorem State.setAudit_zones (x : AuditStore) : (s.setAudit x).zones = s.zones := rfl
@[simp] theorem State.setAudit_gen (x : AuditStore) : (s.setAudit x).gen = s.gen := rfl
@[simp] theorem State.setAudit_pipe (x : AuditStore) : (s.setAudit x).pipe = s.pipe := rfl
@[simp] theorem State.setAudit_drivers (x : AuditStore) : (s.setAudit x).drivers = s.drivers := rfl
@[simp] theorem State.setAudit_requests (x : AuditStore) : (s.setAudit x).requests = s.requests := rfl
@[simp] theorem State.setAudit_readers (x : AuditStore) : (s.setAudit x).readers = s.readers := rfl
@[simp] theorem State.setAudit_jobs (x : AuditStore) : (s.setAudit x).jobs = s.jobs := rfl
@[simp] theorem State.setAudit_audit (x : AuditStore) : (s.setAudit x).audit = x := rfl
@[simp] theorem State.setAudit_shift (x : AuditStore) : (s.setAudit x).shift = s.shift := rfl
@[simp] theorem State.setAudit_monitors (x : AuditStore) : (s.setAudit x).monitors = s.monitors := rfl
@[simp] theorem State.setAudit_stop (x : AuditStore) : (s.setAudit x).stop = s.stop := rfl
@[simp] theorem State.setAudit_line (x : AuditStore) : (s.setAudit x).line = s.line := rfl
@[simp] theorem State.setAudit_panel (x : AuditStore) : (s.setAudit x).panel = s.panel := rfl
@[simp] theorem State.setAudit_headLink (x : AuditStore) : (s.setAudit x).headLink = s.headLink := rfl
@[simp] theorem State.setAudit_powerFail (x : AuditStore) : (s.setAudit x).powerFail = s.powerFail := rfl
@[simp] theorem State.setAudit_freeIndex (x : AuditStore) : (s.setAudit x).freeIndex = s.freeIndex := rfl
@[simp] theorem State.setAudit_pending (x : AuditStore) : (s.setAudit x).pending = s.pending := rfl

@[simp] theorem State.setShift_straps (x : ShiftTallies) : (s.setShift x).straps = s.straps := rfl
@[simp] theorem State.setShift_trk (x : ShiftTallies) : (s.setShift x).trk = s.trk := rfl
@[simp] theorem State.setShift_plies (x : ShiftTallies) : (s.setShift x).plies = s.plies := rfl
@[simp] theorem State.setShift_marks (x : ShiftTallies) : (s.setShift x).marks = s.marks := rfl
@[simp] theorem State.setShift_zones (x : ShiftTallies) : (s.setShift x).zones = s.zones := rfl
@[simp] theorem State.setShift_gen (x : ShiftTallies) : (s.setShift x).gen = s.gen := rfl
@[simp] theorem State.setShift_pipe (x : ShiftTallies) : (s.setShift x).pipe = s.pipe := rfl
@[simp] theorem State.setShift_drivers (x : ShiftTallies) : (s.setShift x).drivers = s.drivers := rfl
@[simp] theorem State.setShift_requests (x : ShiftTallies) : (s.setShift x).requests = s.requests := rfl
@[simp] theorem State.setShift_readers (x : ShiftTallies) : (s.setShift x).readers = s.readers := rfl
@[simp] theorem State.setShift_jobs (x : ShiftTallies) : (s.setShift x).jobs = s.jobs := rfl
@[simp] theorem State.setShift_audit (x : ShiftTallies) : (s.setShift x).audit = s.audit := rfl
@[simp] theorem State.setShift_shift (x : ShiftTallies) : (s.setShift x).shift = x := rfl
@[simp] theorem State.setShift_monitors (x : ShiftTallies) : (s.setShift x).monitors = s.monitors := rfl
@[simp] theorem State.setShift_stop (x : ShiftTallies) : (s.setShift x).stop = s.stop := rfl
@[simp] theorem State.setShift_line (x : ShiftTallies) : (s.setShift x).line = s.line := rfl
@[simp] theorem State.setShift_panel (x : ShiftTallies) : (s.setShift x).panel = s.panel := rfl
@[simp] theorem State.setShift_headLink (x : ShiftTallies) : (s.setShift x).headLink = s.headLink := rfl
@[simp] theorem State.setShift_powerFail (x : ShiftTallies) : (s.setShift x).powerFail = s.powerFail := rfl
@[simp] theorem State.setShift_freeIndex (x : ShiftTallies) : (s.setShift x).freeIndex = s.freeIndex := rfl
@[simp] theorem State.setShift_pending (x : ShiftTallies) : (s.setShift x).pending = s.pending := rfl

@[simp] theorem State.setMonitors_straps (x : PerMon Monitor) : (s.setMonitors x).straps = s.straps := rfl
@[simp] theorem State.setMonitors_trk (x : PerMon Monitor) : (s.setMonitors x).trk = s.trk := rfl
@[simp] theorem State.setMonitors_plies (x : PerMon Monitor) : (s.setMonitors x).plies = s.plies := rfl
@[simp] theorem State.setMonitors_marks (x : PerMon Monitor) : (s.setMonitors x).marks = s.marks := rfl
@[simp] theorem State.setMonitors_zones (x : PerMon Monitor) : (s.setMonitors x).zones = s.zones := rfl
@[simp] theorem State.setMonitors_gen (x : PerMon Monitor) : (s.setMonitors x).gen = s.gen := rfl
@[simp] theorem State.setMonitors_pipe (x : PerMon Monitor) : (s.setMonitors x).pipe = s.pipe := rfl
@[simp] theorem State.setMonitors_drivers (x : PerMon Monitor) : (s.setMonitors x).drivers = s.drivers := rfl
@[simp] theorem State.setMonitors_requests (x : PerMon Monitor) : (s.setMonitors x).requests = s.requests := rfl
@[simp] theorem State.setMonitors_readers (x : PerMon Monitor) : (s.setMonitors x).readers = s.readers := rfl
@[simp] theorem State.setMonitors_jobs (x : PerMon Monitor) : (s.setMonitors x).jobs = s.jobs := rfl
@[simp] theorem State.setMonitors_audit (x : PerMon Monitor) : (s.setMonitors x).audit = s.audit := rfl
@[simp] theorem State.setMonitors_shift (x : PerMon Monitor) : (s.setMonitors x).shift = s.shift := rfl
@[simp] theorem State.setMonitors_monitors (x : PerMon Monitor) : (s.setMonitors x).monitors = x := rfl
@[simp] theorem State.setMonitors_stop (x : PerMon Monitor) : (s.setMonitors x).stop = s.stop := rfl
@[simp] theorem State.setMonitors_line (x : PerMon Monitor) : (s.setMonitors x).line = s.line := rfl
@[simp] theorem State.setMonitors_panel (x : PerMon Monitor) : (s.setMonitors x).panel = s.panel := rfl
@[simp] theorem State.setMonitors_headLink (x : PerMon Monitor) : (s.setMonitors x).headLink = s.headLink := rfl
@[simp] theorem State.setMonitors_powerFail (x : PerMon Monitor) : (s.setMonitors x).powerFail = s.powerFail := rfl
@[simp] theorem State.setMonitors_freeIndex (x : PerMon Monitor) : (s.setMonitors x).freeIndex = s.freeIndex := rfl
@[simp] theorem State.setMonitors_pending (x : PerMon Monitor) : (s.setMonitors x).pending = s.pending := rfl

@[simp] theorem State.setStop_straps (x : StopUnit) : (s.setStop x).straps = s.straps := rfl
@[simp] theorem State.setStop_trk (x : StopUnit) : (s.setStop x).trk = s.trk := rfl
@[simp] theorem State.setStop_plies (x : StopUnit) : (s.setStop x).plies = s.plies := rfl
@[simp] theorem State.setStop_marks (x : StopUnit) : (s.setStop x).marks = s.marks := rfl
@[simp] theorem State.setStop_zones (x : StopUnit) : (s.setStop x).zones = s.zones := rfl
@[simp] theorem State.setStop_gen (x : StopUnit) : (s.setStop x).gen = s.gen := rfl
@[simp] theorem State.setStop_pipe (x : StopUnit) : (s.setStop x).pipe = s.pipe := rfl
@[simp] theorem State.setStop_drivers (x : StopUnit) : (s.setStop x).drivers = s.drivers := rfl
@[simp] theorem State.setStop_requests (x : StopUnit) : (s.setStop x).requests = s.requests := rfl
@[simp] theorem State.setStop_readers (x : StopUnit) : (s.setStop x).readers = s.readers := rfl
@[simp] theorem State.setStop_jobs (x : StopUnit) : (s.setStop x).jobs = s.jobs := rfl
@[simp] theorem State.setStop_audit (x : StopUnit) : (s.setStop x).audit = s.audit := rfl
@[simp] theorem State.setStop_shift (x : StopUnit) : (s.setStop x).shift = s.shift := rfl
@[simp] theorem State.setStop_monitors (x : StopUnit) : (s.setStop x).monitors = s.monitors := rfl
@[simp] theorem State.setStop_stop (x : StopUnit) : (s.setStop x).stop = x := rfl
@[simp] theorem State.setStop_line (x : StopUnit) : (s.setStop x).line = s.line := rfl
@[simp] theorem State.setStop_panel (x : StopUnit) : (s.setStop x).panel = s.panel := rfl
@[simp] theorem State.setStop_headLink (x : StopUnit) : (s.setStop x).headLink = s.headLink := rfl
@[simp] theorem State.setStop_powerFail (x : StopUnit) : (s.setStop x).powerFail = s.powerFail := rfl
@[simp] theorem State.setStop_freeIndex (x : StopUnit) : (s.setStop x).freeIndex = s.freeIndex := rfl
@[simp] theorem State.setStop_pending (x : StopUnit) : (s.setStop x).pending = s.pending := rfl

@[simp] theorem State.setLine_straps (x : PortState) : (s.setLine x).straps = s.straps := rfl
@[simp] theorem State.setLine_trk (x : PortState) : (s.setLine x).trk = s.trk := rfl
@[simp] theorem State.setLine_plies (x : PortState) : (s.setLine x).plies = s.plies := rfl
@[simp] theorem State.setLine_marks (x : PortState) : (s.setLine x).marks = s.marks := rfl
@[simp] theorem State.setLine_zones (x : PortState) : (s.setLine x).zones = s.zones := rfl
@[simp] theorem State.setLine_gen (x : PortState) : (s.setLine x).gen = s.gen := rfl
@[simp] theorem State.setLine_pipe (x : PortState) : (s.setLine x).pipe = s.pipe := rfl
@[simp] theorem State.setLine_drivers (x : PortState) : (s.setLine x).drivers = s.drivers := rfl
@[simp] theorem State.setLine_requests (x : PortState) : (s.setLine x).requests = s.requests := rfl
@[simp] theorem State.setLine_readers (x : PortState) : (s.setLine x).readers = s.readers := rfl
@[simp] theorem State.setLine_jobs (x : PortState) : (s.setLine x).jobs = s.jobs := rfl
@[simp] theorem State.setLine_audit (x : PortState) : (s.setLine x).audit = s.audit := rfl
@[simp] theorem State.setLine_shift (x : PortState) : (s.setLine x).shift = s.shift := rfl
@[simp] theorem State.setLine_monitors (x : PortState) : (s.setLine x).monitors = s.monitors := rfl
@[simp] theorem State.setLine_stop (x : PortState) : (s.setLine x).stop = s.stop := rfl
@[simp] theorem State.setLine_line (x : PortState) : (s.setLine x).line = x := rfl
@[simp] theorem State.setLine_panel (x : PortState) : (s.setLine x).panel = s.panel := rfl
@[simp] theorem State.setLine_headLink (x : PortState) : (s.setLine x).headLink = s.headLink := rfl
@[simp] theorem State.setLine_powerFail (x : PortState) : (s.setLine x).powerFail = s.powerFail := rfl
@[simp] theorem State.setLine_freeIndex (x : PortState) : (s.setLine x).freeIndex = s.freeIndex := rfl
@[simp] theorem State.setLine_pending (x : PortState) : (s.setLine x).pending = s.pending := rfl

@[simp] theorem State.setPanel_straps (x : PortState) : (s.setPanel x).straps = s.straps := rfl
@[simp] theorem State.setPanel_trk (x : PortState) : (s.setPanel x).trk = s.trk := rfl
@[simp] theorem State.setPanel_plies (x : PortState) : (s.setPanel x).plies = s.plies := rfl
@[simp] theorem State.setPanel_marks (x : PortState) : (s.setPanel x).marks = s.marks := rfl
@[simp] theorem State.setPanel_zones (x : PortState) : (s.setPanel x).zones = s.zones := rfl
@[simp] theorem State.setPanel_gen (x : PortState) : (s.setPanel x).gen = s.gen := rfl
@[simp] theorem State.setPanel_pipe (x : PortState) : (s.setPanel x).pipe = s.pipe := rfl
@[simp] theorem State.setPanel_drivers (x : PortState) : (s.setPanel x).drivers = s.drivers := rfl
@[simp] theorem State.setPanel_requests (x : PortState) : (s.setPanel x).requests = s.requests := rfl
@[simp] theorem State.setPanel_readers (x : PortState) : (s.setPanel x).readers = s.readers := rfl
@[simp] theorem State.setPanel_jobs (x : PortState) : (s.setPanel x).jobs = s.jobs := rfl
@[simp] theorem State.setPanel_audit (x : PortState) : (s.setPanel x).audit = s.audit := rfl
@[simp] theorem State.setPanel_shift (x : PortState) : (s.setPanel x).shift = s.shift := rfl
@[simp] theorem State.setPanel_monitors (x : PortState) : (s.setPanel x).monitors = s.monitors := rfl
@[simp] theorem State.setPanel_stop (x : PortState) : (s.setPanel x).stop = s.stop := rfl
@[simp] theorem State.setPanel_line (x : PortState) : (s.setPanel x).line = s.line := rfl
@[simp] theorem State.setPanel_panel (x : PortState) : (s.setPanel x).panel = x := rfl
@[simp] theorem State.setPanel_headLink (x : PortState) : (s.setPanel x).headLink = s.headLink := rfl
@[simp] theorem State.setPanel_powerFail (x : PortState) : (s.setPanel x).powerFail = s.powerFail := rfl
@[simp] theorem State.setPanel_freeIndex (x : PortState) : (s.setPanel x).freeIndex = s.freeIndex := rfl
@[simp] theorem State.setPanel_pending (x : PortState) : (s.setPanel x).pending = s.pending := rfl

@[simp] theorem State.setHeadLink_straps (x : List HeadMessage) : (s.setHeadLink x).straps = s.straps := rfl
@[simp] theorem State.setHeadLink_trk (x : List HeadMessage) : (s.setHeadLink x).trk = s.trk := rfl
@[simp] theorem State.setHeadLink_plies (x : List HeadMessage) : (s.setHeadLink x).plies = s.plies := rfl
@[simp] theorem State.setHeadLink_marks (x : List HeadMessage) : (s.setHeadLink x).marks = s.marks := rfl
@[simp] theorem State.setHeadLink_zones (x : List HeadMessage) : (s.setHeadLink x).zones = s.zones := rfl
@[simp] theorem State.setHeadLink_gen (x : List HeadMessage) : (s.setHeadLink x).gen = s.gen := rfl
@[simp] theorem State.setHeadLink_pipe (x : List HeadMessage) : (s.setHeadLink x).pipe = s.pipe := rfl
@[simp] theorem State.setHeadLink_drivers (x : List HeadMessage) : (s.setHeadLink x).drivers = s.drivers := rfl
@[simp] theorem State.setHeadLink_requests (x : List HeadMessage) : (s.setHeadLink x).requests = s.requests := rfl
@[simp] theorem State.setHeadLink_readers (x : List HeadMessage) : (s.setHeadLink x).readers = s.readers := rfl
@[simp] theorem State.setHeadLink_jobs (x : List HeadMessage) : (s.setHeadLink x).jobs = s.jobs := rfl
@[simp] theorem State.setHeadLink_audit (x : List HeadMessage) : (s.setHeadLink x).audit = s.audit := rfl
@[simp] theorem State.setHeadLink_shift (x : List HeadMessage) : (s.setHeadLink x).shift = s.shift := rfl
@[simp] theorem State.setHeadLink_monitors (x : List HeadMessage) : (s.setHeadLink x).monitors = s.monitors := rfl
@[simp] theorem State.setHeadLink_stop (x : List HeadMessage) : (s.setHeadLink x).stop = s.stop := rfl
@[simp] theorem State.setHeadLink_line (x : List HeadMessage) : (s.setHeadLink x).line = s.line := rfl
@[simp] theorem State.setHeadLink_panel (x : List HeadMessage) : (s.setHeadLink x).panel = s.panel := rfl
@[simp] theorem State.setHeadLink_headLink (x : List HeadMessage) : (s.setHeadLink x).headLink = x := rfl
@[simp] theorem State.setHeadLink_powerFail (x : List HeadMessage) : (s.setHeadLink x).powerFail = s.powerFail := rfl
@[simp] theorem State.setHeadLink_freeIndex (x : List HeadMessage) : (s.setHeadLink x).freeIndex = s.freeIndex := rfl
@[simp] theorem State.setHeadLink_pending (x : List HeadMessage) : (s.setHeadLink x).pending = s.pending := rfl

@[simp] theorem State.setPowerFail_straps (x : Bool) : (s.setPowerFail x).straps = s.straps := rfl
@[simp] theorem State.setPowerFail_trk (x : Bool) : (s.setPowerFail x).trk = s.trk := rfl
@[simp] theorem State.setPowerFail_plies (x : Bool) : (s.setPowerFail x).plies = s.plies := rfl
@[simp] theorem State.setPowerFail_marks (x : Bool) : (s.setPowerFail x).marks = s.marks := rfl
@[simp] theorem State.setPowerFail_zones (x : Bool) : (s.setPowerFail x).zones = s.zones := rfl
@[simp] theorem State.setPowerFail_gen (x : Bool) : (s.setPowerFail x).gen = s.gen := rfl
@[simp] theorem State.setPowerFail_pipe (x : Bool) : (s.setPowerFail x).pipe = s.pipe := rfl
@[simp] theorem State.setPowerFail_drivers (x : Bool) : (s.setPowerFail x).drivers = s.drivers := rfl
@[simp] theorem State.setPowerFail_requests (x : Bool) : (s.setPowerFail x).requests = s.requests := rfl
@[simp] theorem State.setPowerFail_readers (x : Bool) : (s.setPowerFail x).readers = s.readers := rfl
@[simp] theorem State.setPowerFail_jobs (x : Bool) : (s.setPowerFail x).jobs = s.jobs := rfl
@[simp] theorem State.setPowerFail_audit (x : Bool) : (s.setPowerFail x).audit = s.audit := rfl
@[simp] theorem State.setPowerFail_shift (x : Bool) : (s.setPowerFail x).shift = s.shift := rfl
@[simp] theorem State.setPowerFail_monitors (x : Bool) : (s.setPowerFail x).monitors = s.monitors := rfl
@[simp] theorem State.setPowerFail_stop (x : Bool) : (s.setPowerFail x).stop = s.stop := rfl
@[simp] theorem State.setPowerFail_line (x : Bool) : (s.setPowerFail x).line = s.line := rfl
@[simp] theorem State.setPowerFail_panel (x : Bool) : (s.setPowerFail x).panel = s.panel := rfl
@[simp] theorem State.setPowerFail_headLink (x : Bool) : (s.setPowerFail x).headLink = s.headLink := rfl
@[simp] theorem State.setPowerFail_powerFail (x : Bool) : (s.setPowerFail x).powerFail = x := rfl
@[simp] theorem State.setPowerFail_freeIndex (x : Bool) : (s.setPowerFail x).freeIndex = s.freeIndex := rfl
@[simp] theorem State.setPowerFail_pending (x : Bool) : (s.setPowerFail x).pending = s.pending := rfl

@[simp] theorem State.setFreeIndex_straps (x : Nat) : (s.setFreeIndex x).straps = s.straps := rfl
@[simp] theorem State.setFreeIndex_trk (x : Nat) : (s.setFreeIndex x).trk = s.trk := rfl
@[simp] theorem State.setFreeIndex_plies (x : Nat) : (s.setFreeIndex x).plies = s.plies := rfl
@[simp] theorem State.setFreeIndex_marks (x : Nat) : (s.setFreeIndex x).marks = s.marks := rfl
@[simp] theorem State.setFreeIndex_zones (x : Nat) : (s.setFreeIndex x).zones = s.zones := rfl
@[simp] theorem State.setFreeIndex_gen (x : Nat) : (s.setFreeIndex x).gen = s.gen := rfl
@[simp] theorem State.setFreeIndex_pipe (x : Nat) : (s.setFreeIndex x).pipe = s.pipe := rfl
@[simp] theorem State.setFreeIndex_drivers (x : Nat) : (s.setFreeIndex x).drivers = s.drivers := rfl
@[simp] theorem State.setFreeIndex_requests (x : Nat) : (s.setFreeIndex x).requests = s.requests := rfl
@[simp] theorem State.setFreeIndex_readers (x : Nat) : (s.setFreeIndex x).readers = s.readers := rfl
@[simp] theorem State.setFreeIndex_jobs (x : Nat) : (s.setFreeIndex x).jobs = s.jobs := rfl
@[simp] theorem State.setFreeIndex_audit (x : Nat) : (s.setFreeIndex x).audit = s.audit := rfl
@[simp] theorem State.setFreeIndex_shift (x : Nat) : (s.setFreeIndex x).shift = s.shift := rfl
@[simp] theorem State.setFreeIndex_monitors (x : Nat) : (s.setFreeIndex x).monitors = s.monitors := rfl
@[simp] theorem State.setFreeIndex_stop (x : Nat) : (s.setFreeIndex x).stop = s.stop := rfl
@[simp] theorem State.setFreeIndex_line (x : Nat) : (s.setFreeIndex x).line = s.line := rfl
@[simp] theorem State.setFreeIndex_panel (x : Nat) : (s.setFreeIndex x).panel = s.panel := rfl
@[simp] theorem State.setFreeIndex_headLink (x : Nat) : (s.setFreeIndex x).headLink = s.headLink := rfl
@[simp] theorem State.setFreeIndex_powerFail (x : Nat) : (s.setFreeIndex x).powerFail = s.powerFail := rfl
@[simp] theorem State.setFreeIndex_freeIndex (x : Nat) : (s.setFreeIndex x).freeIndex = x := rfl
@[simp] theorem State.setFreeIndex_pending (x : Nat) : (s.setFreeIndex x).pending = s.pending := rfl

@[simp] theorem State.setPending_straps (x : List Instr) : (s.setPending x).straps = s.straps := rfl
@[simp] theorem State.setPending_trk (x : List Instr) : (s.setPending x).trk = s.trk := rfl
@[simp] theorem State.setPending_plies (x : List Instr) : (s.setPending x).plies = s.plies := rfl
@[simp] theorem State.setPending_marks (x : List Instr) : (s.setPending x).marks = s.marks := rfl
@[simp] theorem State.setPending_zones (x : List Instr) : (s.setPending x).zones = s.zones := rfl
@[simp] theorem State.setPending_gen (x : List Instr) : (s.setPending x).gen = s.gen := rfl
@[simp] theorem State.setPending_pipe (x : List Instr) : (s.setPending x).pipe = s.pipe := rfl
@[simp] theorem State.setPending_drivers (x : List Instr) : (s.setPending x).drivers = s.drivers := rfl
@[simp] theorem State.setPending_requests (x : List Instr) : (s.setPending x).requests = s.requests := rfl
@[simp] theorem State.setPending_readers (x : List Instr) : (s.setPending x).readers = s.readers := rfl
@[simp] theorem State.setPending_jobs (x : List Instr) : (s.setPending x).jobs = s.jobs := rfl
@[simp] theorem State.setPending_audit (x : List Instr) : (s.setPending x).audit = s.audit := rfl
@[simp] theorem State.setPending_shift (x : List Instr) : (s.setPending x).shift = s.shift := rfl
@[simp] theorem State.setPending_monitors (x : List Instr) : (s.setPending x).monitors = s.monitors := rfl
@[simp] theorem State.setPending_stop (x : List Instr) : (s.setPending x).stop = s.stop := rfl
@[simp] theorem State.setPending_line (x : List Instr) : (s.setPending x).line = s.line := rfl
@[simp] theorem State.setPending_panel (x : List Instr) : (s.setPending x).panel = s.panel := rfl
@[simp] theorem State.setPending_headLink (x : List Instr) : (s.setPending x).headLink = s.headLink := rfl
@[simp] theorem State.setPending_powerFail (x : List Instr) : (s.setPending x).powerFail = s.powerFail := rfl
@[simp] theorem State.setPending_freeIndex (x : List Instr) : (s.setPending x).freeIndex = s.freeIndex := rfl
@[simp] theorem State.setPending_pending (x : List Instr) : (s.setPending x).pending = x := rfl

end Sys2Proof.Machine
end

