-- ==== Sys2Proof/Laws/Access.lean ====
section
/-! SUPPORT. Reading a family or a port after one member is replaced. -/

namespace Sys2Proof.Machine

@[simp] theorem PerPly.get_set {α : Type} (x : PerPly α) (p q : Ply) (v : α) :
    (x.set p v).get q = if q = p then v else x.get q := by cases p <;> cases q <;> rfl

@[simp] theorem PerPly.get_map {α β : Type} (f : α → β) (x : PerPly α) (p : Ply) :
    (x.map f).get p = f (x.get p) := by cases p <;> rfl

@[simp] theorem PerPly.get_all {α : Type} (v : α) (p : Ply) : (PerPly.all v).get p = v := by cases p <;> rfl

@[simp] theorem PerDriver.get_set {α : Type} (x : PerDriver α) (p q : Driver) (v : α) :
    (x.set p v).get q = if q = p then v else x.get q := by cases p <;> cases q <;> rfl

@[simp] theorem PerDriver.get_map {α β : Type} (f : α → β) (x : PerDriver α) (p : Driver) :
    (x.map f).get p = f (x.get p) := by cases p <;> rfl

@[simp] theorem PerDriver.get_all {α : Type} (v : α) (p : Driver) : (PerDriver.all v).get p = v := by
  cases p <;> rfl

@[simp] theorem PerMon.get_set {α : Type} (x : PerMon α) (p q : Mon) (v : α) :
    (x.set p v).get q = if q = p then v else x.get q := by cases p <;> cases q <;> rfl

@[simp] theorem PerMon.get_map {α β : Type} (f : α → β) (x : PerMon α) (p : Mon) :
    (x.map f).get p = f (x.get p) := by cases p <;> rfl

@[simp] theorem PerMon.get_all {α : Type} (v : α) (p : Mon) : (PerMon.all v).get p = v := by cases p <;> rfl

@[simp] theorem PerLane.get_set {α : Type} (x : PerLane α) (p q : Lane) (v : α) :
    (x.set p v).get q = if q = p then v else x.get q := by cases p <;> cases q <;> rfl

@[simp] theorem PerLane.get_all {α : Type} (v : α) (p : Lane) : (PerLane.all v).get p = v := by cases p <;> rfl

@[simp] theorem State.port_setPort (s : State) (p q : Port) (x : PortState) :
    (s.setPort p x).port q = if q = p then x else s.port q := by cases p <;> cases q <;> rfl

/-- A port replaced leaves every field but the two ports. -/
theorem State.setPort_fields (s : State) (p : Port) (x : PortState) :
    s.setPort p x = (s.setLine (s.setPort p x).line).setPanel (s.setPort p x).panel := by cases p <;> rfl

end Sys2Proof.Machine
end

