-- ==== Sys2Proof/Laws/Moves.lean ====
section
/-! SUPPORT. What a command's work is made of. `Move` lists every change of one field of the state that any shared operation
makes, each with what that change respects; `Turn` is a run of moves that leaves room in the void list for every lane in
flight, and that touches no receiver, held request, formed reply or frame being sent; `Course` is the same with those.
Each shared operation is a `Turn` (the files Laws/Turns*.lean) and each command but POWER_UP and the two encoder counts a
`Course` (Laws/Courses.lean), so a property that every move respects is respected by all of them. -/

namespace Sys2Proof.Machine

/-- A port changed in its attentions alone: its receiver, held requests, formed replies and frame being sent stand. -/
structure PortState.SameTraffic (x y : PortState) : Prop where
  receiver : y.receiver = x.receiver
  held : y.held = x.held
  replies : y.replies = x.replies
  sending : y.sending = x.sending

theorem PortState.SameTraffic.refl (x : PortState) : x.SameTraffic x := ⟨rfl, rfl, rfl, rfl⟩

theorem PortState.SameTraffic.trans {x y z : PortState} (h : x.SameTraffic y) (k : y.SameTraffic z) :
    x.SameTraffic z :=
  ⟨k.1.trans h.1, k.2.trans h.2, k.3.trans h.3, k.4.trans h.4⟩

/-- One change of one field, with what it respects. With `io` false a port's traffic is not touched. -/
inductive Move (io : Bool) (s : State) : State → Prop
  | trk (x : Tracker) (ha : x.a = s.trk.a) (hh : x.h = s.trk.h)
      (hf : x.epoch = none → s.trk.epoch = none ∨ s.pipe.rows = []) : Move io s (s.setTrk x)
  | ply (x : PerPly PlySettings) (y : PerPly MarkPly)
      (ht : ∀ p, |(s.marks.get p).trend| ≤ 16 * ((s.plies.get p).t : Int) →
        |(y.get p).trend| ≤ 16 * ((x.get p).t : Int)) : Move io s ((s.setPlies x).setMarks y)
  | zones (x : PerPly (List Zone)) (h : ZonesBounded s.zones → ZonesBounded x) : Move io s (s.setZones x)
  | gen (x : Generator) : Move io s (s.setGen x)
  | pipe (x : Pipeline) (hf : x.rows ≠ [] → s.pipe.rows ≠ [] ∨ s.trk.epoch ≠ none) : Move io s (s.setPipe x)
  | drivers (x : PerDriver DriverRec) (h : ∀ d, (s.drivers.get d).OrdersOk → (x.get d).OrdersOk) :
      Move io s (s.setDrivers x)
  | requests (x : List SendRequest) : Move io s (s.setRequests x)
  | readers (x : PerPly ReaderPly) : Move io s (s.setReaders x)
  | jobs (x : List Job) (h : JobsOk s.jobs → JobsOk x) : Move io s (s.setJobs x)
  | audit (x : AuditStore) (hq : QueueOk s.audit.queue → QueueOk x.queue)
      (hr : s.audit.records.length ≤ 4 → x.records.length ≤ 4) : Move io s (s.setAudit x)
  | shift (x : ShiftTallies) : Move io s (s.setShift x)
  | monitors (x : PerMon Monitor) (h : MonitorsBelow s.monitors → MonitorsBelow x) : Move io s (s.setMonitors x)
  | stop (x : StopUnit) (h : s.stop.Consistent → x.Consistent) : Move io s (s.setStop x)
  | port (p : Port) (x : PortState) (h : (s.port p).Bounded → x.Bounded)
      (hk : io = false → (s.port p).SameTraffic x) : Move io s (s.setPort p x)
  | headLink (x : List HeadMessage) : Move io s (s.setHeadLink x)
  | powerFail (x : Bool) : Move io s (s.setPowerFail x)
  | freeIndex (x : Nat) : Move io s (s.setFreeIndex x)

/-- Any run of moves. -/
abbrev Moves : State → State → Prop := Relation.ReflTransGen (Move false)

/-- A run of moves after which the reservation's count is no higher than before, or at most 1024 (R79). -/
def Turn (s t : State) : Prop := Moves s t ∧ t.reserved ≤ max s.reserved 1024

theorem Turn.refl (s : State) : Turn s s := ⟨.refl, le_max_left _ _⟩

theorem Turn.trans {a b c : State} (h : Turn a b) (k : Turn b c) : Turn a c :=
  ⟨h.1.trans k.1, by have := h.2; have := k.2; omega⟩

/-- A run of moves that lowers the count, or keeps it, is a turn. -/
theorem Turn.of_moves {s t : State} (h : Moves s t) (hl : t.reserved ≤ s.reserved) : Turn s t :=
  ⟨h, le_max_of_le_left hl⟩

/-- One move that keeps the count is a turn. -/
theorem Turn.one {s t : State} (h : Move false s t) (hl : t.reserved = s.reserved) : Turn s t :=
  .of_moves (.single h) (Nat.le_of_eq hl)

theorem Turn.ite {s a b : State} (c : Prop) [Decidable c] (ha : c → Turn s a) (hb : ¬c → Turn s b) :
    Turn s (if c then a else b) := by
  split
  · exact ha ‹_›
  · exact hb ‹_›

theorem turn_foldl {α : Type} (f : State → α → State) (h : ∀ s a, Turn s (f s a)) (l : List α) (s : State) :
    Turn s (l.foldl f s) := by
  induction l generalizing s with
  | nil => exact .refl s
  | cons a l ih => exact (h s a).trans (ih (f s a))

theorem moves_foldl {α : Type} (f : State → α → State) (h : ∀ s a, Moves s (f s a)) (l : List α) (s : State) :
    Moves s (l.foldl f s) := by
  induction l generalizing s with
  | nil => exact .refl
  | cons a l ih => exact (h s a).trans (ih (f s a))

/-! ## The fields whose changes respect everything -/

theorem turn_gen (s : State) (x : Generator) : Turn s (s.setGen x) := .one (.gen x) rfl

theorem turn_requests (s : State) (x : List SendRequest) : Turn s (s.setRequests x) := .one (.requests x) rfl

theorem turn_readers (s : State) (x : PerPly ReaderPly) : Turn s (s.setReaders x) := .one (.readers x) rfl

theorem turn_shift (s : State) (x : ShiftTallies) : Turn s (s.setShift x) := .one (.shift x) rfl

theorem turn_headLink (s : State) (x : List HeadMessage) : Turn s (s.setHeadLink x) := .one (.headLink x) rfl

theorem turn_powerFail (s : State) (x : Bool) : Turn s (s.setPowerFail x) := .one (.powerFail x) rfl

theorem turn_freeIndex (s : State) (x : Nat) : Turn s (s.setFreeIndex x) := .one (.freeIndex x) rfl

/-! ## The other fields -/

theorem turn_trk (s : State) (x : Tracker) (ha : x.a = s.trk.a) (hh : x.h = s.trk.h)
    (hf : x.epoch = none → s.trk.epoch = none ∨ s.pipe.rows = []) : Turn s (s.setTrk x) := .one (.trk x ha hh hf) rfl

/-- A change of the Tracker that keeps A, H and the epoch. -/
theorem turn_trk' (s : State) (x : Tracker) (ha : x.a = s.trk.a) (hh : x.h = s.trk.h)
    (he : x.epoch = s.trk.epoch) : Turn s (s.setTrk x) := turn_trk s x ha hh (fun h => .inl (he ▸ h))

theorem turn_marks (s : State) (y : PerPly MarkPly)
    (ht : ∀ p, |(s.marks.get p).trend| ≤ 16 * ((s.plies.get p).t : Int) →
      |(y.get p).trend| ≤ 16 * ((s.plies.get p).t : Int)) : Turn s (s.setMarks y) :=
  .one (.ply s.plies y ht) rfl

theorem turn_zones (s : State) (x : PerPly (List Zone)) (h : ZonesBounded s.zones → ZonesBounded x) :
    Turn s (s.setZones x) := .one (.zones x h) rfl

/-- A change of the pipeline whose rows number no more lanes than before. -/
theorem turn_pipe (s : State) (x : Pipeline) (hf : x.rows ≠ [] → s.pipe.rows ≠ [] ∨ s.trk.epoch ≠ none)
    (hn : inFlightOfRows x.rows ≤ inFlightOfRows s.pipe.rows) : Turn s (s.setPipe x) :=
  .of_moves (.single (.pipe x hf)) (Nat.add_le_add_left hn _)

/-- A change of the pipeline that keeps its rows. -/
theorem turn_pipe' (s : State) (x : Pipeline) (h : x.rows = s.pipe.rows) : Turn s (s.setPipe x) :=
  turn_pipe s x (fun hx => .inl (h ▸ hx)) (by rw [h])

theorem turn_drivers (s : State) (x : PerDriver DriverRec)
    (h : ∀ d, (s.drivers.get d).OrdersOk → (x.get d).OrdersOk) : Turn s (s.setDrivers x) := .one (.drivers x h) rfl

theorem turn_jobs (s : State) (x : List Job) (h : JobsOk s.jobs → JobsOk x) : Turn s (s.setJobs x) :=
  .one (.jobs x h) rfl

theorem turn_audit (s : State) (x : AuditStore) (hq : QueueOk s.audit.queue → QueueOk x.queue)
    (hr : s.audit.records.length ≤ 4 → x.records.length ≤ 4) (hv : x.voidCount ≤ s.audit.voidCount) :
    Turn s (s.setAudit x) := .of_moves (.single (.audit x hq hr)) (Nat.add_le_add_right hv _)

/-- A change of the Audit Store that keeps its three collections. -/
theorem turn_audit' (s : State) (x : AuditStore) (hq : x.queue = s.audit.queue) (hr : x.records = s.audit.records)
    (hv : x.voids = s.audit.voids) (hi : x.inFlight = s.audit.inFlight) : Turn s (s.setAudit x) :=
  turn_audit s x (fun h => hq ▸ h) (fun h => hr ▸ h) (by simp [AuditStore.voidCount, hv, hi])

theorem turn_monitors (s : State) (x : PerMon Monitor) (h : MonitorsBelow s.monitors → MonitorsBelow x) :
    Turn s (s.setMonitors x) := .one (.monitors x h) rfl

theorem turn_stop (s : State) (x : StopUnit) (h : s.stop.Consistent → x.Consistent) : Turn s (s.setStop x) :=
  .one (.stop x h) rfl

theorem turn_port (s : State) (p : Port) (x : PortState) (h : (s.port p).Bounded → x.Bounded)
    (hk : (s.port p).SameTraffic x) : Turn s (s.setPort p x) := .one (.port p x h (fun _ => hk)) (by cases p <;> rfl)

/-- A turn leaves the traffic of both ports as it was. -/
theorem Turn.traffic {s t : State} (h : Turn s t) (p : Port) : (s.port p).SameTraffic (t.port p) := by
  have hm := h.1
  clear h
  induction hm with
  | refl => exact .refl _
  | tail _ hstep ih =>
    refine ih.trans ?_
    cases hstep with
    | port q x _ hk =>
      rw [State.port_setPort]
      split
      · subst_vars; exact hk rfl
      · exact .refl _
    | _ => cases p <;> exact .refl _

/-! ## Courses -/

/-- A turn, with changes of the traffic of the ports among its moves. -/
def Course (s t : State) : Prop := Relation.ReflTransGen (Move true) s t ∧ t.reserved ≤ max s.reserved 1024

theorem Course.refl (s : State) : Course s s := ⟨.refl, le_max_left _ _⟩

theorem Course.trans {a b c : State} (h : Course a b) (k : Course b c) : Course a c :=
  ⟨h.1.trans k.1, by have := h.2; have := k.2; omega⟩

theorem Move.io {s t : State} (h : Move false s t) : Move true s t := by
  cases h with
  | trk x ha hh hf => exact .trk x ha hh hf
  | ply x y ht => exact .ply x y ht
  | zones x h => exact .zones x h
  | gen x => exact .gen x
  | pipe x hf => exact .pipe x hf
  | drivers x h => exact .drivers x h
  | requests x => exact .requests x
  | readers x => exact .readers x
  | jobs x h => exact .jobs x h
  | audit x hq hr => exact .audit x hq hr
  | shift x => exact .shift x
  | monitors x h => exact .monitors x h
  | stop x h => exact .stop x h
  | port p x h hk => exact .port p x h (fun e => nomatch e)
  | headLink x => exact .headLink x
  | powerFail x => exact .powerFail x
  | freeIndex x => exact .freeIndex x

theorem Turn.course {s t : State} (h : Turn s t) : Course s t := ⟨Relation.ReflTransGen.mono (r := Move false) (p := Move true) (fun _ _ => Move.io) _ _ h.1, h.2⟩

theorem course_port (s : State) (p : Port) (x : PortState) (h : (s.port p).Bounded → x.Bounded) :
    Course s (s.setPort p x) :=
  ⟨.single (.port p x h (fun e => nomatch e)), le_max_of_le_left (by cases p <;> exact Nat.le_refl _)⟩

/-- A property of two states that holds of a state and itself, is passed along, and holds across each move, holds across
a course. -/
theorem Course.induct {P : State → State → Prop} {s t : State} (h : Course s t) (hr : ∀ u, P u u)
    (ht : ∀ a b c, P a b → P b c → P a c) (hm : ∀ a b, Move true a b → P a b) : P s t := by
  have h1 := h.1
  clear h
  induction h1 with
  | refl => exact hr _
  | tail _ hstep ih => exact ht _ _ _ ih (hm _ _ hstep)

/-- No move touches the straps, the waiting commands, A or H. -/
theorem Move.fixed {io : Bool} {s t : State} (h : Move io s t) :
    t.straps = s.straps ∧ t.pending = s.pending ∧ t.trk.a = s.trk.a ∧ t.trk.h = s.trk.h := by
  cases h with
  | trk x ha hh hf => exact ⟨rfl, rfl, ha, hh⟩
  | port p x _ _ => cases p <;> exact ⟨rfl, rfl, rfl, rfl⟩
  | _ => exact ⟨rfl, rfl, rfl, rfl⟩

/-- No course touches the straps, the waiting commands, A or H. -/
theorem Course.fixed {s t : State} (h : Course s t) :
    t.straps = s.straps ∧ t.pending = s.pending ∧ t.trk.a = s.trk.a ∧ t.trk.h = s.trk.h :=
  h.induct (fun _ => ⟨rfl, rfl, rfl, rfl⟩)
    (fun _ _ _ h k => ⟨k.1.trans h.1, k.2.1.trans h.2.1, k.2.2.1.trans h.2.2.1, k.2.2.2.trans h.2.2.2⟩)
    (fun _ _ => Move.fixed)

end Sys2Proof.Machine
end

