-- ==== Sys2Proof/Laws/TurnsShared.lean ====
section
/-! SUPPORT. The shared operations of Ops and Flags as turns: counts, row and job updates, attentions and stop causes. -/

namespace Sys2Proof.Machine

/-! ## Attentions -/

theorem PortState.raised_bounded (x : PortState) (c : Attention) (h : x.Bounded) : (x.raised c).Bounded := by
  unfold PortState.raised
  split
  · exact h
  · refine ⟨h.1, h.2.1, fun _ => ?_⟩
    intro h0
    have := congrArg (fun v => v.getLsbD c.bit) h0
    cases c <;> simp [Attention.bit] at this

theorem PortState.raised_traffic (x : PortState) (c : Attention) : x.SameTraffic (x.raised c) := by
  unfold PortState.raised
  split <;> exact ⟨rfl, rfl, rfl, rfl⟩

theorem State.raiseAt_turn (s : State) (p : Port) (c : Attention) : Turn s (s.raiseAt p c) := by
  unfold State.raiseAt
  exact .ite _ (fun _ => .refl s) (fun _ => turn_port _ _ _ (PortState.raised_bounded _ c) (PortState.raised_traffic _ c))

theorem State.raiseBoth_turn (s : State) (c : Attention) : Turn s (s.raiseBoth c) :=
  (s.raiseAt_turn .line c).trans (State.raiseAt_turn _ .panel c)

/-! ## Stop causes -/

/-- One set lies within another, bit by bit. -/
theorem StopSet.within_iff (a b : StopSet) : a &&& ~~~b = 0 ↔ ∀ i : Fin 17, a.getLsbD i = true → b.getLsbD i = true := by
  constructor
  · intro h i ha
    have := congrArg (fun v => v.getLsbD i) h
    simpa [ha] using this
  · intro h
    refine BitVec.eq_of_getLsbD_eq (fun i hi => ?_)
    have := h ⟨i, hi⟩
    cases ha : a.getLsbD i <;> simp_all

theorem State.changeStop_turn (s : State) (f : StopUnit → StopUnit)
    (hf : s.stop.held &&& ~~~s.stop.latched = 0 → (f s.stop).held &&& ~~~(f s.stop).latched = 0) :
    Turn s (s.changeStop f) := by
  have h : Turn s (s.setStop (f s.stop).reformed) := turn_stop _ _ (fun hs => ⟨rfl, hf hs.2⟩)
  unfold State.changeStop
  exact .ite _ (fun _ => h.trans (State.raiseBoth_turn _ .stop)) (fun _ => h)

theorem State.latchEvent_turn (s : State) (c : StopCause) : Turn s (s.latchEvent c) := by
  refine s.changeStop_turn _ (fun h => ?_)
  rw [StopSet.within_iff] at h ⊢
  intro i hi
  simp [StopSet.insert, h i hi]

theorem State.startLevel_turn (s : State) (c : StopCause) : Turn s (s.startLevel c) := by
  unfold State.startLevel
  refine .ite _ (fun _ => .refl s) (fun _ => s.changeStop_turn _ (fun h => ?_))
  rw [StopSet.within_iff] at h ⊢
  intro i hi
  simp only [StopSet.insert, BitVec.getLsbD_or, Bool.or_eq_true] at hi ⊢
  exact hi.imp_left (h i)

theorem State.endLevel_turn (s : State) (c : StopCause) : Turn s (s.endLevel c) := by
  unfold State.endLevel
  refine .ite _ (fun _ => s.changeStop_turn _ (fun h => ?_)) (fun _ => .refl s)
  rw [StopSet.within_iff] at h ⊢
  intro i hi
  simp only [StopSet.erase, BitVec.getLsbD_and, Bool.and_eq_true] at hi
  exact h i hi.1

theorem StopUnit.cleared_within (u : StopUnit) (named : StopSet) (h : u.held &&& ~~~u.latched = 0) :
    (u.cleared named).held &&& ~~~(u.cleared named).latched = 0 := by
  rw [StopSet.within_iff] at h ⊢
  intro i hi
  have hi' : u.held.getLsbD i = true := hi
  cases hn : named.getLsbD i <;> simp [StopUnit.cleared, hn, hi', h i hi']

theorem State.clearStop_turn (s : State) (named : StopSet) : Turn s (s.changeStop (fun u => u.cleared named)) :=
  s.changeStop_turn _ (s.stop.cleared_within named)

theorem State.setMask_turn (s : State) (m : StopSet) : Turn s (s.changeStop (fun u => { u with mask := m })) :=
  s.changeStop_turn _ id

theorem State.updShift_turn (s : State) (f : ShiftTallies → ShiftTallies) : Turn s (s.updShift f) := turn_shift _ _

/-! ## Plies, drivers, readers -/

/-- A change of a ply's Mark Unit state that keeps its trend, sets it to 0, or leaves it in bounds. -/
theorem State.updMark_turn (s : State) (p : Ply) (f : MarkPly → MarkPly)
    (h : |(s.marks.get p).trend| ≤ 16 * ((s.plies.get p).t : Int) →
      |(f (s.marks.get p)).trend| ≤ 16 * ((s.plies.get p).t : Int)) : Turn s (s.updMark p f) := by
  refine turn_marks _ _ (fun q hq => ?_)
  simp only [PerPly.get_set]
  split
  · subst_vars; exact h hq
  · exact hq

/-- A change of a ply's Mark Unit state that keeps its trend. -/
theorem State.updMark_turn' (s : State) (p : Ply) (f : MarkPly → MarkPly) (h : ∀ m, (f m).trend = m.trend) :
    Turn s (s.updMark p f) := s.updMark_turn p f (fun hb => by rw [h]; exact hb)

theorem State.updDriver_turn (s : State) (d : Driver) (f : DriverRec → DriverRec)
    (h : (s.drivers.get d).OrdersOk → (f (s.drivers.get d)).OrdersOk) : Turn s (s.updDriver d f) := by
  refine turn_drivers _ _ (fun q hq => ?_)
  simp only [PerDriver.get_set]
  split
  · subst_vars; exact h hq
  · exact hq

theorem State.countDriver_turn (s : State) (d : Driver) (f : DriverCounts → DriverCounts) :
    Turn s (s.countDriver d f) := s.updDriver_turn d _ id

theorem State.updReader_turn (s : State) (p : Ply) (f : ReaderPly → ReaderPly) : Turn s (s.updReader p f) :=
  turn_readers _ _

theorem State.countRead_turn (s : State) (p : Ply) (f : ReadCounts → ReadCounts) : Turn s (s.countRead p f) :=
  turn_readers _ _

/-! ## Jobs -/

/-- A change of records that keeps ids and states keeps the table as it must be. -/
theorem JobsOk.map {js : List Job} (f : Job → Job) (hi : ∀ j, (f j).id = j.id) (hs : ∀ j, (f j).state = j.state)
    (h : JobsOk js) : JobsOk (js.map f) := by
  refine ⟨by simpa using h.1, ?_, ?_⟩
  · rw [List.map_map, show Job.id ∘ f = Job.id from funext hi]; exact h.2.1
  · rw [List.filter_map, List.length_map,
      show (fun j => decide (j.state = .running)) ∘ f = fun j : Job => decide (j.state = .running) from
        funext fun j => by simp [hs]]
    exact h.2.2

/-- A change of records that keeps ids and makes none RUNNING keeps the table as it must be. -/
theorem JobsOk.map_leaving {js : List Job} (f : Job → Job) (hi : ∀ j, (f j).id = j.id)
    (hs : ∀ j, (f j).state = .running → j.state = .running) (h : JobsOk js) : JobsOk (js.map f) := by
  refine ⟨by simpa using h.1, ?_, ?_⟩
  · rw [List.map_map, show Job.id ∘ f = Job.id from funext hi]; exact h.2.1
  · rw [List.filter_map, List.length_map]
    refine le_trans (List.Sublist.length_le (List.monotone_filter_right js (fun j hj => ?_))) h.2.2
    simp only [Function.comp, decide_eq_true_eq] at hj ⊢
    exact hs j hj

theorem State.updJob_turn (s : State) (id : Nat) (f : Job → Job) (hi : ∀ j, (f j).id = j.id)
    (hs : ∀ j, (f j).state = .running → j.state = .running) : Turn s (s.updJob id f) :=
  turn_jobs _ _ (fun h => h.map_leaving _ (fun j => by split <;> simp [hi])
    (fun j => by split <;> simp_all))

theorem State.updTallies_turn (s : State) (id : Nat) (f : JobTallies → JobTallies) : Turn s (s.updTallies id f) :=
  s.updJob_turn id _ (fun _ => rfl) (fun _ h => h)

/-! ## Rows -/

@[simp] theorem LaneRec.addCause_numbered (l : LaneRec) (c : VoidCause) : (l.addCause c).isNumbered = l.isNumbered := by
  unfold LaneRec.addCause; split <;> rfl

@[simp] theorem LaneRec.addCauses_numbered (l : LaneRec) (cs : CauseSet) :
    (l.addCauses cs).isNumbered = l.isNumbered := by unfold LaneRec.addCauses; split <;> rfl

theorem countNumbered_map (f : LaneRec → LaneRec) (h : ∀ l, (f l).isNumbered = l.isNumbered) (ls : List LaneRec) :
    countNumbered (ls.map f) = countNumbered ls := by
  unfold countNumbered
  rw [List.filter_map, List.length_map, show LaneRec.isNumbered ∘ f = LaneRec.isNumbered from funext h]

theorem countNumbered_cons (l : LaneRec) (ls : List LaneRec) :
    countNumbered (l :: ls) = (if l.isNumbered then 1 else 0) + countNumbered ls := by
  unfold countNumbered
  rw [List.filter_cons]
  split <;> simp [Nat.add_comm]

theorem countNumbered_mapIdx (f : Nat → LaneRec → LaneRec) (h : ∀ i l, (f i l).isNumbered = l.isNumbered)
    (ls : List LaneRec) : countNumbered (ls.mapIdx f) = countNumbered ls := by
  induction ls generalizing f with
  | nil => rfl
  | cons l ls ih =>
    rw [List.mapIdx_cons, countNumbered_cons, countNumbered_cons, h, ih (fun i => f (i + 1)) (fun i => h (i + 1))]

@[simp] theorem Row.addCause_numbered (r : Row) (c : VoidCause) : (r.addCause c).numbered = r.numbered :=
  countNumbered_map _ (fun l => l.addCause_numbered c) _

@[simp] theorem Row.addCauseAt_numbered (r : Row) (c : VoidCause) (ns : List Nat) :
    (r.addCauseAt c ns).numbered = r.numbered :=
  countNumbered_mapIdx _ (fun i l => by split <;> simp) _

@[simp] theorem Row.updPly_numbered (r : Row) (p : Ply) (f : PlyRec → PlyRec) :
    (r.updPly p f).numbered = r.numbered := rfl

theorem inFlightOfRows_map (f : Row → Row) (h : ∀ r, (f r).numbered ≤ r.numbered) (rs : List Row) :
    inFlightOfRows (rs.map f) ≤ inFlightOfRows rs := by
  induction rs with
  | nil => exact Nat.le_refl _
  | cons r rs ih =>
    have := h r
    simp only [inFlightOfRows, List.map_cons, List.sum_cons] at ih ⊢
    omega

theorem inFlightOfRows_filter (f : Row → Bool) (rs : List Row) :
    inFlightOfRows (rs.filter f) ≤ inFlightOfRows rs := by
  induction rs with
  | nil => exact Nat.le_refl _
  | cons r rs ih =>
    simp only [inFlightOfRows, List.filter_cons] at ih ⊢
    split <;> simp only [List.map_cons, List.sum_cons] <;> omega

/-- A change of rows, one by one, that numbers no more lanes. -/
theorem State.mapRows_turn (s : State) (f : Row → Row) (h : ∀ r, (f r).numbered ≤ r.numbered) :
    Turn s (s.setRows (s.pipe.rows.map f)) :=
  turn_pipe _ _ (fun hx => .inl (fun h0 => hx (by simp [h0]))) (inFlightOfRows_map f h _)

theorem State.updRow_turn (s : State) (k : Nat) (f : Row → Row) (h : ∀ r, (f r).numbered ≤ r.numbered) :
    Turn s (s.updRow k f) := s.mapRows_turn _ (fun r => by split <;> simp [h])

theorem State.updOpenRow_turn (s : State) (k : Nat) (f : Row → Row) (h : ∀ r, (f r).numbered ≤ r.numbered) :
    Turn s (s.updOpenRow k f) := s.updRow_turn k _ (fun r => by split <;> simp [h])

theorem State.filterRows_turn (s : State) (f : Row → Bool) : Turn s (s.setRows (s.pipe.rows.filter f)) :=
  turn_pipe _ _ (fun hx => .inl (fun h0 => hx (by simp [h0]))) (inFlightOfRows_filter f _)

/-! ## Choices and the head link -/

theorem State.choose_turn (s : State) (n : Nat) : Turn s (s.choose n).2 := by
  unfold State.choose
  split
  · exact .refl s
  · exact turn_freeIndex _ _

theorem State.sendHead_turn (s : State) (m : HeadMessage) : Turn s (s.sendHead m) := turn_headLink _ _

theorem State.syncAll_turn (s : State) : Turn s s.syncAll :=
  ((turn_headLink _ _).trans (turn_headLink _ _)).trans (turn_headLink _ _)

end Sys2Proof.Machine
end

