-- ==== Sys2Proof/Laws/TurnsStore.lean ====
section
/-! SUPPORT. The operations of the Web Tracker and of the Audit Store as turns. -/

namespace Sys2Proof.Machine

/-! ## Web Tracker -/

theorem State.scheduleAt_turn (s : State) (pos : Pos) (ev : PosEvent) : Turn s (s.scheduleAt pos ev) :=
  turn_trk' _ _ rfl rfl rfl

theorem State.unschedule_turn (s : State) (f : PosEvent → Bool) : Turn s (s.unschedule f) :=
  turn_trk' _ _ rfl rfl rfl

theorem State.fire_turn (s : State) (ev : PosEvent) (h : Pos → State → State) (hh : ∀ pos u, Turn u (h pos u)) :
    Turn s (s.fire ev h) := by
  unfold State.fire
  split
  · exact .refl s
  · refine .trans ?_ (hh _ _)
    exact turn_trk' _ _ rfl rfl rfl

theorem State.offerCapture_turn (s : State) (p : Ply) (rec : CaptureRecord) : Turn s (s.offerCapture p rec) := by
  unfold State.offerCapture
  exact .ite _ (fun _ => turn_trk' _ _ rfl rfl rfl) (fun _ => .refl s)

theorem bound_zero (t : Nat) : |(0 : Int)| ≤ 16 * (t : Int) := by simp

theorem State.openEpoch_turn (s : State) (plan : Plan) : Turn s (s.openEpoch plan) := by
  unfold State.openEpoch
  split
  · exact .refl s
  · dsimp only
    refine .trans ?_ (turn_pipe' _ _ rfl)
    refine .trans ?_ (turn_foldl _ (fun u p => u.updMark_turn p _ (fun hb => ?_)) _ _)
    · exact turn_trk _ _ rfl rfl (fun h => by simp at h)
    · split
      · exact bound_zero _
      · exact hb

theorem State.clearReserve_turn (s : State) : Turn s s.clearReserve := by
  unfold State.clearReserve
  refine .ite _ (fun _ => .trans ?_ (State.endLevel_turn _ _)) (fun _ => .refl s)
  exact turn_pipe' _ _ rfl

theorem State.marksOff_turn (s : State) : Turn s s.marksOff := by
  unfold State.marksOff
  refine .trans (.trans (s.unschedule_turn _) (turn_marks _ _ (fun p hp => ?_)))
    (turn_foldl _ (fun u p => u.endLevel_turn _) _ _)
  simpa [MarkPly.off] using hp

theorem State.zonesOff_turn (s : State) : Turn s s.zonesOff :=
  (s.unschedule_turn _).trans (turn_zones _ _ (fun _ p => by simp))

theorem State.returnToFree_turn (s : State) (h : s.pipe.rows = []) : Turn s s.returnToFree := by
  unfold State.returnToFree
  dsimp only
  refine .trans ?_ (.ite _ (fun _ => .refl _) (fun _ => State.clearReserve_turn _))
  refine .trans ?_ (turn_pipe' _ _ rfl)
  refine .trans ?_ (State.zonesOff_turn _)
  refine .trans ?_ (State.marksOff_turn _)
  exact turn_trk s _ rfl rfl (fun _ => .inr h)

theorem State.testFree_turn (s : State) : Turn s s.testFree := by
  unfold State.testFree
  refine .ite _ (fun h => s.returnToFree_turn ?_) (fun _ => .refl s)
  simp only [Bool.and_eq_true, List.isEmpty_iff] at h
  exact h.2

theorem State.testExcursion_turn (s : State) : Turn s s.testExcursion := by
  unfold State.testExcursion
  refine .ite _ (fun _ => ?_) (fun _ => .refl s)
  dsimp only
  refine .trans ?_ (State.latchEvent_turn _ _)
  refine .trans ?_ (State.mapRows_turn _ _ (fun r => Nat.le_of_eq (r.addCause_numbered _)))
  exact turn_trk' s _ rfl rfl rfl

/-! ## Make-up queue -/

theorem QueueOk.filter {q : List MakeUpEntry} (f : MakeUpEntry → Bool) (h : QueueOk q) : QueueOk (q.filter f) :=
  ⟨le_trans (List.length_filter_le _ _) h.1, h.2.sublist (List.filter_sublist.map _)⟩

theorem QueueOk.map {q : List MakeUpEntry} (f : MakeUpEntry → MakeUpEntry) (hf : ∀ e, (f e).key = e.key)
    (h : QueueOk q) : QueueOk (q.map f) :=
  ⟨by simpa using h.1, by rw [List.map_map, show MakeUpEntry.key ∘ f = MakeUpEntry.key from funext hf]; exact h.2⟩

theorem QueueOk.append {q : List MakeUpEntry} (e : MakeUpEntry) (he : queueRefuses q e.job e.number = false)
    (h : QueueOk q) : QueueOk (q ++ [e]) := by
  obtain ⟨hl, hn⟩ := Bool.or_eq_false_iff.mp he
  have hl := of_decide_eq_false hl
  simp only [List.any_eq_false, Bool.and_eq_true, decide_eq_true_eq, not_and] at hn
  refine ⟨by simp only [queueCapacity] at hl; simp; omega, ?_⟩
  rw [List.map_append, List.nodup_append]
  refine ⟨h.2, by simp, ?_⟩
  intro a ha b hb
  simp only [List.map_cons, List.map_nil, List.mem_singleton] at hb
  obtain ⟨x, hx, rfl⟩ := List.mem_map.mp ha
  subst hb
  intro hk
  simp only [MakeUpEntry.key, Prod.mk.injEq] at hk
  exact hn x hx hk.1 hk.2

/-- The make-up step keeps the queue as it must be (R150, R151). -/
theorem makeUpQueue_ok (q : List MakeUpEntry) (job laneNo : Nat) (n : LaneNumber) (void : Bool) (h : QueueOk q) :
    QueueOk (makeUpQueue q job laneNo n void) := by
  unfold makeUpQueue
  split
  · split
    · exact h.map _ (fun e => by split <;> rfl)
    · exact h.filter _
  · split
    · rename_i hc
      simp only [Bool.and_eq_true, Bool.not_eq_true'] at hc
      exact h.append _ hc.2
    · exact h

/-! ## Void appends and retirement -/

theorem State.updRecord_turn (s : State) (id : Nat) (f : RecoveryRecord → RecoveryRecord) :
    Turn s (s.updRecord id f) := turn_audit _ _ (fun h => h) (by simp) (by simp [AuditStore.voidCount])

theorem State.raiseBoth_reserved (s : State) (c : Attention) : (s.raiseBoth c).reserved = s.reserved := by
  have h : ∀ (u : State) (p : Port), (u.raiseAt p c).reserved = u.reserved := by
    intro u p
    unfold State.raiseAt
    split
    · rfl
    · cases p <;> rfl
  unfold State.raiseBoth
  rw [h, h]

/-- A void lane appended: one entry more in the void list (R145, R147). -/
theorem State.appendVoid_moves (s : State) (r : Row) (owner : Port) (strict : Bool) (laneNo : Nat) (l : LaneRec)
    (n : LaneNumber) : Moves s (s.appendVoid r owner strict laneNo l n) ∧
      (s.appendVoid r owner strict laneNo l n).reserved = s.reserved + 1 := by
  have hm : ∀ (x : AuditStore), (x.queue = s.audit.queue ∨ x.queue = makeUpQueue s.audit.queue r.job laneNo n true) →
      x.records = s.audit.records → Moves s (s.setAudit x) := by
    intro x hq hr
    refine .single (.audit x (fun h => ?_) (fun h => by rw [hr]; exact h))
    rcases hq with hq | hq
    · rw [hq]; exact h
    · rw [hq]; exact makeUpQueue_ok _ _ _ _ _ h
  unfold State.appendVoid
  dsimp only
  split
  · constructor
    · refine .trans ?_ (State.raiseBoth_turn _ _).1
      refine hm _ ?_ rfl
      cases strict
      · exact .inl rfl
      · exact .inr rfl
    · rw [State.raiseBoth_reserved]
      simp [State.reserved, AuditStore.voidCount, State.inFlight]
      omega
  · constructor
    · refine hm _ ?_ rfl
      cases strict
      · exact .inl rfl
      · exact .inr rfl
    · simp [State.reserved, AuditStore.voidCount, State.inFlight]
      omega

/-- The tallies of a job and of the shift leave the reservation's count alone. -/
theorem State.tallied_reserved (s : State) (id : Nat) (f : JobTallies → JobTallies) (g : ShiftTallies → ShiftTallies) :
    ((s.updTallies id f).updShift g).reserved = s.reserved := rfl

theorem State.tallied_turn (s : State) (id : Nat) (f : JobTallies → JobTallies) (g : ShiftTallies → ShiftTallies) :
    Turn s ((s.updTallies id f).updShift g) := (s.updTallies_turn id f).trans (State.updShift_turn _ g)

theorem State.updRecord_reserved (s : State) (id : Nat) (f : RecoveryRecord → RecoveryRecord) :
    (s.updRecord id f).reserved = s.reserved := rfl

theorem State.disposeLane_moves (s : State) (r : Row) (owner : Port) (strict : Bool) (laneNo : Nat) (l : LaneRec) :
    Moves s (s.disposeLane r owner strict laneNo l) ∧
      (s.disposeLane r owner strict laneNo l).reserved ≤ s.reserved + (if l.isNumbered then 1 else 0) := by
  unfold State.disposeLane
  split
  · exact ⟨(s.tallied_turn _ _ _).1, by rw [State.tallied_reserved]; omega⟩
  · rename_i n hn
    have hl : l.isNumbered = true := by simp [LaneRec.isNumbered, hn]
    dsimp only
    split
    · constructor
      · refine .trans ?_ ((State.updRecord_turn _ _ _).trans (State.tallied_turn _ _ _ _)).1
        split
        · exact .single (.audit _ (makeUpQueue_ok _ _ _ _ _) (fun h => h))
        · exact .refl
      · rw [State.tallied_reserved, State.updRecord_reserved]
        split <;> simp [State.reserved, State.inFlight, AuditStore.voidCount]
    · obtain ⟨hm, hr⟩ := s.appendVoid_moves r owner strict laneNo l n
      exact ⟨hm.trans ((State.updRecord_turn _ _ _).trans (State.tallied_turn _ _ _ _)).1, by
        rw [State.tallied_reserved, State.updRecord_reserved, hr]⟩

theorem State.disposeLanes_moves (r : Row) (owner : Port) (strict : Bool) (ls : List LaneRec) :
    ∀ (s : State) (laneNo : Nat), Moves s (s.disposeLanes r owner strict laneNo ls) ∧
      (s.disposeLanes r owner strict laneNo ls).reserved ≤ s.reserved + countNumbered ls := by
  induction ls with
  | nil => intro s laneNo; exact ⟨.refl, Nat.le_add_right _ _⟩
  | cons l ls ih =>
    intro s laneNo
    obtain ⟨h1, h2⟩ := s.disposeLane_moves r owner strict laneNo l
    obtain ⟨h3, h4⟩ := ih (s.disposeLane r owner strict laneNo l) (laneNo + 1)
    refine ⟨h1.trans h3, ?_⟩
    rw [countNumbered_cons]
    simp only [State.disposeLanes]
    omega

/-- A row disposed of adds to the void list at most its numbered lanes (R88). -/
theorem State.disposeRow_moves (s : State) (r : Row) :
    Moves s (s.disposeRow r) ∧ (s.disposeRow r).reserved ≤ s.reserved + r.numbered := by
  unfold State.disposeRow
  dsimp only
  obtain ⟨h1, h2⟩ := State.disposeLanes_moves r (match s.job r.job with | some j => j.owner | none => .line)
    (match s.job r.job with | some j => decide (j.plan.accounting = .strict) | none => false) r.lanes s 1
  exact ⟨h1.trans ((State.updRecord_turn _ _ _).trans (State.tallied_turn _ _ _ _)).1, by
    rw [State.tallied_reserved, State.updRecord_reserved]; exact h2⟩

/-- What disposing of a row leaves alone. -/
theorem State.raiseAt_frame (s : State) (p : Port) (c : Attention) :
    (s.raiseAt p c).pipe = s.pipe ∧ (s.raiseAt p c).trk = s.trk ∧ (s.raiseAt p c).audit = s.audit ∧
      (s.raiseAt p c).straps = s.straps := by
  unfold State.raiseAt
  split
  · exact ⟨rfl, rfl, rfl, rfl⟩
  · cases p <;> exact ⟨rfl, rfl, rfl, rfl⟩

theorem State.raiseBoth_frame (s : State) (c : Attention) :
    (s.raiseBoth c).pipe = s.pipe ∧ (s.raiseBoth c).trk = s.trk ∧ (s.raiseBoth c).audit = s.audit ∧
      (s.raiseBoth c).straps = s.straps := by
  have h1 := s.raiseAt_frame .line c
  have h2 := (s.raiseAt .line c).raiseAt_frame .panel c
  unfold State.raiseBoth
  exact ⟨h2.1.trans h1.1, h2.2.1.trans h1.2.1, h2.2.2.1.trans h1.2.2.1, h2.2.2.2.trans h1.2.2.2⟩

theorem State.appendVoid_pipe (s : State) (r : Row) (owner : Port) (strict : Bool) (laneNo : Nat) (l : LaneRec)
    (n : LaneNumber) : (s.appendVoid r owner strict laneNo l n).pipe = s.pipe := by
  unfold State.appendVoid
  dsimp only
  split
  · rw [(State.raiseBoth_frame _ _).1]; rfl
  · rfl

theorem State.disposeLane_pipe (s : State) (r : Row) (owner : Port) (strict : Bool) (laneNo : Nat) (l : LaneRec) :
    (s.disposeLane r owner strict laneNo l).pipe = s.pipe := by
  unfold State.disposeLane
  split
  · rfl
  · dsimp only
    split
    · split <;> rfl
    · exact s.appendVoid_pipe r owner strict laneNo l _

theorem State.disposeLanes_pipe (r : Row) (owner : Port) (strict : Bool) (ls : List LaneRec) :
    ∀ (s : State) (laneNo : Nat), (s.disposeLanes r owner strict laneNo ls).pipe = s.pipe := by
  induction ls with
  | nil => intro s laneNo; rfl
  | cons l ls ih =>
    intro s laneNo
    simp only [State.disposeLanes]
    rw [ih, s.disposeLane_pipe]

theorem State.disposeRow_pipe (s : State) (r : Row) : (s.disposeRow r).pipe = s.pipe := by
  unfold State.disposeRow
  exact State.disposeLanes_pipe _ _ _ _ s 1

/-! ## Records and appends -/

theorem State.openRecord_turn (s : State) (j : Job) (h : s.audit.records.length < 4) : Turn s (s.openRecord j) :=
  turn_audit _ _ id (fun _ => by simp; omega) (Nat.le_refl _)

theorem State.removeRecord_turn (s : State) (id : Nat) : Turn s (s.removeRecord id) :=
  turn_audit _ _ (fun h => h) (fun h => le_trans (List.length_filter_le _ _) h) (Nat.le_refl _)

theorem State.completeAppend_turn (s : State) : Turn s s.completeAppend := by
  unfold State.completeAppend
  split
  · exact .refl s
  · rename_i v rest h
    have ht : Turn s (s.setAudit { s.audit with voids := s.audit.voids ++ [v], inFlight := rest }) :=
      turn_audit _ _ (fun h => h) (fun h => h) (by simp [AuditStore.voidCount, h]; omega)
    dsimp only
    exact .ite _ (fun _ => ht.trans (State.raiseBoth_turn _ _)) (fun _ => ht)

end Sys2Proof.Machine
end

