-- ==== Sys2Proof/Laws/TurnsJobs.lean ====
section
/-! SUPPORT. The operations of the Number Generator and of the Job Table as turns. -/

namespace Sys2Proof.Machine

/-! ## Number Generator -/

theorem State.countDraw_turn (s : State) (id n : Nat) : Turn s (s.countDraw id n) :=
  (s.updTallies_turn _ _).trans (State.updRecord_turn _ _ _)

theorem State.completionTest_turn (s : State) (j : Job) : Turn s (s.completionTest j) := by
  unfold State.completionTest
  exact .ite _ (fun _ => turn_gen _ _) (fun _ => .refl s)

theorem State.feedReports_turn (s : State) (before : Nat) (starved : Bool) : Turn s (s.feedReports before starved) := by
  unfold State.feedReports
  dsimp only
  refine .trans ?_ (.ite _ (fun _ => State.latchEvent_turn _ _) (fun _ => .refl _))
  exact .ite _ (fun _ => State.raiseBoth_turn _ _) (fun _ => .refl s)

theorem issueEntries_key (job : Nat) : ∀ (q : List MakeUpEntry) (n : Nat),
    (issueEntries job n q).map MakeUpEntry.key = q.map MakeUpEntry.key := by
  intro q
  induction q with
  | nil => intro n; cases n <;> rfl
  | cons e q ih =>
    intro n
    cases n with
    | zero => rfl
    | succ n =>
      simp only [issueEntries]
      split <;> simp [ih, MakeUpEntry.key]

theorem QueueOk.of_keys {q q' : List MakeUpEntry} (h : q'.map MakeUpEntry.key = q.map MakeUpEntry.key)
    (hq : QueueOk q) : QueueOk q' := by
  refine ⟨?_, h ▸ hq.2⟩
  have := congrArg List.length h
  simp only [List.length_map] at this
  rw [this]; exact hq.1

theorem State.drawMakeUp_turn (s : State) (j : Job) : Turn s (s.drawMakeUp j).2 := by
  unfold State.drawMakeUp
  dsimp only
  refine .ite _ (fun _ => .refl s) (fun _ => ?_)
  refine .trans ?_ (State.countDraw_turn _ _ _)
  refine .trans ?_ (State.updTallies_turn _ _ _)
  exact turn_audit _ _ (fun h => h.of_keys (issueEntries_key _ _ _)) (fun h => h) (Nat.le_refl _)

theorem State.drawSequence_turn (s : State) (j : Job) : Turn s (s.drawSequence j).2 := by
  unfold State.drawSequence
  dsimp only
  refine .trans ?_ (State.completionTest_turn _ _)
  refine .trans ?_ (State.countDraw_turn _ _ _)
  exact turn_gen _ _

theorem State.drawList_turn (s : State) (j : Job) : Turn s (s.drawList j).2 := by
  unfold State.drawList
  dsimp only
  have h : ∀ u : State, Turn u (if s.drawQuestion j = 0 then u else u.completionTest j) :=
    fun u => .ite _ (fun _ => .refl u) (fun _ => State.completionTest_turn _ _)
  refine .trans ?_ (h _)
  refine .trans ?_ (State.feedReports_turn _ _ _)
  refine .trans (turn_gen s _) (.ite _ (fun _ => .refl _) (fun _ => State.countDraw_turn _ _ _))

theorem State.draw_turn (s : State) (j : Job) : Turn s (s.draw j).2 := by
  unfold State.draw
  split
  · exact s.drawMakeUp_turn j
  · split
    · exact .refl s
    · split
      · split
        · exact .refl s
        · exact s.drawSequence_turn j
      · exact s.drawList_turn j

theorem countNumbered_blank (n : Nat) : countNumbered (List.replicate n blankLane) = 0 := by
  simp [countNumbered, blankLane, LaneRec.isNumbered]

theorem countNumbered_append (a b : List LaneRec) : countNumbered (a ++ b) = countNumbered a + countNumbered b := by
  simp [countNumbered]

theorem countNumbered_le (ls : List LaneRec) : countNumbered ls ≤ ls.length := List.length_filter_le _ _

theorem countNumbered_pad (lanes : Nat) (given : List LaneRec) :
    countNumbered (padLanes lanes given) ≤ given.length := by
  unfold padLanes
  rw [countNumbered_append, countNumbered_blank]
  exact countNumbered_le given

/-- A sequence draw numbers the lanes the draw question counted (R58, R59). -/
theorem Plan.sequenceLanes_count (p : Plan) (r : Nat) :
    countNumbered (p.sequenceLanes r) =
      ((List.range p.lanes).filter (fun l => (p.setIndex r l).isSome)).length := by
  unfold countNumbered Plan.sequenceLanes
  rw [List.filter_map, List.length_map]
  congr 1
  refine List.filter_congr (fun l _ => ?_)
  simp only [Function.comp]
  cases h : p.setIndex r l <;> rfl

/-- A draw numbers no more lanes than the draw question said (R58). -/
theorem State.draw_count (s : State) (j : Job) : countNumbered (s.draw j).1.lanes ≤ s.drawQuestion j := by
  unfold State.draw
  split
  · unfold State.drawMakeUp
    dsimp only
    refine le_trans (countNumbered_pad _ _) ?_
    simp only [List.length_map, List.length_take]
    exact Nat.min_le_left _ _
  · rename_i hp
    split
    · simp [State.drawNone, countNumbered_blank]
    · rename_i hc
      split
      · rename_i hs
        split
        · simp [State.drawNone, countNumbered_blank]
        · have hq : s.drawQuestion j =
              ((List.range j.plan.lanes).filter (fun l => (j.plan.setIndex s.gen.r l).isSome)).length := by
            simp [State.drawQuestion, hp, hc, hs]
          rw [hq]
          exact Nat.le_of_eq (j.plan.sequenceLanes_count s.gen.r)
      · unfold State.drawList
        dsimp only
        refine le_trans (countNumbered_pad _ _) ?_
        simp only [List.length_map, List.length_take]
        exact Nat.min_le_left _ _

theorem State.takeBack_turn (s : State) (r : Row) : Turn s (s.takeBack r) := by
  unfold State.takeBack
  dsimp only
  refine .trans ?_ (State.updRecord_turn _ _ _)
  refine .trans ?_ (.ite _ (fun _ => turn_gen _ _) (fun _ => .refl _))
  exact turn_audit _ _ (fun h => h.map _ (fun e => by split <;> rfl)) (fun h => h) (Nat.le_refl _)

/-! ## Job Table -/

theorem State.emptyFeedOf_turn (s : State) (id : Nat) : Turn s (s.emptyFeedOf id) := by
  unfold State.emptyFeedOf
  split
  · exact .ite _ (fun _ => turn_gen _ _) (fun _ => .refl s)
  · exact .refl s

theorem State.handedBack_turn (s : State) (id : Nat) : Turn s (s.handedBack id) := by
  refine .trans ?_ (State.emptyFeedOf_turn _ _)
  exact s.updJob_turn id _ (fun _ => rfl) (fun _ h => h)

theorem State.formEnd_turn (s : State) (id : Nat) (reason : EndReason) : Turn s (s.formEnd id reason) :=
  s.updJob_turn id _ (fun _ => rfl) (fun _ h => by simp at h)

theorem State.endJob_turn (s : State) (id : Nat) : Turn s (s.endJob id) := by
  unfold State.endJob
  split
  · exact .refl s
  · exact ((s.formEnd_turn _ _).trans (State.removeRecord_turn _ _)).trans (State.raiseAt_turn _ _ _)

theorem nodup_filter_id (js : List Job) (h : (js.map Job.id).Nodup) (i : Nat) :
    (js.filter (fun j => decide (j.id = i))).length ≤ 1 := by
  induction js with
  | nil => simp
  | cons j js ih =>
    rw [List.map_cons, List.nodup_cons] at h
    rw [List.filter_cons]
    split
    · rename_i hj
      have hj : j.id = i := of_decide_eq_true hj
      have : js.filter (fun x => decide (x.id = i)) = [] := by
        rw [List.filter_eq_nil_iff]
        intro x hx he
        exact h.1 (List.mem_map.mpr ⟨x, hx, by rw [of_decide_eq_true he, hj]⟩)
      simp [this]
    · exact ih h.2

/-- With no job RUNNING, the record of one id made RUNNING leaves the table as it must be (R125). -/
theorem JobsOk.start {js : List Job} (i : Nat) (hr : ∀ j ∈ js, j.state ≠ .running) (h : JobsOk js) :
    JobsOk (js.map (fun j => if j.id = i then { j with state := .running } else j)) := by
  refine ⟨by simpa using h.1, ?_, ?_⟩
  · rw [List.map_map,
      show Job.id ∘ (fun j : Job => if j.id = i then { j with state := .running } else j) = Job.id from
        funext fun j => by simp only [Function.comp]; split <;> rfl]
    exact h.2.1
  · rw [List.filter_map, List.length_map]
    refine le_trans (Nat.le_of_eq ?_) (nodup_filter_id js h.2.1 i)
    congr 1
    refine List.filter_congr (fun j hj => ?_)
    have := hr j hj
    by_cases hi : j.id = i <;> simp [hi, this]

theorem State.startRunning_turn (s : State) (j : Job) (hr : s.running = none) (hl : s.audit.records.length < 4) :
    Turn s (s.startRunning j) := by
  unfold State.startRunning
  refine .trans ?_ (State.openRecord_turn _ _ hl)
  refine .trans ?_ (turn_gen _ _)
  refine turn_jobs _ _ (fun h => h.start _ (fun x hx => ?_))
  simpa using (List.find?_eq_none.mp hr) x hx

theorem State.changeover_turn (s : State) : Turn s s.changeover :=
  (s.raiseBoth_turn _).trans (State.latchEvent_turn _ _)

theorem State.followOn_turn (s : State) (before : Plan) : Turn s (s.followOn before) := by
  unfold State.followOn
  split
  · rename_i h
    split
    · exact .refl s
    · split
      · split
        · rename_i hc
          have hl := of_decide_eq_true (Bool.and_eq_true_iff.mp hc).2
          exact s.startRunning_turn _ h.2 hl
        · exact s.changeover_turn
      · exact .refl s
  · exact .refl s

theorem State.windowsOff_turn (s : State) : Turn s s.windowsOff := s.unschedule_turn _

theorem State.afterRunning_turn (s : State) (before : Plan) : Turn s (s.afterRunning before) := by
  unfold State.afterRunning
  dsimp only
  refine .trans (s.followOn_turn before) (.ite _ (fun _ => ?_) (fun _ => .refl _))
  exact (State.windowsOff_turn _).trans (State.testFree_turn _)

theorem State.drainJob_turn (s : State) (id : Nat) (reason : EndReason) : Turn s (s.drainJob id reason) := by
  unfold State.drainJob
  split
  · exact .refl s
  · split
    · dsimp only
      refine .trans ?_ (.ite _ (fun _ => .refl _) (fun _ => State.endJob_turn _ _))
      refine .trans ?_ (State.afterRunning_turn _ _)
      exact (s.handedBack_turn id).trans (State.updJob_turn _ _ _ (fun _ => rfl) (fun _ h => by simp at h))
    · exact s.updJob_turn _ _ (fun _ => rfl) (fun _ h => h)

theorem State.testDrain_turn (s : State) (id : Nat) : Turn s (s.testDrain id) := by
  unfold State.testDrain
  split
  · exact .refl s
  · exact .ite _ (fun _ => s.drainJob_turn _ _) (fun _ => .refl s)

theorem State.cancelLoaded_turn (s : State) (id : Nat) : Turn s (s.cancelLoaded id) := by
  unfold State.cancelLoaded
  dsimp only
  refine .trans ?_ (State.formEnd_turn _ _ _)
  refine .trans ?_ (State.emptyFeedOf_turn _ _)
  exact s.updJob_turn id _ (fun _ => rfl) (fun _ h => h)

theorem State.resetJob_turn (s : State) (j : Job) : Turn s (s.resetJob j) := by
  unfold State.resetJob
  split
  · exact ((s.handedBack_turn _).trans (State.formEnd_turn _ _ _)).trans (State.removeRecord_turn _ _)
  · exact (s.formEnd_turn _ _).trans (State.removeRecord_turn _ _)
  · exact s.cancelLoaded_turn _
  · exact .refl s

theorem State.resetJobs_turn (s : State) : Turn s s.resetJobs :=
  (turn_foldl _ State.resetJob_turn _ _).trans (turn_gen _ _)

end Sys2Proof.Machine
end

