-- ==== Sys2Proof/Laws/TurnsHead.lean ====
section
/-! SUPPORT. The operations of the Imprint Unit and of the monitors as turns. -/

namespace Sys2Proof.Machine

/-! ## Send requests -/

theorem State.withdrawSend_turn (s : State) (p : Ply) (k : Nat) : Turn s (s.withdrawSend p k) :=
  (s.unschedule_turn _).trans (turn_requests _ _)

theorem State.withdrawSends_turn (s : State) (k : Nat) : Turn s (s.withdrawSends k) :=
  (s.unschedule_turn _).trans (turn_requests _ _)

theorem State.withdrawAllSends_turn (s : State) : Turn s s.withdrawAllSends :=
  (s.unschedule_turn _).trans (turn_requests _ _)

/-! ## Tags (R104) -/

theorem tagFree_iff (orders : List Order) (t : Byte) : tagFree orders t = true ↔ t ∉ orders.map Order.tag := by
  simp only [tagFree, List.all_eq_true, decide_eq_true_eq, List.mem_map, not_exists, not_and]

/-- With fewer than four orders outstanding, the tag given is held by none of them (R104). -/
theorem freeTag_free (orders : List Order) (h : orders.length < 4) (t : Byte) :
    freeTag orders 4 t ∉ orders.map Order.tag := by
  by_contra hc
  have h0 : ∀ u, tagFree orders u = false → u ∈ orders.map Order.tag := by
    intro u hu
    by_contra hn
    rw [(tagFree_iff orders u).mpr hn] at hu
    cases hu
  have key : ∀ u, tagFree orders u = true → freeTag orders 4 t ≠ u :=
    fun u hu he => (tagFree_iff orders u).mp hu (he ▸ hc)
  have e0 : tagFree orders t = false := by
    by_contra hn
    have hn := Bool.eq_true_of_not_eq_false hn
    exact key _ hn (by simp only [freeTag, hn, if_true])
  have e1 : tagFree orders (t + 1) = false := by
    by_contra hn
    have hn := Bool.eq_true_of_not_eq_false hn
    exact key _ hn (by simp only [freeTag, e0, hn, Bool.false_eq_true, if_true, if_false])
  have e2 : tagFree orders (t + 1 + 1) = false := by
    by_contra hn
    have hn := Bool.eq_true_of_not_eq_false hn
    exact key _ hn (by simp only [freeTag, e0, e1, hn, Bool.false_eq_true, if_true, if_false])
  have e3 : tagFree orders (t + 1 + 1 + 1) = false := by
    by_contra hn
    have hn := Bool.eq_true_of_not_eq_false hn
    exact key _ hn (by simp only [freeTag, e0, e1, e2, hn, Bool.false_eq_true, if_true, if_false])
  have hsub : ({t, t + 1, t + 1 + 1, t + 1 + 1 + 1} : Finset Byte) ⊆ (orders.map Order.tag).toFinset := by
    intro u hu
    simp only [Finset.mem_insert, Finset.mem_singleton] at hu
    rw [List.mem_toFinset]
    rcases hu with rfl | rfl | rfl | rfl
    · exact h0 _ e0
    · exact h0 _ e1
    · exact h0 _ e2
    · exact h0 _ e3
  have hcard : ({t, t + 1, t + 1 + 1, t + 1 + 1 + 1} : Finset Byte).card = 4 := by
    rw [Finset.card_insert_of_notMem, Finset.card_insert_of_notMem, Finset.card_insert_of_notMem,
      Finset.card_singleton]
    · simp only [Finset.mem_singleton]; bv_omega
    · simp only [Finset.mem_insert, Finset.mem_singleton, not_or]; constructor <;> bv_omega
    · simp only [Finset.mem_insert, Finset.mem_singleton, not_or]; refine ⟨?_, ?_, ?_⟩ <;> bv_omega
  have h1 := Finset.card_le_card hsub
  have h2 := (orders.map Order.tag).toFinset_card_le
  rw [List.length_map] at h2
  omega

/-! ## Drivers -/

theorem DriverRec.sent_ordersOk (d : DriverRec) (o : ImprintOrder) (hl : d.orders.length < 4)
    (ht : o.tag ∉ d.orders.map Order.tag) (h : d.OrdersOk) : (d.sent o).OrdersOk := by
  refine ⟨by simp [DriverRec.sent]; omega, ?_, h.2.2⟩
  simp only [DriverRec.sent, List.map_append, List.map_cons, List.map_nil]
  rw [List.nodup_append]
  refine ⟨h.2.1, by simp, ?_⟩
  intro a ha b hb
  rw [List.mem_singleton] at hb
  rintro rfl
  exact ht (hb ▸ ha)

theorem DriverRec.erase_ordersOk (d : DriverRec) (o : Order) (h : d.OrdersOk) :
    DriverRec.OrdersOk { d with orders := d.orders.erase o } :=
  ⟨le_trans (List.erase_sublist.length_le) h.1, h.2.1.sublist (List.erase_sublist.map _), h.2.2⟩

theorem DriverRec.abandon_ordersOk (d : DriverRec) (h : d.noReply ≤ 3) : d.abandon.OrdersOk :=
  ⟨by simp [DriverRec.abandon], by simp [DriverRec.abandon], h⟩

theorem DriverRec.unanswered_ordersOk (d : DriverRec) (o : Order) (h : d.OrdersOk) : (d.unanswered o).OrdersOk := by
  have hm : min (d.noReply + 1) 3 ≤ 3 := Nat.min_le_right _ _
  unfold DriverRec.unanswered
  dsimp only
  split
  · exact ⟨by simp [DriverRec.abandon], by simp [DriverRec.abandon], hm⟩
  · exact ⟨(d.erase_ordersOk o h).1, (d.erase_ordersOk o h).2.1, hm⟩

theorem State.abandonAll_turn (s : State) : Turn s s.abandonAll :=
  turn_drivers _ _ (fun d h => by rw [PerDriver.get_map]; exact DriverRec.abandon_ordersOk _ h.2.2)

/-! ## The send position -/

theorem State.takeSend_turn (s : State) (q : SendRequest) : Turn s (s.takeSend q) := by
  unfold State.takeSend
  dsimp only
  split
  · refine .trans ?_ (State.updOpenRow_turn _ _ _ (fun r => by simp))
    exact .trans (turn_requests s _) (State.countDriver_turn _ _ _)
  · split
    · refine .trans ?_ (State.updOpenRow_turn _ _ _ (fun r => by simp))
      exact .trans (turn_requests s _) (State.countDriver_turn _ _ _)
    · rename_i h
      refine .trans ?_ (State.updOpenRow_turn _ _ _ (fun r => by simp))
      refine .trans ?_ (State.sendHead_turn _ _)
      have hl := Nat.lt_of_not_le h
      refine .trans (turn_requests s _) (State.updDriver_turn _ _ _ (fun hd => ?_))
      exact DriverRec.sent_ordersOk _ _ hl (freeTag_free _ hl _) hd

theorem State.fireSend_turn (s : State) (p : Ply) (k : Nat) : Turn s (s.fireSend p k) :=
  s.fire_turn _ _ (fun _ u => by
    split
    · exact u.takeSend_turn _
    · exact .refl u)

theorem State.handSend_turn (s : State) (q : SendRequest) : Turn s (s.handSend q) :=
  ((turn_requests s _).trans (State.scheduleAt_turn _ _ _)).trans (State.fireSend_turn _ _ _)

/-! ## Replies -/

theorem State.strayReply_turn (s : State) (d : Driver) : Turn s (s.strayReply d) :=
  (s.countDriver_turn _ _).trans (State.updShift_turn _ _)

theorem State.takeReply_turn (s : State) (d : Driver) (m : LinkReply) (onDriver : DriverRec → DriverRec)
    (onRow : Ply → Row → Row) (hd : ∀ x, x.OrdersOk → (onDriver x).OrdersOk)
    (hr : ∀ p r, (onRow p r).numbered ≤ r.numbered) : Turn s (s.takeReply d m onDriver onRow) := by
  unfold State.takeReply
  split
  · exact s.strayReply_turn d
  · refine .ite _ (fun _ => .trans ?_ (State.updOpenRow_turn _ _ _ (hr _))) (fun _ => s.strayReply_turn d)
    exact s.updDriver_turn _ _ (fun h => hd _ (DriverRec.erase_ordersOk _ _ h))

theorem Row.fault_numbered (r : Row) (p : Ply) (lanes : List Nat) : (r.fault p lanes).numbered = r.numbered :=
  (Row.addCauseAt_numbered _ _ _).trans (Row.updPly_numbered _ _ _)

theorem State.orderUnanswered_turn (s : State) (p : Ply) (k : Nat) : Turn s (s.orderUnanswered p k) := by
  unfold State.orderUnanswered
  split
  · exact .refl s
  · rename_i o _
    dsimp only
    have h := s.updDriver_turn p.driver (fun d => d.unanswered o) (DriverRec.unanswered_ordersOk _ _)
    exact .ite _ (fun _ => h.trans (State.startLevel_turn _ _)) (fun _ => h)

/-! ## Monitors (R164, R165) -/

/-- A sample leaves a monitor's counter below its level (R165). -/
theorem Monitor.sampled_below (m : Monitor) (n : Nat) (h : m.Below) : (m.sampled n).Below := by
  unfold Monitor.Below at h ⊢
  unfold Monitor.sampled
  split
  · exact h
  · rename_i hs
    dsimp only
    split
    · exact Nat.lt_of_le_of_lt (Nat.zero_le _) h
    · rename_i ha
      simp only [Monitor.alarmed, Bool.and_eq_true, decide_eq_true_eq, not_and] at ha
      rcases Nat.eq_zero_or_pos (m.addition n) with h0 | h0
      · unfold Monitor.accumulated
        split <;> omega
      · exact Nat.lt_of_not_le (ha ⟨hs, h0⟩)

theorem State.sampleMonitor_turn (s : State) (r : Row) (i : Mon) : Turn s (s.sampleMonitor r i) := by
  unfold State.sampleMonitor
  dsimp only
  refine .trans (turn_monitors s _ (fun h j => ?_)) (.ite _ (fun _ => ?_) (fun _ => .refl _))
  · rw [PerMon.get_set]
    split
    · exact Monitor.sampled_below _ _ (h i)
    · exact h j
  · split
    · exact (State.raiseBoth_turn _ _).trans (State.latchEvent_turn _ _)
    · exact State.raiseBoth_turn _ _

theorem State.sampleMonitors_turn (s : State) (r : Row) : Turn s (s.sampleMonitors r) :=
  turn_foldl _ (fun u i => u.sampleMonitor_turn r i) _ _

end Sys2Proof.Machine
end

