-- ==== Sys2Proof/Laws/Effects.lean ====
section
/-! SUPPORT. Which fields the shared operations can change: an operation answers the state it was given with those fields
replaced, and every other field is read through the update. -/

namespace Sys2Proof.Machine

/-- An attention changes the two ports alone. -/
theorem State.raiseAt_eq (s : State) (p : Port) (c : Attention) :
    ∃ l q, s.raiseAt p c = (s.setLine l).setPanel q := by
  unfold State.raiseAt
  split
  · exact ⟨s.line, s.panel, rfl⟩
  · cases p
    · exact ⟨s.line.raised c, s.panel, rfl⟩
    · exact ⟨s.line, s.panel.raised c, rfl⟩

theorem State.raiseBoth_eq (s : State) (c : Attention) : ∃ l q, s.raiseBoth c = (s.setLine l).setPanel q := by
  obtain ⟨l, q, h⟩ := s.raiseAt_eq .line c
  obtain ⟨l', q', h'⟩ := (s.raiseAt .line c).raiseAt_eq .panel c
  refine ⟨l', q', ?_⟩
  unfold State.raiseBoth
  rw [h', h]
  rfl

/-- A change taken by the Stop Unit changes it and the two ports alone. -/
theorem State.changeStop_eq (s : State) (f : StopUnit → StopUnit) :
    ∃ l q, s.changeStop f = ((s.setStop (f s.stop).reformed).setLine l).setPanel q := by
  unfold State.changeStop
  split
  · exact State.raiseBoth_eq _ _
  · exact ⟨s.line, s.panel, rfl⟩

theorem State.latchEvent_eq (s : State) (c : StopCause) :
    ∃ u l q, s.latchEvent c = ((s.setStop u).setLine l).setPanel q :=
  ⟨_, s.changeStop_eq _⟩

theorem State.startLevel_eq (s : State) (c : StopCause) :
    ∃ u l q, s.startLevel c = ((s.setStop u).setLine l).setPanel q := by
  unfold State.startLevel
  split
  · exact ⟨s.stop, s.line, s.panel, rfl⟩
  · exact ⟨_, s.changeStop_eq _⟩

theorem State.endLevel_eq (s : State) (c : StopCause) :
    ∃ u l q, s.endLevel c = ((s.setStop u).setLine l).setPanel q := by
  unfold State.endLevel
  split
  · exact ⟨_, s.changeStop_eq _⟩
  · exact ⟨s.stop, s.line, s.panel, rfl⟩

theorem State.clearReserve_eq (s : State) : ∃ b u l q,
    s.clearReserve = (((s.setPipe { s.pipe with reserve := b }).setStop u).setLine l).setPanel q := by
  unfold State.clearReserve
  split
  · exact ⟨false, State.endLevel_eq _ _⟩
  · exact ⟨s.pipe.reserve, s.stop, s.line, s.panel, rfl⟩

theorem State.setReserve_eq (s : State) : ∃ b u l q,
    s.setReserve = (((s.setPipe { s.pipe with reserve := b }).setStop u).setLine l).setPanel q := by
  unfold State.setReserve
  split
  · exact ⟨s.pipe.reserve, s.stop, s.line, s.panel, rfl⟩
  · exact ⟨true, State.startLevel_eq _ _⟩

/-- A draw changes the Generator, its job's tallies, the make-up queue and the recovery record, the Stop Unit and the
ports; the void list keeps its entries. -/
theorem State.feedReports_eq (s : State) (before : Nat) (starved : Bool) :
    ∃ u l q, s.feedReports before starved = ((s.setStop u).setLine l).setPanel q := by
  have h1 : ∃ l q, (if s.gen.lowMark ≤ before ∧ s.gen.feed.length < s.gen.lowMark then s.raiseBoth .feedLow else s) =
      (s.setLine l).setPanel q := by
    split
    · exact s.raiseBoth_eq _
    · exact ⟨s.line, s.panel, rfl⟩
  obtain ⟨l, q, h1⟩ := h1
  unfold State.feedReports
  dsimp only
  rw [h1]
  split
  · obtain ⟨u, l', q', h2⟩ := ((s.setLine l).setPanel q).latchEvent_eq .feedStarved
    exact ⟨u, l', q', by rw [h2]; rfl⟩
  · exact ⟨s.stop, l, q, rfl⟩

/-- What a draw leaves alone. -/
structure DrawFrame (s t : State) : Prop where
  straps : t.straps = s.straps
  trk : t.trk = s.trk
  plies : t.plies = s.plies
  marks : t.marks = s.marks
  zones : t.zones = s.zones
  pipe : t.pipe = s.pipe
  drivers : t.drivers = s.drivers
  requests : t.requests = s.requests
  readers : t.readers = s.readers
  voids : t.audit.voids = s.audit.voids
  inFlight : t.audit.inFlight = s.audit.inFlight
  condition : t.audit.condition = s.audit.condition
  shift : t.shift = s.shift
  monitors : t.monitors = s.monitors
  headLink : t.headLink = s.headLink
  powerFail : t.powerFail = s.powerFail
  freeIndex : t.freeIndex = s.freeIndex
  pending : t.pending = s.pending

theorem DrawFrame.refl (s : State) : DrawFrame s s := by constructor <;> rfl

theorem State.completionTest_eq (s : State) (j : Job) : ∃ g, s.completionTest j = s.setGen g := by
  unfold State.completionTest
  split
  · exact ⟨_, rfl⟩
  · exact ⟨s.gen, rfl⟩

theorem State.drawMakeUp_frame (s : State) (j : Job) : DrawFrame s (s.drawMakeUp j).2 := by
  unfold State.drawMakeUp
  dsimp only
  split
  · exact .refl s
  · constructor <;> rfl

theorem State.drawSequence_frame (s : State) (j : Job) : DrawFrame s (s.drawSequence j).2 := by
  unfold State.drawSequence
  dsimp only
  obtain ⟨g, hg⟩ := State.completionTest_eq
    ((s.setGen { s.gen with r := s.gen.r + 1 }).countDraw j.id (countNumbered (j.plan.sequenceLanes s.gen.r))) j
  rw [hg]
  constructor <;> rfl

theorem State.drawList_frame (s : State) (j : Job) : DrawFrame s (s.drawList j).2 := by
  unfold State.drawList
  dsimp only
  generalize hu : (if s.drawQuestion j = 0 then
      s.setGen { s.gen with
        feed := s.gen.feed.drop (s.drawQuestion j)
        listCount := s.gen.listCount + s.drawQuestion j
        r := if s.drawQuestion j = 0 then s.gen.r else s.gen.r + 1 }
    else
      (s.setGen { s.gen with
        feed := s.gen.feed.drop (s.drawQuestion j)
        listCount := s.gen.listCount + s.drawQuestion j
        r := if s.drawQuestion j = 0 then s.gen.r else s.gen.r + 1 }).countDraw j.id (s.drawQuestion j)) = u
  have hf : DrawFrame s u := by
    rw [← hu]
    split <;> constructor <;> rfl
  obtain ⟨x, l, q, hr⟩ := u.feedReports_eq s.gen.feed.length
    (decide (s.drawQuestion j < j.plan.lanes) && !decide (s.gen.listCount + s.drawQuestion j = j.plan.count))
  rw [hr]
  have hv : DrawFrame s (((u.setStop x).setLine l).setPanel q) := by
    constructor
    · exact hf.straps
    · exact hf.trk
    · exact hf.plies
    · exact hf.marks
    · exact hf.zones
    · exact hf.pipe
    · exact hf.drivers
    · exact hf.requests
    · exact hf.readers
    · exact hf.voids
    · exact hf.inFlight
    · exact hf.condition
    · exact hf.shift
    · exact hf.monitors
    · exact hf.headLink
    · exact hf.powerFail
    · exact hf.freeIndex
    · exact hf.pending
  split
  · exact hv
  · obtain ⟨g, hg⟩ := State.completionTest_eq (((u.setStop x).setLine l).setPanel q) j
    rw [hg]
    exact ⟨hv.1, hv.2, hv.3, hv.4, hv.5, hv.6, hv.7, hv.8, hv.9, hv.10, hv.11, hv.12, hv.13, hv.14, hv.15, hv.16,
      hv.17, hv.18⟩

theorem State.draw_frame (s : State) (j : Job) : DrawFrame s (s.draw j).2 := by
  unfold State.draw
  split
  · exact s.drawMakeUp_frame j
  · split
    · exact .refl s
    · split
      · split
        · exact .refl s
        · exact s.drawSequence_frame j
      · exact s.drawList_frame j

end Sys2Proof.Machine
end

