-- ==== Sys2Proof/Laws/Attentions.lean ====
section
/-! SUPPORT. What raising an attention leaves pending, and what a change taken by the Stop Unit leaves in it. -/

namespace Sys2Proof.Machine

/-! ## Attentions -/

theorem AttentionSet.has_raised (x : AttentionSet) (c d : Attention) :
    AttentionSet.has (x ||| BitVec.twoPow 10 c.bit) d = (AttentionSet.has x d || decide (c = d)) := by
  cases c <;> cases d <;> simp [AttentionSet.has, Attention.bit]

theorem PortState.raised_has (x : PortState) (c d : Attention) :
    AttentionSet.has (x.raised c).pending d = (AttentionSet.has x.pending d || decide (c = d)) := by
  unfold PortState.raised
  split
  · rename_i h
    by_cases hcd : c = d
    · subst hcd; simp [h]
    · simp [hcd]
  · exact AttentionSet.has_raised _ _ _

@[simp] theorem State.portAbsent_setPort (s : State) (p q : Port) (x : PortState) :
    (s.setPort p x).portAbsent q = s.portAbsent q := by cases p <;> cases q <;> rfl

theorem State.raiseAt_port (s : State) (p q : Port) (c : Attention) :
    (s.raiseAt p c).port q = if q = p ∧ s.portAbsent p = false then (s.port p).raised c else s.port q := by
  unfold State.raiseAt
  cases h : s.portAbsent p <;> simp

@[simp] theorem State.raiseAt_absent (s : State) (p q : Port) (c : Attention) :
    (s.raiseAt p c).portAbsent q = s.portAbsent q := by
  unfold State.raiseAt
  split
  · rfl
  · simp

/-- A class raised at both ports is pending at each that is not idle by strap, and nothing else of the ports changes but
the notice. -/
theorem State.raiseBoth_port (s : State) (q : Port) (c : Attention) :
    (s.raiseBoth c).port q = if s.portAbsent q then s.port q else (s.port q).raised c := by
  unfold State.raiseBoth
  rw [State.raiseAt_port, State.raiseAt_port, State.raiseAt_port]
  cases q <;> cases h1 : s.portAbsent .panel <;> cases h2 : s.portAbsent .line <;> simp_all

theorem State.raiseBoth_has (s : State) (q : Port) (c d : Attention) (h : s.portAbsent q = false) :
    AttentionSet.has ((s.raiseBoth c).port q).pending d = (AttentionSet.has (s.port q).pending d || decide (c = d)) := by
  rw [State.raiseBoth_port, h]
  exact PortState.raised_has _ _ _

@[simp] theorem PortState.started_pending (x : PortState) : x.started.pending = x.pending := by
  unfold PortState.started
  repeat' split
  all_goals rfl

@[simp] theorem State.startSending_port (s : State) (p : Port) : s.startSending.port p = (s.port p).started := by
  cases p <;> rfl

/-! ## Stop Unit -/

@[simp] theorem State.raiseBoth_stop (s : State) (c : Attention) : (s.raiseBoth c).stop = s.stop := by
  obtain ⟨l, q, h⟩ := s.raiseBoth_eq c
  rw [h]
  rfl

@[simp] theorem State.changeStop_stop (s : State) (f : StopUnit → StopUnit) :
    (s.changeStop f).stop = (f s.stop).reformed := by
  unfold State.changeStop
  split
  · rw [State.raiseBoth_stop]; rfl
  · rfl

theorem State.latchEvent_stop (s : State) (c : StopCause) :
    (s.latchEvent c).stop = StopUnit.reformed { s.stop with latched := StopSet.insert s.stop.latched c } :=
  s.changeStop_stop _

theorem State.startLevel_stop (s : State) (c : StopCause) :
    (s.startLevel c).stop = if StopSet.has s.stop.held c then s.stop
      else StopUnit.reformed
        { s.stop with latched := StopSet.insert s.stop.latched c, held := StopSet.insert s.stop.held c } := by
  unfold State.startLevel
  split
  · rfl
  · exact s.changeStop_stop _

theorem State.endLevel_stop (s : State) (c : StopCause) :
    (s.endLevel c).stop = if StopSet.has s.stop.held c then
        StopUnit.reformed { s.stop with held := StopSet.erase s.stop.held c }
      else s.stop := by
  unfold State.endLevel
  split
  · exact s.changeStop_stop _
  · rfl

end Sys2Proof.Machine
end

