-- ==== Sys2Proof/Laws/TurnsRows.lean ====
section
/-! SUPPORT. The operations of the Row Pipeline as turns. -/

namespace Sys2Proof.Machine

/-! ## Expectations and the reservation -/

theorem State.endExpectations_turn (s : State) (k : Nat) : Turn s (s.endExpectations k) := turn_readers _ _

theorem State.endAllExpectations_turn (s : State) : Turn s s.endAllExpectations := turn_readers _ _

theorem State.setReserve_turn (s : State) : Turn s s.setReserve := by
  unfold State.setReserve
  refine .ite _ (fun _ => .refl s) (fun _ => .trans ?_ (State.startLevel_turn _ _))
  exact turn_pipe' _ _ rfl

theorem State.reserveFall_turn (s : State) : Turn s s.reserveFall := by
  unfold State.reserveFall
  split
  · exact .refl s
  · split
    · exact s.clearReserve_turn
    · split
      · exact s.clearReserve_turn
      · exact .refl s

/-! ## Merge and marker -/

theorem Row.judged_numbered (r : Row) (policy : ReadPolicy) : (r.judged policy).numbered = r.numbered :=
  countNumbered_mapIdx _ (fun i l => by dsimp only; split <;> simp) _

theorem State.mergeWork_turn (s : State) (r : Row) : Turn s (s.mergeWork r) := by
  unfold State.mergeWork
  dsimp only
  refine .trans ?_ (State.endExpectations_turn _ _)
  refine .trans ?_ (State.updRow_turn _ _ _ (fun x => Nat.le_of_eq (x.judged_numbered _)))
  refine .trans ?_ (turn_foldl _ (fun u x => u.withdrawSend_turn _ _) _ _)
  exact turn_foldl _ (fun u x => u.orderUnanswered_turn _ _) _ _

theorem State.ensureMerged_turn (s : State) (k : Nat) : Turn s (s.ensureMerged k) := by
  unfold State.ensureMerged
  split
  · exact .ite _ (fun _ => s.mergeWork_turn _) (fun _ => .refl s)
  · exact .refl s

theorem State.firePulseEnd_turn (s : State) (l : Lane) : Turn s (s.firePulseEnd l) :=
  s.fire_turn _ _ (fun _ u => .ite _ (fun _ => .refl u) (fun _ => turn_pipe' _ _ rfl))

theorem State.pulse_turn (s : State) (l : Lane) (pos : Pos) : Turn s (s.pulse l pos) := by
  unfold State.pulse
  refine .trans ?_ (State.firePulseEnd_turn _ _)
  refine .trans ?_ (State.scheduleAt_turn _ _ _)
  exact turn_pipe' _ _ rfl

theorem Row.afterMarker_numbered (r : Row) : r.afterMarker.numbered = r.numbered :=
  countNumbered_map (fun l => { l with marked := l.marked || l.isVoid }) (fun _ => rfl) r.lanes

theorem State.markerWork_turn (s : State) (r : Row) : Turn s (s.markerWork r) := by
  unfold State.markerWork
  dsimp only
  refine .trans ?_ (turn_foldl _ (fun u l => u.pulse_turn _ _) _ _)
  exact s.updRow_turn _ _ (fun x => Nat.le_of_eq x.afterMarker_numbered)

theorem State.ensureMarked_turn (s : State) (k : Nat) : Turn s (s.ensureMarked k) := by
  unfold State.ensureMarked
  dsimp only
  have h := s.ensureMerged_turn k
  split
  · exact .ite _ (fun _ => h.trans (State.markerWork_turn _ _)) (fun _ => h)
  · exact h

/-! ## Retirement -/

theorem State.reportInFlight_turn (s : State) (job : Nat) : Turn s (s.reportInFlight job) := by
  unfold State.reportInFlight
  exact .ite _ (fun _ => s.testDrain_turn _) (fun _ => .refl s)

theorem State.reportLastRow_turn (s : State) (job : Nat) : Turn s (s.reportLastRow job) := by
  unfold State.reportLastRow
  split
  · exact .ite _ (fun _ => s.endJob_turn _) (fun _ => .refl s)
  · exact .refl s

theorem State.alarm_frame (s : State) (i : Mon) (stopEnable : Bool) :
    ∃ u l q, (if stopEnable then (s.raiseBoth .monitor).latchEvent (.monitor i) else s.raiseBoth .monitor) =
      ((s.setStop u).setLine l).setPanel q := by
  obtain ⟨l, q, h⟩ := s.raiseBoth_eq .monitor
  rw [h]
  split
  · obtain ⟨u, l', q', h'⟩ := ((s.setLine l).setPanel q).latchEvent_eq (.monitor i)
    exact ⟨u, l', q', by rw [h']; rfl⟩
  · exact ⟨s.stop, l, q, rfl⟩

/-- A monitor's sample changes the monitors, the Stop Unit and the ports alone. -/
theorem State.sampleMonitor_eq (s : State) (r : Row) (i : Mon) :
    ∃ m u l q, s.sampleMonitor r i = (((s.setMonitors m).setStop u).setLine l).setPanel q := by
  unfold State.sampleMonitor
  dsimp only
  split
  · exact ⟨_, State.alarm_frame _ _ _⟩
  · exact ⟨s.monitors.set i ((s.monitors.get i).sampled ((s.monitors.get i).source.rowCount r)), s.stop, s.line,
      s.panel, rfl⟩

theorem State.sampleMonitor_frame (s : State) (r : Row) (i : Mon) :
    (s.sampleMonitor r i).pipe = s.pipe ∧ (s.sampleMonitor r i).audit = s.audit ∧
      (s.sampleMonitor r i).trk = s.trk ∧ (s.sampleMonitor r i).jobs = s.jobs := by
  obtain ⟨m, u, l, q, h⟩ := s.sampleMonitor_eq r i
  rw [h]
  exact ⟨rfl, rfl, rfl, rfl⟩

theorem State.sampleMonitors_frame (s : State) (r : Row) :
    (s.sampleMonitors r).pipe = s.pipe ∧ (s.sampleMonitors r).audit = s.audit ∧
      (s.sampleMonitors r).trk = s.trk ∧ (s.sampleMonitors r).jobs = s.jobs := by
  unfold State.sampleMonitors
  generalize Mon.all = l
  induction l generalizing s with
  | nil => exact ⟨rfl, rfl, rfl, rfl⟩
  | cons i l ih =>
    have h1 := s.sampleMonitor_frame r i
    have h2 := ih (s.sampleMonitor r i)
    exact ⟨h2.1.trans h1.1, h2.2.1.trans h1.2.1, h2.2.2.1.trans h1.2.2.1, h2.2.2.2.trans h1.2.2.2⟩

/-- A row dropped: the rows of its index leave the pipeline. -/
theorem State.dropRow_pipe (s : State) (k : Nat) :
    (s.dropRow k).pipe = { s.pipe with rows := s.pipe.rows.filter (fun r => decide (r.k ≠ k)) } := rfl

theorem State.dropRow_turn (s : State) (k : Nat) : Turn s (s.dropRow k) := by
  unfold State.dropRow
  exact (s.unschedule_turn _).trans (State.filterRows_turn _ _)

/-- The lanes of a row of the pipeline are among those in flight once it has been dropped, and no others. -/
theorem inFlight_drop (rs : List Row) (r : Row) (h : r ∈ rs) :
    inFlightOfRows (rs.filter (fun x => decide (x.k ≠ r.k))) + r.numbered ≤ inFlightOfRows rs := by
  induction rs with
  | nil => cases h
  | cons x rs ih =>
    rcases List.mem_cons.mp h with rfl | h
    · have := inFlightOfRows_filter (fun x => decide (x.k ≠ r.k)) rs
      rw [List.filter_cons_of_neg (by simp)]
      simp only [inFlightOfRows, List.map_cons, List.sum_cons] at this ⊢
      omega
    · have := ih h
      rw [List.filter_cons]
      simp only [inFlightOfRows] at this ⊢
      split <;> simp only [List.map_cons, List.sum_cons] <;> omega

/-- A row of the pipeline disposed of, sampled and dropped: a turn (R88, R90). -/
theorem State.retireCore_turn (s : State) (r : Row) (h : r ∈ s.pipe.rows) :
    Turn s (((s.disposeRow r).sampleMonitors r).dropRow r.k) := by
  obtain ⟨hm, hr⟩ := s.disposeRow_moves r
  refine .of_moves (hm.trans ((State.sampleMonitors_turn _ _).1.trans (State.dropRow_turn _ _).1)) ?_
  have hf := (s.disposeRow r).sampleMonitors_frame r
  have hp := s.disposeRow_pipe r
  have hd := inFlight_drop s.pipe.rows r h
  have e : (((s.disposeRow r).sampleMonitors r).dropRow r.k).reserved =
      (s.disposeRow r).audit.voidCount + inFlightOfRows (s.pipe.rows.filter (fun x => decide (x.k ≠ r.k))) := by
    unfold State.reserved State.inFlight
    rw [State.dropRow_pipe, hf.1, hp]
    show ((s.disposeRow r).sampleMonitors r).audit.voidCount + _ = _
    rw [hf.2.1]
  have e2 : (s.disposeRow r).reserved = (s.disposeRow r).audit.voidCount + inFlightOfRows s.pipe.rows := by
    unfold State.reserved State.inFlight
    rw [hp]
  have e3 : s.reserved = s.audit.voidCount + inFlightOfRows s.pipe.rows := rfl
  omega

theorem State.row_mem (s : State) (k : Nat) (r : Row) (h : s.row k = some r) : r ∈ s.pipe.rows :=
  List.mem_of_find?_eq_some h

theorem State.retire_turn (s : State) (r : Row) (h : r ∈ s.pipe.rows) : Turn s (s.retire r) := by
  unfold State.retire
  dsimp only
  refine .trans ?_ (State.testFree_turn _)
  refine .trans ?_ (State.reportLastRow_turn _ _)
  refine .trans ?_ (State.reportInFlight_turn _ _)
  exact .ite _ (fun _ => s.retireCore_turn r h) (fun _ => (s.retireCore_turn r h).trans (State.reserveFall_turn _))

theorem State.fireMerge_turn (s : State) (k : Nat) : Turn s (s.fireMerge k) :=
  s.fire_turn _ _ (fun _ u => u.ensureMerged_turn k)

theorem State.fireMarker_turn (s : State) (k : Nat) : Turn s (s.fireMarker k) :=
  s.fire_turn _ _ (fun _ u => u.ensureMarked_turn k)

theorem State.fireDelivery_turn (s : State) (k : Nat) : Turn s (s.fireDelivery k) :=
  s.fire_turn _ _ (fun _ u => by
    dsimp only
    refine .trans (u.ensureMarked_turn k) ?_
    split
    · rename_i r hr
      exact .ite _ (fun _ => State.retire_turn _ _ (State.row_mem _ _ _ hr)) (fun _ => .refl _)
    · exact .refl _)

/-! ## Opening rows -/

theorem State.clearReserve_question (s : State) (j : Job) : s.clearReserve.drawQuestion j = s.drawQuestion j := by
  obtain ⟨b, u, l, q, h⟩ := s.clearReserve_eq
  rw [h]
  rfl

/-- The draw made for a row (R78, R79): a turn that leaves the Tracker and the rows as they were, and room for the lanes
it numbers. -/
theorem State.drawForRow_room (s : State) (j : Job) (spoiled : Bool) :
    Turn s (s.drawForRow j spoiled).2 ∧ (s.drawForRow j spoiled).2.pipe.rows = s.pipe.rows ∧
      (s.drawForRow j spoiled).2.trk = s.trk ∧
      (s.drawForRow j spoiled).2.reserved + countNumbered (s.drawForRow j spoiled).1.lanes ≤ max s.reserved 1024 := by
  have key : ∀ u : State, (u.draw j).2.reserved = u.reserved := by
    intro u
    have hf := u.draw_frame j
    simp only [State.reserved, AuditStore.voidCount, State.inFlight, hf.voids, hf.inFlight, hf.pipe]
  have hle : s.reserved ≤ max s.reserved 1024 := le_max_left _ _
  unfold State.drawForRow
  split
  · exact ⟨.refl s, rfl, rfl, by simp [blankDrawn, countNumbered_blank]⟩
  · split
    · rename_i h0
      have hf := s.draw_frame j
      refine ⟨s.draw_turn j, by rw [hf.pipe], hf.trk, ?_⟩
      have := s.draw_count j
      rw [key]
      omega
    · split
      · rename_i hr
        obtain ⟨b, u, l, q, h⟩ := s.clearReserve_eq
        have hf := s.clearReserve.draw_frame j
        have hc := s.clearReserve.draw_count j
        rw [s.clearReserve_question j] at hc
        have hrs : s.clearReserve.reserved = s.reserved := by rw [h]; rfl
        have hv : s.audit.voidCount + s.inFlight + s.drawQuestion j ≤ 1024 := of_decide_eq_true hr
        refine ⟨s.clearReserve_turn.trans (State.draw_turn _ j), ?_, ?_, ?_⟩
        · rw [hf.pipe, h]; rfl
        · rw [hf.trk, h]; rfl
        · rw [key, hrs]
          unfold State.reserved
          omega
      · obtain ⟨b, u, l, q, h⟩ := s.setReserve_eq
        have hrs : s.setReserve.reserved = s.reserved := by rw [h]; rfl
        refine ⟨s.setReserve_turn, by rw [h]; rfl, by rw [h]; rfl, ?_⟩
        simp only [blankDrawn, countNumbered_blank, hrs]
        omega

theorem State.schedulePositions_turn (s : State) (r : Row) : Turn s (s.schedulePositions r) :=
  ((s.scheduleAt_turn _ _).trans (State.scheduleAt_turn _ _ _)).trans (State.scheduleAt_turn _ _ _)

theorem inFlightOfRows_append (a b : List Row) : inFlightOfRows (a ++ b) = inFlightOfRows a + inFlightOfRows b := by
  simp [inFlightOfRows]

/-- A row put in the pipeline while an epoch exists and there is room for its lanes. -/
theorem State.addRow_turn (s s0 : State) (r : Row) (he : s.trk.epoch ≠ none)
    (hr : s.reserved + r.numbered ≤ max s0.reserved 1024) (h0 : Turn s0 s) : Turn s0 (s.addRow r) := by
  refine ⟨h0.1.trans (.single (.pipe _ (fun _ => .inr he))), ?_⟩
  have e : (s.addRow r).reserved = s.audit.voidCount + inFlightOfRows (s.pipe.rows ++ [r]) := rfl
  have e1 : s.reserved = s.audit.voidCount + inFlightOfRows s.pipe.rows := rfl
  rw [e, inFlightOfRows_append]
  have e2 : inFlightOfRows [r] = r.numbered := by simp [inFlightOfRows]
  omega

theorem State.openRow_turn (s : State) (j : Job) (e : Epoch) (o0 : Pos) (k : Nat) (he : s.trk.epoch ≠ none) :
    Turn s (s.openRow j e o0 k) := by
  obtain ⟨h1, _, h3, h4⟩ := s.drawForRow_room j (s.openingSpoiled e (rowOrigin o0 e.repeatUm k))
  unfold State.openRow
  dsimp only
  refine .trans ?_ (State.fireDelivery_turn _ _)
  refine .trans ?_ (State.fireMarker_turn _ _)
  refine .trans ?_ (State.fireMerge_turn _ _)
  have h5 : Turn s (((s.drawForRow j (s.openingSpoiled e (rowOrigin o0 e.repeatUm k))).2.addRow
      (newRow k (rowOrigin o0 e.repeatUm k) j.id e.mask
        (s.drawForRow j (s.openingSpoiled e (rowOrigin o0 e.repeatUm k))).1)).schedulePositions
      (newRow k (rowOrigin o0 e.repeatUm k) j.id e.mask
        (s.drawForRow j (s.openingSpoiled e (rowOrigin o0 e.repeatUm k))).1)) :=
    (State.addRow_turn _ s _ (by rw [h3]; exact he) h4 h1).trans (State.schedulePositions_turn _ _)
  exact .ite _ (fun _ => h5.trans (State.testDrain_turn _ _)) (fun _ => h5)

theorem openRows_turn (n : Nat) : ∀ s : State, Turn s (openRows n s) := by
  induction n with
  | zero => intro s; exact .refl s
  | succ n ih =>
    intro s
    simp only [openRows]
    split
    · rename_i he
      split
      · exact (s.openRow_turn _ _ _ _ (by rw [he]; simp)).trans (ih _)
      · exact .refl s
    · exact .refl s

/-! ## Form reports -/

theorem State.discardForm_turn (s : State) : Turn s s.discardForm := turn_pipe' _ _ rfl

theorem Row.assigned_numbered (r : Row) (p : Ply) (a : Assignment) (causes : CauseSet) (expect : Bool) :
    (r.assigned p a causes expect).numbered = r.numbered :=
  countNumbered_map (fun l => l.addCauses causes) (fun l => l.addCauses_numbered _) r.lanes

theorem State.assignForm_turn (s : State) (r : Row) (p : Ply) (a : Assignment) (c : Pos) (causes : CauseSet) :
    Turn s (s.assignForm r p a c causes) := by
  have h1 : Turn s (s.updRow r.k (fun r => r.assigned p a causes (s.expectsRead r p))) :=
    s.updRow_turn _ _ (fun x => Nat.le_of_eq (x.assigned_numbered _ _ _ _))
  unfold State.assignForm
  dsimp only
  generalize s.updRow r.k (fun r => r.assigned p a causes (s.expectsRead r p)) = u at h1 ⊢
  split
  · refine .trans ?_ (State.handSend_turn _ _)
    exact .ite _ (fun _ => h1.trans (State.updReader_turn _ _ _)) (fun _ => h1)
  · exact .ite _ (fun _ => h1.trans (State.updReader_turn _ _ _)) (fun _ => h1)

theorem State.assignReport_turn (s : State) (p : Ply) (k : Nat) (a : Assignment) (c : Pos) (causes : CauseSet) :
    Turn s (s.assignReport p k a c causes) := by
  unfold State.assignReport
  split
  · exact s.discardForm_turn
  · split
    · exact s.discardForm_turn
    · exact .ite _ (fun _ => s.assignForm_turn _ _ _ _ _) (fun _ => s.discardForm_turn)

theorem State.formReport_turn (s : State) (p : Ply) (k : Nat) (a : Assignment) (c : Pos) (causes : CauseSet) :
    Turn s (s.formReport p k a c causes) := by
  unfold State.formReport
  split
  · exact s.discardForm_turn
  · split
    · exact .ite _ (fun _ => (openRows_turn _ s).trans (State.assignReport_turn _ _ _ _ _ _))
        (fun _ => s.assignReport_turn _ _ _ _ _)
    · exact s.assignReport_turn _ _ _ _ _

theorem State.lateReport_turn (s : State) (k : Nat) (cause : VoidCause) : Turn s (s.lateReport k cause) :=
  s.updOpenRow_turn _ _ (fun r => Nat.le_of_eq (r.addCause_numbered _))

theorem State.abortRows_turn (s : State) (id : Nat) : Turn s (s.abortRows id) :=
  s.mapRows_turn _ (fun r => by split <;> simp)

/-! ## The emptying of the pipeline -/

/-- Rows disposed of one after another add to the void list at most their numbered lanes, and leave the pipeline's record
of them. -/
theorem disposeRows_moves (cause : VoidCause) (rs : List Row) : ∀ s : State,
    Moves s (rs.foldl (fun s r => s.disposeRow (r.addCause cause)) s) ∧
      (rs.foldl (fun s r => s.disposeRow (r.addCause cause)) s).pipe = s.pipe ∧
      (rs.foldl (fun s r => s.disposeRow (r.addCause cause)) s).reserved ≤ s.reserved + inFlightOfRows rs := by
  induction rs with
  | nil => intro s; exact ⟨.refl, rfl, Nat.le_add_right _ _⟩
  | cons r rs ih =>
    intro s
    obtain ⟨h1, h2⟩ := s.disposeRow_moves (r.addCause cause)
    obtain ⟨h3, h4, h5⟩ := ih (s.disposeRow (r.addCause cause))
    refine ⟨h1.trans h3, h4.trans (s.disposeRow_pipe _), ?_⟩
    rw [Row.addCause_numbered] at h2
    simp only [List.foldl_cons]
    simp only [inFlightOfRows, List.map_cons, List.sum_cons] at h5 ⊢
    omega

/-- The rows of the pipeline disposed of and then removed: a turn (R93, R94). -/
theorem State.emptyRows_turn (s : State) (cause : VoidCause) :
    Turn s ((s.pipe.rows.foldl (fun s r => s.disposeRow (r.addCause cause)) s).setRows []) := by
  obtain ⟨h1, h2, h3⟩ := disposeRows_moves cause s.pipe.rows s
  refine .of_moves (h1.trans (.single (.pipe _ (fun h => absurd rfl h)))) ?_
  have e : ((s.pipe.rows.foldl (fun s r => s.disposeRow (r.addCause cause)) s).setRows []).reserved =
      (s.pipe.rows.foldl (fun s r => s.disposeRow (r.addCause cause)) s).audit.voidCount + 0 := rfl
  have e2 : (s.pipe.rows.foldl (fun s r => s.disposeRow (r.addCause cause)) s).reserved =
      (s.pipe.rows.foldl (fun s r => s.disposeRow (r.addCause cause)) s).audit.voidCount +
        inFlightOfRows s.pipe.rows := by
    unfold State.reserved State.inFlight
    rw [h2]
  omega

theorem State.emptyPipeline_turn (s : State) (cause : VoidCause) : Turn s (s.emptyPipeline cause) := by
  unfold State.emptyPipeline
  dsimp only
  refine .trans ?_ (State.testFree_turn _)
  refine .trans ?_ (State.unschedule_turn _ _)
  refine .trans ?_ (State.endAllExpectations_turn _)
  refine .trans ?_ (State.withdrawAllSends_turn _)
  exact s.emptyRows_turn cause

end Sys2Proof.Machine
end

