-- ==== Sys2Proof/Laws/TurnsPress.lean ====
section
/-! SUPPORT. The operations of the Read Unit, the Mark Unit and the Splice Unit as turns. -/

namespace Sys2Proof.Machine

/-! ## Read Unit -/

theorem Row.readOutcome_numbered (r : Row) (p : Ply) (l : Lane) (st : ReadState) :
    (r.readOutcome p l st).numbered = r.numbered := by
  unfold Row.readOutcome
  dsimp only
  split
  · exact (Row.addCauseAt_numbered _ _ _).trans (Row.updPly_numbered _ _ _)
  · exact Row.updPly_numbered _ _ _

theorem State.matchRead_turn (s : State) (p : Ply) (l : Lane) (reading : LaneRead) (e : Expectation) :
    Turn s (s.matchRead p l reading e) := by
  unfold State.matchRead
  dsimp only
  refine .trans ?_ (State.updOpenRow_turn _ _ _ (fun r => Nat.le_of_eq (r.readOutcome_numbered _ _ _)))
  exact s.updReader_turn _ _

theorem State.strayRead_turn (s : State) (p : Ply) : Turn s (s.strayRead p) :=
  (s.countRead_turn _ _).trans (State.updShift_turn _ _)

theorem State.takeRead_turn (s : State) (p : Ply) (r : ReadReport) : Turn s (s.takeRead p r) := by
  unfold State.takeRead
  refine .ite _ (fun _ => ?_) (fun _ => .refl s)
  split
  · exact s.countRead_turn _ _
  · dsimp only
    refine .trans (s.countRead_turn p (fun c => { c with results := satAdd c.results 1 })) ?_
    refine .ite _ (fun _ => State.countRead_turn _ _ _) (fun _ => ?_)
    split
    · exact State.strayRead_turn _ _
    · exact State.matchRead_turn _ _ _ _ _

/-! ## Mark Unit -/

/-- The trend after an in-register mark stays within its bound (R32). -/
theorem trendAfter_bound (f e : Int) (t : Nat) (hf : |f| ≤ 16 * (t : Int)) (he : |e| ≤ (t : Int)) :
    |trendAfter f e| ≤ 16 * (t : Int) := by
  rw [abs_le] at hf he ⊢
  unfold trendAfter
  rcases le_or_gt 0 (16 * e - f) with h | h
  · rw [Int.tdiv_eq_ediv_of_nonneg h]
    omega
  · have : Int.tdiv (16 * e - f) 8 = -((-(16 * e - f)) / 8) := by
      rw [← Int.tdiv_eq_ediv_of_nonneg (by omega), Int.neg_tdiv, neg_neg]
    rw [this]
    omega

/-- The trend brought within a new bound is within it (R32). -/
theorem clampTrend_bound (f : Int) (t : Nat) : |clampTrend f t| ≤ 16 * (t : Int) := by
  rw [abs_le]
  unfold clampTrend
  split
  · omega
  · split <;> omega

theorem State.testDrift_turn (s : State) (p : Ply) : Turn s (s.testDrift p) := by
  have h : Turn s (s.updMark p (fun m => { m with drift := s.driftNow p })) := s.updMark_turn' p _ (fun _ => rfl)
  unfold State.testDrift
  exact .ite _ (fun _ => h.trans (State.raiseBoth_turn _ _)) (fun _ => h)

theorem State.setExpected_turn (s : State) (p : Ply) (e : Epoch) (c : Pos) (k : Int) :
    Turn s (s.setExpected p e c k) := by
  unfold State.setExpected
  dsimp only
  have h : Turn s ((s.updMark p (fun m =>
      { m with expected := some ⟨posShift c (rowDistance e.repeatUm k), k⟩ })).unschedule
        (fun ev => decide (ev = .windowEnd p))) := by
    refine .trans ?_ (State.unschedule_turn _ _)
    exact s.updMark_turn' p _ (fun _ => rfl)
  exact .ite _ (fun _ => h.trans (State.scheduleAt_turn _ _ _)) (fun _ => h)

theorem State.markSeen_turn (s : State) (p : Ply) : Turn s (s.markSeen p) := by
  refine .trans ?_ (State.endLevel_turn _ _)
  exact s.updMark_turn' p _ (fun _ => rfl)

theorem State.acceptMark_turn (s : State) (p : Ply) (c : Pos) (row captured : Option RowError) (g : Int) :
    Turn s (s.acceptMark p c row captured g) := by
  refine .trans ?_ (State.offerCapture_turn _ _ _)
  exact s.updMark_turn' p _ (fun _ => rfl)

theorem State.judgeMark_turn (s : State) (p : Ply) (e : Int) : Turn s (s.judgeMark p e) := by
  unfold State.judgeMark
  refine .ite _ (fun h => .trans ?_ (State.testDrift_turn _ _)) (fun _ => s.updMark_turn' p _ (fun _ => rfl))
  exact s.updMark_turn p _ (fun hb => trendAfter_bound _ _ _ hb h)

theorem State.markForRow_turn (s : State) (p : Ply) (ep : Epoch) (c : Pos) (k : Nat) (e : Int) :
    Turn s (s.markForRow p ep c k e) := by
  unfold State.markForRow
  dsimp only
  refine .trans ?_ (State.formReport_turn _ _ _ _ _ _)
  refine .trans ?_ (State.updMark_turn' _ p _ (fun _ => rfl))
  refine .trans ?_ (State.setExpected_turn _ _ _ _ _)
  refine .trans ?_ (State.markSeen_turn _ _)
  exact .trans (s.acceptMark_turn _ _ _ _ _) (State.judgeMark_turn _ _ _)

theorem State.preJobMark_turn (s : State) (p : Ply) (ep : Epoch) (c : Pos) (k : Int) :
    Turn s (s.preJobMark p ep c k) :=
  .trans (.trans (s.acceptMark_turn _ _ _ _ _) (State.markSeen_turn _ _)) (State.setExpected_turn _ _ _ _ _)

theorem State.duplicateMark_turn (s : State) (p : Ply) (k j : Nat) : Turn s (s.duplicateMark p k j) := by
  unfold State.duplicateMark
  dsimp only
  have h : Turn s (s.updMark p (fun x =>
      { x with counts := { x.counts with duplicate := satAdd x.counts.duplicate 1 } })) :=
    s.updMark_turn' p _ (fun _ => rfl)
  exact .ite _ (fun _ => h.trans (State.lateReport_turn _ _ _)) (fun _ => h)

theorem State.originMark_turn (s : State) (p : Ply) (ep : Epoch) (c : Pos) : Turn s (s.originMark p ep c) := by
  unfold State.originMark
  refine .ite _ (fun _ => ?_) (fun _ => s.acceptMark_turn _ _ _ _ _)
  dsimp only
  refine .trans ?_ (State.markForRow_turn _ _ _ _ _ _)
  exact turn_trk _ _ rfl rfl (fun h => by simp at h)

theorem State.trackedMark_turn (s : State) (p : Ply) (ep : Epoch) (o0 c : Pos) :
    Turn s (s.trackedMark p ep o0 c) := by
  unfold State.trackedMark
  dsimp only
  refine .ite _ (fun _ => s.preJobMark_turn _ _ _ _) (fun _ => ?_)
  split
  · exact .ite _ (fun _ => s.duplicateMark_turn _ _ _) (fun _ => s.markForRow_turn _ _ _ _ _)
  · exact s.markForRow_turn _ _ _ _ _

theorem State.spuriousMark_turn (s : State) (p : Ply) : Turn s (s.spuriousMark p) := by
  refine .trans ?_ (State.updShift_turn _ _)
  exact s.updMark_turn' p _ (fun _ => rfl)

theorem State.takeMark_turn (s : State) (p : Ply) : Turn s (s.takeMark p) := by
  unfold State.takeMark
  refine .ite _ (fun _ => s.updMark_turn' p _ (fun _ => rfl)) (fun _ => ?_)
  split
  · exact s.offerCapture_turn _ _
  · refine .ite _ (fun _ => .refl s) (fun _ => ?_)
    refine .ite _ (fun _ => s.spuriousMark_turn p) (fun _ => ?_)
    split
    · exact s.originMark_turn _ _ _
    · exact s.trackedMark_turn _ _ _ _

theorem State.flywheelForRow_turn (s : State) (p : Ply) (ep : Epoch) (pos : Pos) (k : Nat) :
    Turn s (s.flywheelForRow p ep pos k) := by
  unfold State.flywheelForRow
  dsimp only
  refine .trans ?_ (State.formReport_turn _ _ _ _ _ _)
  refine .trans ?_ (State.setExpected_turn _ _ _ _ _)
  generalize hm : min ((s.marks.get p).missed + 1) 255 = m
  refine .ite _ (fun _ => .trans ?_ (State.startLevel_turn _ _)) (fun _ => ?_)
  · exact s.updMark_turn' p _ (fun _ => rfl)
  · exact s.updMark_turn' p _ (fun _ => rfl)

theorem State.flywheel_turn (s : State) (p : Ply) : Turn s (s.flywheel p) := by
  unfold State.flywheel
  split
  · refine .ite _ (fun _ => ?_) (fun _ => s.flywheelForRow_turn _ _ _ _)
    refine .trans ?_ (State.setExpected_turn _ _ _ _ _)
    exact s.updMark_turn' p _ (fun _ => rfl)
  · exact .refl s

theorem State.fireWindow_turn (s : State) (p : Ply) : Turn s (s.fireWindow p) :=
  s.fire_turn _ _ (fun _ u => u.flywheel_turn p)

/-! ## Splice Unit -/

theorem extendNewest_length (zs : List Zone) (a b : Pos) : (extendNewest zs a b).length = zs.length := by
  unfold extendNewest
  split
  · rename_i n h
    have : zs ≠ [] := by rintro rfl; simp at h
    have := List.length_pos_iff.2 this
    simp only [List.length_append, List.length_dropLast, List.length_cons, List.length_nil]
    omega
  · rfl

theorem State.setZoneList_turn (s : State) (p : Ply) (zs : List Zone)
    (h : (s.zones.get p).length ≤ 4 → zs.length ≤ 4) : Turn s (s.setZoneList p zs) := by
  refine turn_zones _ _ (fun hz q => ?_)
  simp only [PerPly.get_set]
  split
  · subst_vars; exact h (hz _)
  · exact hz q

theorem State.withdrawExpiry_turn (s : State) (p : Ply) (n : Zone) : Turn s (s.withdrawExpiry p n) :=
  turn_trk' _ _ rfl rfl rfl

theorem State.scheduleExpiry_turn (s : State) (p : Ply) (e : Epoch) (x : Pos) : Turn s (s.scheduleExpiry p e x) :=
  s.scheduleAt_turn _ _

theorem State.fireExpiry_turn (s : State) (p : Ply) : Turn s (s.fireExpiry p) :=
  s.fire_turn _ _ (fun _ u => u.setZoneList_turn p _ (fun h => le_trans (List.length_filter_le _ _) h))

theorem State.placeZone_turn (s : State) (p : Ply) (e : Epoch) (lo hi : Pos) : Turn s (s.placeZone p e lo hi).2 := by
  have add : (s.zones.get p).length < 4 →
      Turn s ((s.setZoneList p (s.zones.get p ++ [⟨lo, hi, zoneExpiryPos e hi⟩])).scheduleExpiry p e hi) := by
    intro h
    refine .trans (s.setZoneList_turn p _ (fun _ => ?_)) (State.scheduleExpiry_turn _ _ _ _)
    simp only [List.length_append, List.length_cons, List.length_nil]
    omega
  have ext : ∀ n, Turn s (((s.withdrawExpiry p n).setZoneList p
      (extendNewest (s.zones.get p) hi (zoneExpiryPos e hi))).scheduleExpiry p e hi) := by
    intro n
    refine .trans ?_ (State.scheduleExpiry_turn _ _ _ _)
    refine .trans (s.withdrawExpiry_turn p n) (State.setZoneList_turn _ p _ (fun h => ?_))
    rw [extendNewest_length]
    exact h
  unfold State.placeZone
  dsimp only
  split
  · rename_i h
    exact add (by simp [List.getLast?_eq_none_iff.1 h])
  · split
    · exact ext _
    · split
      · rename_i h; exact add h
      · exact ext _

theorem Row.withdrawn_numbered (r : Row) : r.withdrawn.numbered = 0 := by
  show countNumbered (r.lanes.map (fun _ => blankLane)) = 0
  induction r.lanes with
  | nil => rfl
  | cons l ls ih => rw [List.map_cons, countNumbered_cons, ih]; rfl

theorem State.withdrawRow_turn (s : State) (r : Row) : Turn s (s.withdrawRow r) := by
  unfold State.withdrawRow
  dsimp only
  refine .trans ?_ (State.reportInFlight_turn _ _)
  refine .trans ?_ (State.reserveFall_turn _)
  refine .trans ?_ (State.updTallies_turn _ _ _)
  refine .trans ?_ (State.endExpectations_turn _ _)
  refine .trans ?_ (State.withdrawSends_turn _ _)
  refine .trans (s.takeBack_turn r) (State.updRow_turn _ _ _ (fun x => ?_))
  rw [Row.withdrawn_numbered]
  exact Nat.zero_le _

theorem walk_turn (p : Ply) (lo hi : Pos) (rs : List Row) : ∀ s : State, Turn s (walk p lo hi rs s) := by
  induction rs with
  | nil => intro s; exact .refl s
  | cons r rs ih =>
    intro s
    unfold walk
    refine .ite _ (fun _ => ?_) (fun _ => .refl s)
    exact .ite _ (fun _ => ih s) (fun _ => (s.withdrawRow_turn r).trans (ih _))

theorem State.lateSplices_turn (s : State) (p : Ply) (lo hi : Pos) : Turn s (s.lateSplices p lo hi) :=
  s.mapRows_turn _ (fun r => by
    split
    · split
      · exact Nat.le_of_eq (r.addCause_numbered _)
      · exact Nat.le_refl _
    · exact Nat.le_refl _)

theorem State.spliceTaken_turn (s : State) (p : Ply) (e : Epoch) : Turn s (s.spliceTaken p e) := by
  unfold State.spliceTaken
  dsimp only
  have h := s.updShift_turn (fun t => { t with splices := satAdd t.splices 1 })
  generalize s.updShift (fun t => { t with splices := satAdd t.splices 1 }) = u at h ⊢
  generalize posFwd u.trk.h (s.plies.get p).s = x
  have h2 := u.placeZone_turn p e (posBack x (s.plies.get p).mb) (posFwd x (s.plies.get p).ma)
  generalize u.placeZone p e (posBack x (s.plies.get p).mb) (posFwd x (s.plies.get p).ma) = placed at h2 ⊢
  have h3 := (h.trans h2).trans (Turn.ite (isAhead (zoneExpiryPos e placed.1.2) u.trk.h = true)
    (fun _ => .refl _) (fun _ => placed.2.fireExpiry_turn p))
  refine .ite _ (fun _ => ?_) (fun _ => h3)
  exact h3.trans (.trans (walk_turn _ _ _ _ _) (State.lateSplices_turn _ _ _ _))

theorem State.takeSplice_turn (s : State) (p : Ply) : Turn s (s.takeSplice p) := by
  unfold State.takeSplice
  refine .ite _ (fun _ => .refl s) (fun _ => ?_)
  split
  · exact .refl s
  · exact .ite _ (fun _ => s.spliceTaken_turn _ _) (fun _ => .refl s)

end Sys2Proof.Machine
end

