-- ==== Sys2Proof/Laws/TurnsConditions.lean ====
section
/-! SUPPORT. Warm reset, power-fail save and recovery as turns. -/

namespace Sys2Proof.Machine

/-! ## What keeps the rows of the pipeline -/

theorem State.endLevel_rows (s : State) (c : StopCause) : (s.endLevel c).pipe = s.pipe := by
  obtain ⟨u, l, q, h⟩ := s.endLevel_eq c
  rw [h]
  rfl

theorem State.clearReserve_rows (s : State) : s.clearReserve.pipe.rows = s.pipe.rows := by
  obtain ⟨b, u, l, q, h⟩ := s.clearReserve_eq
  rw [h]
  rfl

theorem State.marksOff_pipe (s : State) : s.marksOff.pipe = s.pipe := by
  unfold State.marksOff
  simp only [Ply.all, List.foldl_cons, List.foldl_nil, State.endLevel_rows]
  rfl

theorem State.returnToFree_rows (s : State) : s.returnToFree.pipe.rows = s.pipe.rows := by
  unfold State.returnToFree
  dsimp only
  split
  · simp [State.zonesOff, State.unschedule, State.marksOff_pipe]
  · rw [State.clearReserve_rows]
    simp [State.zonesOff, State.unschedule, State.marksOff_pipe]

theorem State.testFree_rows (s : State) : s.testFree.pipe.rows = s.pipe.rows := by
  unfold State.testFree
  split
  · exact s.returnToFree_rows
  · rfl

theorem State.emptyFeedOf_pipe (s : State) (id : Nat) : (s.emptyFeedOf id).pipe = s.pipe := by
  unfold State.emptyFeedOf
  split
  · split <;> rfl
  · rfl

theorem State.resetJob_pipe (s : State) (j : Job) : (s.resetJob j).pipe = s.pipe := by
  unfold State.resetJob
  split
  · exact State.emptyFeedOf_pipe _ _
  · rfl
  · exact State.emptyFeedOf_pipe _ _
  · rfl

theorem resetJobs_foldl_pipe (js : List Job) : ∀ s : State, (js.foldl State.resetJob s).pipe = s.pipe := by
  induction js with
  | nil => intro s; rfl
  | cons j js ih => intro s; exact (ih _).trans (s.resetJob_pipe j)

theorem State.resetJobs_pipe (s : State) : s.resetJobs.pipe = s.pipe := resetJobs_foldl_pipe _ s

theorem State.emptyPipeline_rows (s : State) (cause : VoidCause) : (s.emptyPipeline cause).pipe.rows = [] := by
  unfold State.emptyPipeline
  dsimp only
  rw [State.testFree_rows]
  rfl

/-! ## Warm reset -/

theorem PortState.cleared_bounded (x : PortState) (h : x.Bounded) : x.cleared.Bounded :=
  ⟨h.1, h.2.1, fun h => by simp [PortState.cleared] at h⟩

theorem State.clearBlocks_turn (s : State) : Turn s s.clearBlocks := by
  unfold State.clearBlocks
  dsimp only
  refine .trans ?_ (turn_port _ .panel _ (PortState.cleared_bounded _) ⟨rfl, rfl, rfl, rfl⟩)
  refine .trans ?_ (turn_port _ .line _ (PortState.cleared_bounded _) ⟨rfl, rfl, rfl, rfl⟩)
  refine .trans ?_ (State.clearStop_turn _ _)
  refine .trans ?_ (turn_monitors _ _ (fun hm i => ?_))
  · refine .trans ?_ (turn_pipe' _ _ rfl)
    refine .trans ?_ (turn_trk' _ _ rfl rfl rfl)
    refine .trans ?_ (.ite _ (fun h => State.returnToFree_turn _ h) (fun _ => .refl _))
    refine .trans ?_ (State.endAllExpectations_turn _)
    exact s.zonesOff_turn
  · have := hm i
    simp only [Monitor.Below, PerMon.get_map] at this ⊢
    omega

theorem State.beginReset_turn (s : State) : Turn s s.beginReset := by
  unfold State.beginReset
  dsimp only
  refine .trans ?_ (State.abandonAll_turn _)
  refine .trans ?_ (State.clearReserve_turn _)
  refine .trans ?_ (State.emptyPipeline_turn _ _)
  exact turn_audit' _ _ rfl rfl rfl rfl

/-- A begun reset has emptied the pipeline. -/
theorem State.beginReset_rows (s : State) : s.beginReset.pipe.rows = [] := by
  unfold State.beginReset
  dsimp only
  exact (State.clearReserve_rows _).trans (State.emptyPipeline_rows _ _)

theorem State.setResetStage_turn (s : State) (x : ResetStage) : Turn s (s.setResetStage x) :=
  turn_audit' _ _ rfl rfl rfl rfl

theorem State.resetStep_turn (s : State) : Turn s s.resetStep := by
  unfold State.resetStep
  split
  · exact ((s.setResetStage_turn _).trans (State.resetJobs_turn _)).trans (State.testFree_turn _)
  · exact (s.setResetStage_turn _).trans (State.clearBlocks_turn _)
  · exact .refl s

theorem resetSteps_turn (n : Nat) : ∀ s : State, Turn s (resetSteps n s) := by
  induction n with
  | zero => intro s; exact .refl s
  | succ n ih => intro s; exact s.resetStep_turn.trans (ih _)

theorem State.advanceReset_turn (s : State) : Turn s s.advanceReset :=
  (s.choose_turn _).trans (resetSteps_turn _ _)

/-- What `advanceReset` can do: nothing with no step to come, else some number of steps up to those to come, taken with the
choice counted. -/
theorem State.advanceReset_eq (s : State) : (s.resetLeft = 0 ∧ s.advanceReset = s) ∨
    (0 < s.resetLeft ∧ ∃ n, n ≤ s.resetLeft ∧ s.advanceReset = resetSteps n (s.setFreeIndex (s.freeIndex + 1))) := by
  unfold State.advanceReset State.choose
  split
  · exact .inl ⟨by omega, rfl⟩
  · exact .inr ⟨by omega, _, Nat.le_of_lt_succ (Nat.mod_lt _ (by omega)), rfl⟩

theorem State.requestReset_turn (s : State) : Turn s s.requestReset := by
  unfold State.requestReset
  split
  · exact s.beginReset_turn.trans (State.advanceReset_turn _)
  · exact s.beginReset_turn.trans (State.advanceReset_turn _)
  · exact turn_audit' _ _ rfl rfl rfl rfl
  · exact .refl s
  · exact .refl s

theorem State.setCondition_turn (s : State) (c : Condition) : Turn s (s.setCondition c) :=
  turn_audit' _ _ rfl rfl rfl rfl

theorem State.endReset_turn (s : State) : Turn s s.endReset := by
  unfold State.endReset
  dsimp only
  refine .trans ?_ (State.syncAll_turn _)
  refine .trans ?_ (turn_audit' _ _ rfl rfl rfl rfl)
  have h : Turn s (((resetSteps s.resetLeft s).setCondition .normal).raiseBoth .resetDone) :=
    ((resetSteps_turn _ s).trans (State.setCondition_turn _ _)).trans (State.raiseBoth_turn _ _)
  generalize ((resetSteps s.resetLeft s).setCondition .normal).raiseBoth .resetDone = u at h ⊢
  have h2 : Turn s (if u.audit.notifyLevel ≤ u.audit.voids.length then u.raiseBoth .voidReady else u) :=
    .ite _ (fun _ => h.trans (u.raiseBoth_turn _)) (fun _ => h)
  generalize (if u.audit.notifyLevel ≤ u.audit.voids.length then u.raiseBoth .voidReady else u) = w at h2 ⊢
  exact .ite _ (fun _ => h2.trans (w.raiseBoth_turn _)) (fun _ => h2)

/-! ## Power-fail save and recovery -/

theorem State.beginSave_turn (s : State) : Turn s s.beginSave := by
  unfold State.beginSave
  refine .trans ?_ (State.abandonAll_turn _)
  refine .trans ?_ (State.emptyPipeline_turn _ _)
  exact s.setCondition_turn _

theorem State.warnPower_turn (s : State) : Turn s s.warnPower := by
  unfold State.warnPower
  split
  · exact s.beginSave_turn
  · exact s.beginSave_turn
  · exact .refl s

theorem State.endSave_turn (s : State) : Turn s s.endSave := by
  unfold State.endSave
  dsimp only
  have h : Turn s (s.setAudit { s.audit with
      condition := .saved
      records := s.audit.records.map (fun r => if r.state = .opened then { r with state := .clean } else r) }) :=
    turn_audit _ _ id (fun hr => by simpa using hr) (Nat.le_refl _)
  exact .ite _ (fun _ => (h.trans (State.beginReset_turn _)).trans (State.advanceReset_turn _)) (fun _ => h)

theorem AuditStore.recovered_queue (a : AuditStore) (h : QueueOk a.queue) : QueueOk a.recovered.queue :=
  h.map _ (fun e => by split <;> rfl)

theorem State.endRecovery_turn (s : State) : Turn s s.endRecovery := by
  unfold State.endRecovery
  dsimp only
  have h : Turn s (s.setAudit s.audit.recovered) := by
    refine turn_audit _ _ s.audit.recovered_queue (fun hr => by simpa [AuditStore.recovered] using hr) ?_
    simp [AuditStore.recovered, AuditStore.voidCount]
  generalize s.setAudit s.audit.recovered = u at h ⊢
  have h1 : Turn s (if u.audit.records = [] then u else u.raiseAt .line .recovery) :=
    .ite _ (fun _ => h) (fun _ => h.trans (u.raiseAt_turn _ _))
  generalize (if u.audit.records = [] then u else u.raiseAt .line .recovery) = w at h1 ⊢
  have h2 : Turn s (if w.audit.voids = [] then w else w.raiseBoth .voidReady) :=
    .ite _ (fun _ => h1) (fun _ => h1.trans (w.raiseBoth_turn _))
  generalize (if w.audit.voids = [] then w else w.raiseBoth .voidReady) = x at h2 ⊢
  have h3 := h2.trans x.syncAll_turn
  exact .ite _ (fun _ => h3.trans (State.beginSave_turn _)) (fun _ => h3)

end Sys2Proof.Machine
end

