-- ==== Sys2Proof/Laws/TurnsRequests.lean ====
section
/-! SUPPORT. Every request rule as a turn, but for the acknowledgement's port, which keeps its traffic too. -/

namespace Sys2Proof.Machine

/-! ## Jobs -/

theorem JobsOk.load {js : List Job} (id : Nat) (port : Port) (plan : Plan) (follow : Bool)
    (hn : ∀ j ∈ js, j.id ≠ id) (hl : js.length < 4) (h : JobsOk js) :
    JobsOk (js ++ [loadedJob id port plan follow]) := by
  refine ⟨by simp; omega, ?_, ?_⟩
  · rw [List.map_append, List.nodup_append]
    refine ⟨h.2.1, by simp, ?_⟩
    intro a ha b hb
    simp only [List.map_cons, List.map_nil, List.mem_singleton] at hb
    obtain ⟨j, hj, rfl⟩ := List.mem_map.1 ha
    rw [hb]
    exact hn j hj
  · rw [List.filter_append]
    simpa [loadedJob] using h.2.2

theorem State.loadPlan_turn (s : State) (port : Port) (id : Nat) (plan : Plan) (follow : Bool) :
    Turn s (s.loadPlan port id plan follow).2 := by
  unfold State.loadPlan
  split
  · exact .refl s
  · split
    · exact .refl s
    · rename_i ht
      split
      · rename_i hl
        refine turn_jobs s _ (fun h => h.load id port plan follow (fun j hj hid => ht ?_) hl)
        unfold State.idTaken
        simp only [Bool.or_eq_true, List.any_eq_true, decide_eq_true_eq]
        exact .inl (.inl ⟨j, hj, hid⟩)
      · split <;> exact .refl s

theorem serveLoadJob_turn (port : Port) (body : List Byte) (s : State) : Turn s (serveLoadJob port body s).2 := by
  unfold serveLoadJob
  split
  · exact .refl s
  · split
    · exact .refl s
    · exact s.loadPlan_turn _ _ _ _

theorem State.openEpoch_rest (s : State) (plan : Plan) :
    (s.openEpoch plan).jobs = s.jobs ∧ (s.openEpoch plan).audit = s.audit := by
  unfold State.openEpoch
  split
  · exact ⟨rfl, rfl⟩
  · exact ⟨rfl, rfl⟩

theorem State.startTests_turn (s : State) (port : Port) (j : Job) : Turn s (s.startTests port j).2 := by
  unfold State.startTests
  split
  · exact .refl s
  split
  · exact .refl s
  split
  · exact .refl s
  split
  · exact .refl s
  rename_i hr
  split
  · exact .refl s
  rename_i hl
  split
  · exact .refl s
  have hr' : s.running = none := by
    cases h : s.running with
    | none => rfl
    | some x => exact absurd (.inl (by rw [h]; rfl)) hr
  obtain ⟨hj, ha⟩ := s.openEpoch_rest j.plan
  refine (s.openEpoch_turn j.plan).trans (State.startRunning_turn _ _ ?_ ?_)
  · unfold State.running at hr' ⊢
    rw [hj]
    exact hr'
  · rw [ha]
    exact Nat.lt_of_not_le hl

theorem serveStartJob_turn (port : Port) (body : List Byte) (s : State) : Turn s (serveStartJob port body s).2 := by
  unfold serveStartJob
  split
  · exact .refl s
  · exact s.startTests_turn _ _

theorem serveHaltJob_turn (port : Port) (body : List Byte) (s : State) : Turn s (serveHaltJob port body s).2 := by
  unfold serveHaltJob
  split
  · exact .refl s
  · split
    · exact s.drainJob_turn _ _
    · exact .refl s
    · exact .refl s
    · exact .refl s

theorem serveAbortJob_turn (port : Port) (body : List Byte) (s : State) : Turn s (serveAbortJob port body s).2 := by
  unfold serveAbortJob
  split
  · exact .refl s
  · split
    · exact (s.abortRows_turn _).trans (State.drainJob_turn _ _ _)
    · exact (s.abortRows_turn _).trans (State.drainJob_turn _ _ _)
    · exact (s.cancelLoaded_turn _).trans (State.raiseAt_turn _ _ _)
    · exact .refl s

theorem serveQueryJob_turn (port : Port) (body : List Byte) (s : State) : Turn s (serveQueryJob port body s).2 := by
  unfold serveQueryJob
  split
  · exact .refl s
  · split <;> exact .refl s

theorem JobsOk.sublist {js ks : List Job} (h : JobsOk js) (hs : ks.Sublist js) : JobsOk ks :=
  ⟨le_trans hs.length_le h.1, h.2.1.sublist (hs.map _), le_trans (hs.filter _).length_le h.2.2⟩

theorem State.emptySlot_turn (s : State) (id : Nat) : Turn s (s.emptySlot id) :=
  turn_jobs _ _ (fun h => h.sublist List.filter_sublist)

theorem serveCollectEnd_turn (port : Port) (body : List Byte) (s : State) :
    Turn s (serveCollectEnd port body s).2 := by
  unfold serveCollectEnd
  split
  · exact .refl s
  · split
    · exact .refl s
    · split
      · exact .refl s
      · exact .refl s
      · exact .refl s
      · exact s.emptySlot_turn _

theorem serveFeedNumbers_turn (port : Port) (body : List Byte) (s : State) :
    Turn s (serveFeedNumbers port body s).2 := by
  unfold serveFeedNumbers
  split
  · exact .refl s
  · dsimp only
    split
    · exact .refl s
    · split
      · exact .refl s
      · show Turn s (s.feedIn _ _)
        exact .trans (turn_gen s _) (State.updTallies_turn _ _ _)

/-! ## Audit Store -/

theorem serveReadVoids_turn (port : Port) (body : List Byte) (s : State) : Turn s (serveReadVoids port body s).2 := by
  unfold serveReadVoids
  split <;> exact .refl s

theorem State.dropVoids_turn (s : State) (n : Nat) : Turn s (s.dropVoids n) :=
  turn_audit _ _ id id (by simp [AuditStore.voidCount])

theorem serveReleaseVoids_turn (port : Port) (body : List Byte) (s : State) :
    Turn s (serveReleaseVoids port body s).2 := by
  unfold serveReleaseVoids
  dsimp only
  split
  · exact .refl s
  · split
    · exact .refl s
    · exact (s.dropVoids_turn _).trans (State.reserveFall_turn _)

theorem serveReadMakeUp_turn (port : Port) (body : List Byte) (s : State) :
    Turn s (serveReadMakeUp port body s).2 := by
  unfold serveReadMakeUp
  split <;> exact .refl s

theorem serveReleaseMakeUp_turn (port : Port) (body : List Byte) (s : State) :
    Turn s (serveReleaseMakeUp port body s).2 := by
  unfold serveReleaseMakeUp
  dsimp only
  split
  · exact .refl s
  · exact turn_audit _ _ (fun h => h.filter _) id (Nat.le_refl _)

theorem serveReadRecovery_turn (port : Port) (body : List Byte) (s : State) :
    Turn s (serveReadRecovery port body s).2 := .refl s

theorem serveDiscardRecovery_turn (port : Port) (body : List Byte) (s : State) :
    Turn s (serveDiscardRecovery port body s).2 := by
  unfold serveDiscardRecovery
  split
  · exact .refl s
  · split
    · exact .refl s
    · exact s.removeRecord_turn _

/-! ## Line and plies -/

theorem serveSetLine_turn (port : Port) (body : List Byte) (s : State) : Turn s (serveSetLine port body s).2 := by
  unfold serveSetLine
  dsimp only
  split
  · exact .refl s
  split
  · exact .refl s
  generalize decodeLine body = f
  show Turn s (s.takeLine f)
  unfold State.takeLine
  dsimp only
  have h : Turn s (s.setTrk { s.trk with
    v := f.v.getD s.trk.v, x := f.x.getD s.trk.x, reverseLimit := f.reverseLimit.getD s.trk.reverseLimit }) :=
    turn_trk' _ _ rfl rfl rfl
  exact .ite _ (fun _ => h.trans (State.testExcursion_turn _)) (fun _ => h)

theorem State.takePly_turn (s : State) (p : Ply) (f : PlyFields) : Turn s (s.takePly p f) := by
  unfold State.takePly
  dsimp only
  have h : Turn s (match f.t with
      | some t => (s.setPlies (s.plies.set p (f.over (s.plies.get p)))).updMark p
          (fun m => { m with trend := clampTrend m.trend t })
      | none => s.setPlies (s.plies.set p (f.over (s.plies.get p)))) := by
    split
    · rename_i t ht
      refine .one (.ply _ _ (fun q hq => ?_)) rfl
      simp only [PerPly.get_set]
      split
      · simp only [PlyFields.over, ht, Option.getD_some]
        exact clampTrend_bound _ _
      · exact hq
    · rename_i ht
      refine .one (t := (s.setPlies (s.plies.set p (f.over (s.plies.get p)))).setMarks s.marks) (.ply _ s.marks (fun q hq => ?_)) rfl
      simp only [PerPly.get_set]
      split
      · subst_vars
        simpa only [PlyFields.over, ht, Option.getD_none] using hq
      · exact hq
  exact .ite _ (fun _ => h.trans (State.testDrift_turn _ _)) (fun _ => h)

theorem serveSetPly_turn (port : Port) (body : List Byte) (s : State) : Turn s (serveSetPly port body s).2 := by
  unfold serveSetPly
  split
  · exact .refl s
  dsimp only
  split
  · exact .refl s
  split
  · exact .refl s
  split
  · exact .refl s
  exact s.takePly_turn _ _

theorem serveReadPly_turn (port : Port) (body : List Byte) (s : State) : Turn s (serveReadPly port body s).2 := by
  unfold serveReadPly
  split <;> exact .refl s

/-! ## Drivers and readers -/

theorem serveSetDriver_turn (port : Port) (body : List Byte) (s : State) : Turn s (serveSetDriver port body s).2 := by
  unfold serveSetDriver
  split
  · exact .refl s
  dsimp only
  split
  · exact .refl s
  split
  · exact .refl s
  split
  · exact .refl s
  exact s.updDriver_turn _ _ id

theorem serveReadDriver_turn (port : Port) (body : List Byte) (s : State) :
    Turn s (serveReadDriver port body s).2 := by
  unfold serveReadDriver
  split <;> exact .refl s

theorem serveReadReader_turn (port : Port) (body : List Byte) (s : State) :
    Turn s (serveReadReader port body s).2 := by
  unfold serveReadReader
  split
  · exact .refl s
  · dsimp only
    split <;> exact .refl s

/-! ## Mark capture -/

theorem serveArmCapture_turn (port : Port) (body : List Byte) (s : State) :
    Turn s (serveArmCapture port body s).2 := by
  unfold serveArmCapture
  split
  · exact .refl s
  split
  · exact turn_trk' _ _ rfl rfl rfl
  split
  · exact .refl s
  split
  · exact .refl s
  split
  · exact .refl s
  exact turn_trk' _ _ rfl rfl rfl

theorem serveReadCapture_turn (port : Port) (body : List Byte) (s : State) :
    Turn s (serveReadCapture port body s).2 := by
  unfold serveReadCapture
  split <;> exact .refl s

/-! ## Stop Unit -/

theorem serveSetStopMask_turn (port : Port) (body : List Byte) (s : State) :
    Turn s (serveSetStopMask port body s).2 := by
  unfold serveSetStopMask
  split
  · exact .refl s
  · exact s.setMask_turn _

theorem serveReadLine_turn (port : Port) (body : List Byte) (s : State) : Turn s (serveReadLine port body s).2 :=
  .refl s

theorem serveReadStop_turn (port : Port) (body : List Byte) (s : State) : Turn s (serveReadStop port body s).2 :=
  .refl s

theorem serveClearStop_turn (port : Port) (body : List Byte) (s : State) : Turn s (serveClearStop port body s).2 := by
  unfold serveClearStop
  split
  · exact .refl s
  · exact s.clearStop_turn _

/-! ## Monitors and tallies -/

theorem decodeMonitor_below (body : List Byte) (old x : Monitor) (h : decodeMonitor body old = some x) : x.Below := by
  unfold decodeMonitor at h
  dsimp only at h
  generalize (if fieldAt 1 1 body = 2 ∨ fieldAt 1 1 body = 4 then 3 else 2) = off at h
  cases hs : decodeMonitorSource (fieldAt 1 1 body) (fieldAt 2 1 body) with
  | none => simp [hs] at h
  | some src =>
    simp only [hs] at h
    split at h
    · rename_i hc
      obtain rfl := Option.some.inj h
      exact hc.2.2.2.2.1
    · cases h

theorem serveSetMonitor_turn (port : Port) (body : List Byte) (s : State) :
    Turn s (serveSetMonitor port body s).2 := by
  unfold serveSetMonitor
  split
  · exact .refl s
  split
  · exact .refl s
  · rename_i x hx
    refine turn_monitors _ _ (fun hm i => ?_)
    simp only [PerMon.get_set]
    split
    · exact decodeMonitor_below _ _ _ hx
    · exact hm i

theorem serveReadMonitor_turn (port : Port) (body : List Byte) (s : State) :
    Turn s (serveReadMonitor port body s).2 := by
  unfold serveReadMonitor
  split <;> exact .refl s

theorem serveReadTallies_turn (port : Port) (body : List Byte) (s : State) :
    Turn s (serveReadTallies port body s).2 := by
  unfold serveReadTallies
  split
  · exact .refl s
  split
  · exact .refl s
  split <;> exact .refl s

theorem serveClearShift_turn (port : Port) (body : List Byte) (s : State) :
    Turn s (serveClearShift port body s).2 := by
  unfold serveClearShift
  exact .trans (turn_shift s _) (turn_pipe' _ _ rfl)

/-! ## Ports -/

theorem serveSetNotify_turn (port : Port) (body : List Byte) (s : State) : Turn s (serveSetNotify port body s).2 := by
  unfold serveSetNotify
  dsimp only
  split
  · exact .refl s
  · refine .trans ?_ (turn_gen _ _)
    exact turn_audit' _ _ rfl rfl rfl rfl

theorem PortState.acknowledged_bounded (x : PortState) (c : AttentionSet) (h : x.Bounded) :
    (x.acknowledged c).Bounded := by
  refine ⟨h.1, h.2.1, ?_⟩
  unfold PortState.acknowledged
  dsimp only
  split
  · intro h; cases h
  · rename_i hne; exact fun _ => hne

theorem serveAcknowledge_turn (port : Port) (body : List Byte) (s : State) :
    Turn s (serveAcknowledge port body s).2 := by
  unfold serveAcknowledge
  split
  · exact .refl s
  · exact turn_port s port _ (PortState.acknowledged_bounded _ _) ⟨rfl, rfl, rfl, rfl⟩

theorem serveLineSummary_turn (port : Port) (body : List Byte) (s : State) :
    Turn s (serveLineSummary port body s).2 := .refl s

theorem serveReset_turn (port : Port) (body : List Byte) (s : State) : Turn s (serveReset port body s).2 :=
  s.requestReset_turn

/-- A request served is a turn, whatever its kind. -/
theorem serve_turn (k : RequestKind) (port : Port) (body : List Byte) (s : State) : Turn s (serve k port body s).2 := by
  cases k
  · exact serveLoadJob_turn port body s
  · exact serveStartJob_turn port body s
  · exact serveHaltJob_turn port body s
  · exact serveAbortJob_turn port body s
  · exact serveQueryJob_turn port body s
  · exact serveCollectEnd_turn port body s
  · exact serveFeedNumbers_turn port body s
  · exact serveReadVoids_turn port body s
  · exact serveReleaseVoids_turn port body s
  · exact serveReadMakeUp_turn port body s
  · exact serveReleaseMakeUp_turn port body s
  · exact serveReadRecovery_turn port body s
  · exact serveDiscardRecovery_turn port body s
  · exact serveSetLine_turn port body s
  · exact serveReadLine_turn port body s
  · exact serveSetPly_turn port body s
  · exact serveReadPly_turn port body s
  · exact serveSetDriver_turn port body s
  · exact serveReadDriver_turn port body s
  · exact serveReadReader_turn port body s
  · exact serveArmCapture_turn port body s
  · exact serveReadCapture_turn port body s
  · exact serveSetStopMask_turn port body s
  · exact serveReadStop_turn port body s
  · exact serveClearStop_turn port body s
  · exact serveSetMonitor_turn port body s
  · exact serveReadMonitor_turn port body s
  · exact serveReadTallies_turn port body s
  · exact serveClearShift_turn port body s
  · exact serveSetNotify_turn port body s
  · exact serveAcknowledge_turn port body s
  · exact serveLineSummary_turn port body s
  · exact serveReset_turn port body s

end Sys2Proof.Machine
end

