-- ==== Sys2Proof/Laws/Courses.lean ====
section
/-! SUPPORT. The ports' operations and the commands as courses: every command but POWER_UP and the two encoder counts is a
`Course`, and an encoder count is a course before and after its change of A and H. -/

namespace Sys2Proof.Machine

/-! ## Ports -/

theorem PortState.SameTraffic.addReply_bounded {x y : PortState} (h : x.SameTraffic y) (f : ReplyFrame)
    (rest : List Request) (hr : x.replies.length < 4) (hh : x.held.length ≤ 2 → rest.length ≤ 2) (hx : x.held.length ≤ 2)
    (hy : y.Bounded) : ({ y with held := rest }.addReply f).Bounded := by
  refine ⟨hh hx, ?_, hy.2.2⟩
  have := h.replies
  simp only [PortState.addReply, List.length_append, List.length_cons, List.length_nil, this]
  omega

theorem State.answer_turn (s : State) (port : Port) (r : Request) (x : Served) (h : s.answer port r = some x) :
    Turn s x.2 := by
  unfold State.answer at h
  split at h
  · cases h; exact .refl s
  · split at h
    · cases h; exact .refl s
    · split at h
      · cases h; exact .refl s
      · split at h
        · cases h
        · cases h; exact .refl s
        · cases h; exact serve_turn _ _ _ _

theorem State.serveHead_course (s t : State) (port : Port) (h : s.serveHead port = some t) : Course s t := by
  unfold State.serveHead at h
  split at h
  · cases h
  · rename_i hr
    split at h
    · cases h
    · rename_i r rest hheld
      split at h
      · cases h
      · rename_i x s' ha
        cases h
        have ht := s.answer_turn port r _ ha
        refine ht.course.trans (course_port _ _ _ (fun hb => ?_))
        refine (ht.traffic port).addReply_bounded _ _ (Nat.lt_of_not_le hr) (fun hl => ?_) ?_ hb
        · rw [hheld] at hl
          simp only [List.length_cons] at hl
          omega
        · rw [← (ht.traffic port).held]
          exact hb.1

theorem servePort_course (port : Port) (n : Nat) : ∀ s : State, Course s (servePort port n s) := by
  induction n with
  | zero => intro s; exact .refl s
  | succ n ih =>
    intro s
    unfold servePort
    split
    · exact .refl s
    · rename_i h; exact (s.serveHead_course _ port h).trans (ih _)

theorem State.pump_course (s : State) (port : Port) : Course s (s.pump port) := servePort_course _ _ s

theorem serveBoth_course (n : Nat) : ∀ s : State, Course s (serveBoth n s) := by
  induction n with
  | zero => intro s; exact .refl s
  | succ n ih =>
    intro s
    unfold serveBoth
    split
    · exact .refl s
    · rename_i h _; exact (s.serveHead_course _ _ h).trans (ih _)
    · rename_i h; exact (s.serveHead_course _ _ h).trans (ih _)
    · split
      · rename_i h; exact ((s.choose_turn 2).course.trans (State.serveHead_course _ _ _ h)).trans (ih _)
      · exact .refl s

theorem State.pumpBoth_course (s : State) : Course s s.pumpBoth := serveBoth_course _ s

theorem State.arrive_course (s : State) (port : Port) (r : Request) : Course s (s.arrive port r) := by
  unfold State.arrive
  dsimp only
  split
  · split
    · exact .refl s
    · rename_i hr
      refine course_port _ _ _ (fun hb => ⟨hb.1, ?_, hb.2.2⟩)
      have := Nat.lt_of_not_le hr
      simp only [PortState.addReply, List.length_append, List.length_cons, List.length_nil, replyCapacity] at this ⊢
      omega
  · rename_i hh
    refine .trans ?_ (State.pump_course _ _)
    refine course_port _ _ _ (fun hb => ⟨?_, hb.2.1, hb.2.2⟩)
    have := Nat.lt_of_not_le hh
    simp only [List.length_append, List.length_cons, List.length_nil, heldCapacity] at this ⊢
    omega

theorem State.setReceiver_course (s : State) (port : Port) (x : Receiver) : Course s (s.setReceiver port x) :=
  course_port _ _ _ id

theorem State.receive_course (s : State) (port : Port) (r : Request) : Course s (s.receive port r) := by
  unfold State.receive
  split
  · exact .refl s
  · split
    · exact s.setReceiver_course _ _
    · exact (s.setReceiver_course _ _).trans (State.arrive_course _ _ _)

theorem State.takeByte_course (s : State) (port : Port) (b : Byte) : Course s (s.takeByte port b) := by
  unfold State.takeByte
  split
  · exact .refl s
  · split
    · split
      · exact s.setReceiver_course _ _
      · exact .refl s
    · split
      · exact s.setReceiver_course _ _
      · exact s.setReceiver_course _ _
      · exact s.receive_course _ _

theorem PortState.started_bounded (x : PortState) (h : x.Bounded) : x.started.Bounded := by
  unfold PortState.started
  split
  · exact h
  · split
    · exact h
    · split
      · exact ⟨h.1, h.2.1, fun h => by simp at h⟩
      · exact h

theorem PortState.sent_bounded (x : PortState) (h : x.Bounded) : x.sent.Bounded := by
  unfold PortState.sent
  split
  · exact h
  · refine ⟨h.1, le_trans ?_ h.2.1, h.2.2⟩
    simp
  · exact h

theorem State.startSending_course (s : State) : Course s s.startSending :=
  (course_port s .line _ (PortState.started_bounded _)).trans (course_port _ .panel _ (PortState.started_bounded _))

theorem State.frameSent_course (s : State) (port : Port) : Course s (s.frameSent port) := by
  unfold State.frameSent
  split
  · exact .refl s
  · exact .trans (course_port _ _ _ (fun h => PortState.started_bounded _ (PortState.sent_bounded _ h)))
      (State.pump_course _ _)

/-! ## Position events -/

theorem State.fireEvent_turn (s : State) (ev : PosEvent) : Turn s (s.fireEvent ev) := by
  unfold State.fireEvent
  split
  · exact s.fireWindow_turn _
  · exact s.fireExpiry_turn _
  · exact s.fireSend_turn _ _
  · exact s.fireMerge_turn _
  · exact s.fireMarker_turn _
  · exact s.fireDelivery_turn _
  · exact s.firePulseEnd_turn _

theorem takeDue_turn (f : PosEvent → Bool) (n : Nat) : ∀ s : State, Turn s (takeDue f n s) := by
  induction n with
  | zero => intro s; exact .refl s
  | succ n ih =>
    intro s
    unfold takeDue
    dsimp only
    split
    · exact ((s.choose_turn _).trans (State.fireEvent_turn _ _)).trans (ih _)
    · exact .refl s

theorem State.settle_turn (s : State) (f : PosEvent → Bool) : Turn s (s.settle f) := takeDue_turn f _ s

theorem State.caughtUp_turn (s : State) (f : PosEvent → Bool) : Turn s (s.caughtUp f) :=
  (s.settle_turn f).trans (State.advanceReset_turn _)

/-! ## Commands -/

/-- What a turn leaves, with the transmitters started, is a course. -/
theorem Turn.finished {s u t : State} (h : Turn s u) (ht : finish u = .next t) : Course s t := by
  obtain rfl : u.startSending = t := by simpa [finish] using ht
  exact h.course.trans u.startSending_course

/-- What a course leaves, with the transmitters started, is a course. -/
theorem Course.finished {s u t : State} (h : Course s u) (ht : finish u = .next t) : Course s t := by
  obtain rfl : u.startSending = t := by simpa [finish] using ht
  exact h.trans u.startSending_course

theorem request_course (port : Port) (kind tag : Byte) (body : List Byte) (s t : State)
    (h : request port kind tag body s = .next t) : Course s t := (s.receive_course port _).finished h

theorem takeBytes_course (port : Port) (bytes : List Byte) : ∀ s : State,
    Course s (bytes.foldl (fun s b => s.takeByte port b) s) := by
  induction bytes with
  | nil => intro s; exact .refl s
  | cons b bs ih => intro s; exact (s.takeByte_course port b).trans (ih _)

theorem State.takeReady_turn (s : State) (d : Driver) : Turn s (s.takeReady d) := by
  unfold State.takeReady
  refine .trans ?_ (State.sendHead_turn _ _)
  refine .trans ?_ (State.endLevel_turn _ _)
  exact s.updDriver_turn _ _ (fun _ => ⟨by simp [DriverRec.restarted, DriverRec.abandon],
    by simp [DriverRec.restarted, DriverRec.abandon], by simp [DriverRec.restarted]⟩)

/-- A matched reply's driver keeps its orders, and its no-reply count or 0. -/
theorem DriverRec.after_ordersOk (d : DriverRec) (h : d.OrdersOk) :
    d.afterDone.OrdersOk ∧ d.afterLate.OrdersOk ∧ d.afterFault.OrdersOk ∧ d.afterNotReady.OrdersOk :=
  ⟨⟨h.1, h.2.1, Nat.zero_le _⟩, ⟨h.1, h.2.1, Nat.zero_le _⟩, ⟨h.1, h.2.1, Nat.zero_le _⟩, h⟩

/-- The commands that are no courses: POWER_UP and the encoder counts. -/
def Outside : Instr → Prop
  | .powerUp _ => True
  | .forwardCount => True
  | .reverseCount => True
  | _ => False

/-- Every command but POWER_UP and the encoder counts is a course. -/
theorem exec_course (i : Instr) (s t : State) (hi : ¬Outside i) (h : exec i s = .next t) : Course s t := by
  cases i with
  | powerUp _ => exact absurd trivial hi
  | forwardCount => exact absurd trivial hi
  | reverseCount => exact absurd trivial hi
  | recoveryComplete => exact Turn.finished (.ite _ (fun _ => s.endRecovery_turn) (fun _ => .refl s)) h
  | cueMarkDetection p => exact (s.takeMark_turn p).finished h
  | markWindowEnd p => exact (s.fireWindow_turn p).finished h
  | spliceDetection p => exact (s.takeSplice_turn p).finished h
  | zoneExpiry p => exact (s.fireExpiry_turn p).finished h
  | sendPosition p row => exact (s.fireSend_turn p row).finished h
  | doneReply d m =>
    exact (s.takeReply_turn d m _ Row.orderDone (fun x hx => (x.after_ordersOk hx).1) (fun _ _ => Nat.le_refl _)).finished h
  | lateReply d m =>
    exact (s.takeReply_turn d m _ _ (fun x hx => (x.after_ordersOk hx).2.1)
      (fun p r => Nat.le_of_eq ((Row.addCause_numbered _ _).trans (Row.updPly_numbered _ _ _)))).finished h
  | faultReply d m lanes =>
    exact (s.takeReply_turn d m _ _ (fun x hx => (x.after_ordersOk hx).2.2.1)
      (fun p r => Nat.le_of_eq (r.fault_numbered p _))).finished h
  | notReadyReply d m =>
    exact (s.takeReply_turn d m _ _ (fun x hx => (x.after_ordersOk hx).2.2.2)
      (fun p r => Nat.le_of_eq (r.fault_numbered p _))).finished h
  | readyNotice d => exact (s.takeReady_turn d).finished h
  | headLinkDiscard d =>
    cases d with
    | none => exact (Turn.refl s).finished h
    | some d => exact (s.countDriver_turn d _).finished h
  | readResult p r => exact (s.takeRead_turn p r).finished h
  | merge row => exact (s.fireMerge_turn row).finished h
  | marker row => exact (s.fireMarker_turn row).finished h
  | pulseEnd l => exact (s.firePulseEnd_turn l).finished h
  | delivery row => exact (s.fireDelivery_turn row).finished h
  | appendComplete => exact Turn.finished (.ite _ (fun _ => .refl s) (fun _ => s.completeAppend_turn)) h
  | resetLine => exact s.requestReset_turn.finished h
  | resetComplete =>
    refine Course.finished (u := if s.audit.condition = .resetting ∧ s.audit.inFlight = [] then s.endReset.pumpBoth else s)
      ?_ h
    split
    · exact s.endReset_turn.course.trans (State.pumpBoth_course _)
    · exact .refl s
  | powerFailWarning asserted =>
    cases asserted with
    | false => exact (turn_powerFail s false).finished h
    | true =>
      exact (((turn_powerFail s true).trans (State.warnPower_turn _)).course.trans (State.pumpBoth_course _)).finished h
  | saveComplete => exact Turn.finished (.ite _ (fun _ => s.endSave_turn) (fun _ => .refl s)) h
  | frameGapTimeout port => exact (s.setReceiver_course port _).finished h
  | frameDiscard port bytes => exact (takeBytes_course port bytes s).finished h
  | frameSent port => exact (s.frameSent_course port).finished h
  | _ => exact request_course _ _ _ _ s t h

/-- FORWARD_COUNT: what was still to come about taken, the Tracker moved, and nothing else but the transmitters started. -/
theorem exec_forward (s t : State) (h : exec .forwardCount s = .next t) :
    Course ((s.caughtUp (fun _ => true)).setTrk (s.caughtUp (fun _ => true)).trk.forward) t := (Turn.refl _).finished h

/-- REVERSE_COUNT: what was still to come about taken, the Tracker moved, the excursion tested, and nothing else but the transmitters
started. -/
theorem exec_reverse (s t : State) (h : exec .reverseCount s = .next t) :
    Course ((s.caughtUp s.takenBeforeReverse).setTrk (s.caughtUp s.takenBeforeReverse).trk.reverse) t := (State.testExcursion_turn _).finished h

/-- Every command answers a next state. -/
theorem exec_answers (i : Instr) (s : State) : ∃ t, exec i s = .next t := by
  cases i <;> exact ⟨_, rfl⟩

end Sys2Proof.Machine
end

