-- ==== Sys2Proof/WellFormed.lean ====
section
/-! DEFINITION. Which commands are well formed: operands that the event or the message can carry. -/

namespace Sys2Proof

/-- The largest row index (R73). -/
def maxRow : Nat := 4294967295

/-- A reply a driver can send: a ply number 1 to 6 and a row index (Table 6-1). -/
def LinkReply.wf (m : LinkReply) : Bool := decide (1 ≤ m.ply ∧ m.ply ≤ 6) && decide (m.row ≤ maxRow)

/-- A body of 0 to 240 bytes (R172). -/
def bodyWf (body : List Byte) : Bool := decide (body.length ≤ 240)

/-- A kind byte of a request that is in no row of Table 11-4 and below 0x80 (R172, R173). -/
def unknownKindWf (kind : Byte) : Bool := (Machine.requestKind kind).isNone && !Machine.isReplyKind kind

/-- The command is well formed. A FAULT names 1 to 4 lanes (Table 6-1); a row index is at most 2^32 − 1; a body has at
most 240 bytes; an unknown request has a kind that Table 11-4 does not list. Other operands are well formed at every
value. -/
def Instr.wellFormed : Instr → Bool
  | .powerUp _ => true
  | .recoveryComplete => true
  | .forwardCount => true
  | .reverseCount => true
  | .cueMarkDetection _ => true
  | .markWindowEnd _ => true
  | .spliceDetection _ => true
  | .zoneExpiry _ => true
  | .sendPosition _ row => decide (row ≤ maxRow)
  | .doneReply _ m => m.wf
  | .lateReply _ m => m.wf
  | .faultReply _ m lanes =>
    m.wf && decide (1 ≤ lanes.length ∧ lanes.length ≤ 4) && lanes.all (fun n => decide (1 ≤ n ∧ n ≤ 4))
  | .notReadyReply _ m => m.wf
  | .readyNotice _ => true
  | .headLinkDiscard _ => true
  | .readResult _ _ => true
  | .merge row => decide (row ≤ maxRow)
  | .marker row => decide (row ≤ maxRow)
  | .pulseEnd _ => true
  | .delivery row => decide (row ≤ maxRow)
  | .appendComplete => true
  | .resetLine => true
  | .resetComplete => true
  | .powerFailWarning _ => true
  | .saveComplete => true
  | .frameGapTimeout _ => true
  | .frameDiscard _ _ => true
  | .frameSent _ => true
  | .unknownRequest _ kind _ body => unknownKindWf kind && bodyWf body
  | .loadJob _ _ body => bodyWf body
  | .startJob _ _ body => bodyWf body
  | .haltJob _ _ body => bodyWf body
  | .abortJob _ _ body => bodyWf body
  | .queryJob _ _ body => bodyWf body
  | .collectEnd _ _ body => bodyWf body
  | .feedNumbers _ _ body => bodyWf body
  | .readVoids _ _ body => bodyWf body
  | .releaseVoids _ _ body => bodyWf body
  | .readMakeUp _ _ body => bodyWf body
  | .releaseMakeUp _ _ body => bodyWf body
  | .readRecovery _ _ body => bodyWf body
  | .discardRecovery _ _ body => bodyWf body
  | .setLine _ _ body => bodyWf body
  | .readLine _ _ body => bodyWf body
  | .setPly _ _ body => bodyWf body
  | .readPly _ _ body => bodyWf body
  | .setDriver _ _ body => bodyWf body
  | .readDriver _ _ body => bodyWf body
  | .readReader _ _ body => bodyWf body
  | .armCapture _ _ body => bodyWf body
  | .readCapture _ _ body => bodyWf body
  | .setStopMask _ _ body => bodyWf body
  | .readStop _ _ body => bodyWf body
  | .clearStop _ _ body => bodyWf body
  | .setMonitor _ _ body => bodyWf body
  | .readMonitor _ _ body => bodyWf body
  | .readTallies _ _ body => bodyWf body
  | .clearShift _ _ body => bodyWf body
  | .setNotify _ _ body => bodyWf body
  | .acknowledgeAttention _ _ body => bodyWf body
  | .lineSummary _ _ body => bodyWf body
  | .reset _ _ body => bodyWf body

end Sys2Proof
end

