-- ==== Sys2Proof/Tests/Slice0.lean ====
section
/-! SUPPORT. Tests. The expected results are the spec's own worked examples, each test naming its table or section; where
there is none, a hand calculation from the rule named. The last part refuses an ill-formed term for each check of
WellFormed. Witnesses for the statements' premises stand in Tests/Witnesses.lean. -/

namespace Sys2Proof.Tests
open Sys2Proof Sys2Proof.Machine

-- One theorem at a time: a kernel evaluation waits for every earlier one, and each that waits holds a thread.
set_option Elab.async false

/-! ## The line of the worked examples -/

/-- The reset state in NORMAL. -/
def base : State := { State.reset with audit := { State.reset.audit with condition := .normal } }

/-- What a command answers, as a state. -/
def ran (i : Instr) (s : State) : State :=
  match exec i s with
  | .next t => t
  | _ => s

/-- The last reply formed at the line port. -/
def lastReply (s : State) : Option Reply := s.line.replies.getLast?.map ReplyFrame.reply

/-- The plan of section 5.11. -/
def plan : Plan :=
  { width := 7, first := 4711, step := 1, direction := .up, count := 1000, lanes := 2, mode := .interleaved,
    check := .mod10w, source := .sequence, accounting := .strict, policy := .strict, repeatUm := 93133, mask := 7 }

/-- The Load Job body of that plan, written byte by byte from Table 11-7, for job 7 without FOLLOW. -/
def planBody : List Byte :=
  [0x00, 0x07, 0x00, 0x07, 0x00, 0x00, 0x00, 0x12, 0x67, 0x00, 0x01, 0x00, 0x00, 0x03, 0xE8, 0x02, 0x00, 0x02, 0x00,
   0x00, 0x02, 0x01, 0x6B, 0xCD, 0x07]

/-- A job of the line port. -/
def job (id : Nat) (st : JobState) (p : Plan) : Job :=
  { id := id, owner := .line, plan := p, follow := false, state := st, drain := none, draw := none,
    tallies := ⟨0, 0, 0, 0, 0, 0, 0, 0⟩, endRec := none }

/-- The settings of a ply of Tables 1-7 and 3-2, and of the run of Table 2-5. -/
def ply (d q l : Nat) : PlySettings :=
  { d := d, l := l, q := q, s := 5000, mb := 500, ma := 2000, reader := true, w := 200, t := 40, driftLimit := 8 }

/-- The plies of Table 1-7. -/
def plies : PerPly PlySettings :=
  ⟨ply 48000 9000 30000, ply 40000 8000 25000, ply 48000 10000 36000, powerUpPly, powerUpPly, powerUpPly⟩

/-- The line of section 1.6 in the epoch of Table 1-4, job 7 running, A and H at h. -/
def press (h : Pos) : State := { base with
  trk := { base.trk with
    a := h
    h := h
    v := 6000
    x := 24000
    epoch := some { repeatUm := 93133, mask := 7, refPly := .p1, dRef := 48000, o0 := some 1000000 } }
  plies := plies
  jobs := [job 7 .running plan]
  pipe := { base.pipe with nextIndex := some 0 } }

/-- Row k as drawn at draw count k of the plan. -/
def row (k : Nat) : Row :=
  { k := k, origin := rowOrigin 1000000 93133 k, job := 7, kind := .numbered, blank := none, lanes := plan.sequenceLanes k
    plies := [.p1, .p2, .p3].map (fun p =>
      { ply := p, assign := .none, order := .notDue, reads := PerLane.all .noneExpected })
    stage := .opened, misreads := 0, headFaults := 0 }

/-- The press holding some rows, the next index being n. -/
def held (h : Pos) (rows : List Row) (n : Nat) : State := { press h with
  pipe := { base.pipe with
    rows := rows
    nextIndex := some n }
  gen := { base.gen with r := n } }

/-- Driver 2 INVERTED. -/
def inverted : PerDriver DriverRec := ⟨powerUpDriver, { powerUpDriver with orientation := .inverted }, powerUpDriver⟩

/-! ## The row schedule, the mapping and the geometry check -/

/-- Tables 1-4, 1-5 and 2-4. -/
theorem test_row_origins : (List.range 4).map (fun k => rowOffset 93133 (k : Nat)) = [0, 1863, 3725, 5588] ∧
    (List.range 5).map (fun k => rowOffset 60025 (k : Nat)) = [0, 1201, 2401, 3602, 4802] ∧
    rowOffset 93133 (-1) = -1863 := by decide

/-- Section 2.4, "A mapping, worked", the tie of the same section, and mark 1 of the run of Table 2-5. -/
theorem test_mapping : mapMark 1000000 93133 0 1003745 = (2, 20) ∧ mapMark 1000000 93133 0 1002794 = (2, -931) ∧
    mapMark 1000000 93133 0 998140 = (-1, 3) := by decide +kernel

/-- Section 1.6, "A check, worked": Table 1-7 passes; 75,000 ticks of span at R = 60,000 do not, 74,400 do. -/
theorem test_geometry : geometryOk plies 6000 24000 plan = true ∧
    geometryOk plies 6000 27000 { plan with repeatUm := 60000 } = false ∧
    geometryOk plies 6000 26400 { plan with repeatUm := 60000 } = true ∧ referencePly plies 7 = some .p1 := by
  decide +kernel

/-! ## Encoder counts (Table 1-2) -/

/-- The run-back of Table 1-2 one tick before its limit: H − A is 200. -/
def backed (a : Pos) : State := { held 500000 [row 0, row 1] 2 with
  trk := { (press 500000).trk with
    a := a
    excursion := .backing } }

/-- H − A = 200 is not over 200. -/
theorem test_reverse_count_at_the_limit : (ran .reverseCount (backed 499801)).trk.excursion = .backing := by
  decide +kernel

/-- H − A = 201: the rows get REVERSED and the stop cause latches. -/
theorem test_reverse_count_past_the_limit : let t := ran .reverseCount (backed 499800)
    t.trk.excursion = .excursion ∧ StopSet.has t.stop.latched .reversed = true ∧
    t.pipe.rows.all (fun r => r.lanes.all (fun l => CauseSet.has l.causes .reversed)) = true := by decide +kernel

/-- The last two lines of Table 1-2. -/
theorem test_forward_count : let t := ran .forwardCount (backed 499999)
    (t.trk.a = 500000 ∧ t.trk.h = 500000 ∧ t.trk.excursion = .none) ∧
    (ran .forwardCount t).trk.h = 500001 := by decide +kernel

/-! ## Cue marks (Tables 1-10 and 2-5) -/

/-- Ply 2 as it stands in Table 2-5 after a number of events. -/
def ply2 (f : Int) (missed : Nat) (g : Pos) (rt : Int) (j : Nat) (e : Pos) : MarkPly :=
  { expected := some ⟨e, j⟩, missed := missed, trend := f, last := none, spacing := some ⟨g, rt⟩, lastRow := some j,
    drift := false, counts := ⟨0, 0, 0, 0, 0, 0⟩ }

/-- The press at H with ply 2 so, rows 3 to 6 open, and its window end scheduled. -/
def running2 (h : Pos) (m : MarkPly) (window : Pos) : State := { held h [row 3, row 4, row 5, row 6] 7 with
  marks := base.marks.set .p2 m
  trk := { (press h).trk with
    schedule := [⟨window, .windowEnd .p2⟩]
    capture := { base.trk.capture with
      ply := some .p2
      enabled := true
      index := 15 } } }

/-- Event 10 of the run: F goes from −106 to −144, and DRIFT is raised. Capture writes slot 15 and stops (R17). -/
theorem test_cue_mark_sets_drift : let t := ran (.cueMarkDetection .p2) (running2 971150 (ply2 (-106) 0 969260 1863 5 971123) 971324)
    (t.marks.get .p2).trend = -144 ∧ (t.marks.get .p2).drift = true ∧
    (t.marks.get .p2).expected = some ⟨973013, 6⟩ ∧ AttentionSet.has t.line.pending .drift = true ∧
    t.trk.capture.slots[15]? = some (some ⟨some ⟨6, -26⟩, 971150⟩) ∧ t.trk.capture.enabled = false ∧
    t.trk.capture.index = 0 := by decide +kernel

/-- Event 7 of the run: a duplicate on the flywheel row 3, which gets REGISTER. -/
theorem test_cue_mark_duplicate : let t := ran (.cueMarkDetection .p2) (running2 966500 (ply2 (-106) 1 965553 1863 3 967416) 967617)
    (t.marks.get .p2).counts.duplicate = 1 ∧ (t.marks.get .p2).expected = some ⟨967416, 3⟩ ∧
    t.pipe.rows.map (fun r => r.lanes.map (fun l => CauseSet.has l.causes .register)) =
      [[true, true], [false, false], [false, false], [false, false]] := by decide +kernel

/-- Event 8 of the run: the second flywheel gives row 4 NO_MARK, and E is 969,278. -/
theorem test_mark_window_end : let t := ran (.markWindowEnd .p2) (running2 967617 (ply2 (-106) 1 965553 1863 3 967416) 967617)
    (t.marks.get .p2).missed = 2 ∧ (t.marks.get .p2).expected = some ⟨969278, 4⟩ ∧
    t.pipe.rows.map (fun r => r.lanes.map (fun l => CauseSet.has l.causes .noMark)) =
      [[false, false], [true, true], [false, false], [false, false]] := by decide +kernel

/-! ## Splices (sections 3.6 and 3.7) -/

/-- Section 3.6: rows 4 and 3 are withdrawn, r is 3, WITHDRAWN rises by 4, and the zone is [965,500, 968,000]. -/
theorem test_splice_detection_withdraws :
    let t := ran (.spliceDetection .p2) (held 961000 [row 0, row 1, row 2, row 3, row 4] 5)
    t.gen.r = 3 ∧ t.pipe.rows.map Row.kind = [.numbered, .numbered, .numbered, .blank, .blank] ∧
    (t.job 7).map (fun j => j.tallies.withdrawn) = some 4 ∧ t.zones.p2 = [⟨965500, 968000, 968933⟩] := by decide +kernel

/-- Ply 4 of section 3.7, its list as given. -/
def crowded (h : Pos) (zs : List Zone) : State := { press h with
  plies := plies.set .p4 { ply 40000 8000 25000 with mb := 300, ma := 700 }
  trk := { (press h).trk with epoch := some { repeatUm := 93133, mask := 15, refPly := .p1, dRef := 48000, o0 := some 1000000 } }
  zones := base.zones.set .p4 zs }

/-- The merge, and the extension of a full list, of Table 3-3. -/
theorem test_splice_detection_places :
    (ran (.spliceDetection .p4) (crowded 100800 [⟨104700, 105700, 106633⟩])).zones.p4 = [⟨104700, 106500, 107433⟩] ∧
    (ran (.spliceDetection .p4) (crowded 107000 [⟨104700, 106500, 107433⟩, ⟨106700, 107700, 108633⟩,
      ⟨107800, 108800, 109733⟩, ⟨108900, 109900, 110833⟩])).zones.p4 =
      [⟨104700, 106500, 107433⟩, ⟨106700, 107700, 108633⟩, ⟨107800, 108800, 109733⟩, ⟨108900, 112700, 113633⟩] := by
  decide +kernel

/-- Section 3.7: when H reaches 107,433 the oldest zone expires. -/
theorem test_zone_expiry :
    (ran (.zoneExpiry .p4) { crowded 107433 [⟨104700, 106500, 107433⟩, ⟨106700, 107700, 108633⟩] with
      trk := { (crowded 107433 []).trk with schedule := [⟨107433, .zoneExpiry .p4⟩] } }).zones.p4 =
      [⟨106700, 107700, 108633⟩] := by decide +kernel

/-! ## Numbers (sections 4.1 to 4.4) -/

/-- Table 4-5 and the last example of section 4.4. -/
theorem test_check_digits : plan.printed 4712 = [0, 0, 0, 4, 7, 1, 2, 8] ∧
    { plan with width := 10 }.printed 9876543210 = [9, 8, 7, 6, 5, 4, 3, 2, 1, 0, 5] ∧
    { plan with check := .mod7 }.printed 4713 = [0, 0, 0, 4, 7, 1, 3, 2] := by decide +kernel

/-- The plan of Table 4-3. -/
def plan43 : Plan := { plan with
  width := 4, first := 100, step := 5, direction := .down, count := 7, lanes := 3, check := .mod7 }

/-- Table 4-3. -/
theorem test_interleaved_rows :
    (plan43.sequenceLanes 1).map (fun l => l.number.map LaneNumber.str) =
      [some [0, 0, 8, 5, 1], some [0, 0, 8, 0, 3], some [0, 0, 7, 5, 5]] ∧
    (plan43.sequenceLanes 2).map (fun l => l.number.map LaneNumber.n) = [some 70, none, none] ∧
    plan43.sequenceDone 2 = false ∧ plan43.sequenceDone 3 = true := by decide +kernel

/-- The plan of Table 4-4. -/
def plan44 : Plan := { plan with first := 1, count := 1001, lanes := 4, mode := .banked }

/-- Table 4-4: rows 247 and 248. -/
theorem test_banked_rows :
    (plan44.sequenceLanes 247).map (fun l => l.number.map LaneNumber.n) = [some 248, some 499, some 750, some 1001] ∧
    (plan44.sequenceLanes 248).map (fun l => l.number.map LaneNumber.n) = [some 249, some 500, some 751, none] ∧
    plan44.endCause = .bankEnd ∧ plan44.sequenceDone 251 = true := by decide +kernel

/-- Section 4.1, "Load tests, worked". -/
theorem test_plan_ranges :
    { plan with width := 4, first := 9990, count := 10 }.valid = true ∧
    { plan with width := 4, first := 9990, count := 11 }.valid = false ∧
    { plan with width := 4, first := 100, direction := .down, step := 5, count := 21 }.valid = true ∧
    { plan with width := 4, first := 100, direction := .down, step := 5, count := 22 }.valid = false ∧
    { plan with width := 4, first := 9990, count := 10000000, source := .list }.valid = true := by decide +kernel

/-! ## The row pipeline (sections 5.11 and 5.12) -/

/-- Row 2 of Table 5-8 in a stage, with the causes of its second lane. -/
def row2 (st : Stage) (causes : CauseSet) (marked : Bool) : Row := { row 2 with
  stage := st
  lanes := (plan.sequenceLanes 2).mapIdx (fun i l => if i = 1 then { l with causes := causes, marked := marked } else l) }

/-- The press at H with one position due. -/
def due (h : Pos) (rows : List Row) (ev : PosEvent) : State := { held h rows 3 with
  trk := { (press h).trk with schedule := [⟨h, ev⟩] } }

/-- A reverse excursion and a marker raised at its H (R96), with a reverse limit of 0 and a good row at its marker position:
the marker taken after the count pulses every lane, taken before it none, and waits on where it is not taken. -/
theorem test_excursion_and_marker :
    let s := { due 1008725 [{ row 2 with stage := .merged }] (.marker 2) with
      trk := { (due 1008725 [{ row 2 with stage := .merged }] (.marker 2)).trk with reverseLimit := 0 } }
    (ran (.marker 2) (ran .reverseCount s)).pipe.rows.map (fun r => r.lanes.map LaneRec.marked) = [[true, true]] ∧
    (ran .reverseCount (ran (.marker 2) s)).pipe.rows.map (fun r => r.lanes.map (fun l => (l.marked, decide (l.causes = 0)))) =
      [[(false, false), (false, false)]] ∧
    (ran .reverseCount (ran .reverseCount s)).pipe.rows.map (fun r => r.lanes.map LaneRec.marked) = [[true, true]] := by
  decide +kernel

/-- A good row 2 at its marker position and ply 2's window end for row 3 due with it, at A = H with a reverse limit of 0; the
line port is sending and the panel port is absent. -/
def backingOff : State :=
  let s := due 1008725 [{ row 2 with stage := .merged }] (.marker 2)
  { s with
    straps := { s.straps with panel := .absent }
    marks := s.marks.set .p2 { (s.marks.get .p2) with expected := some ⟨1008525, 2⟩ }
    trk := { s.trk with
      schedule := s.trk.schedule ++ [⟨1008725, .windowEnd .p2⟩]
      reverseLimit := 0 }
    line := { base.line with sending := some (.notice 0) } }

/-- The flywheel is taken before an excursion at its H (R4, R92): row 3 is open when the count reports, and gets REVERSED; the
marker may still follow, and the window end finds nothing more to take. -/
theorem test_excursion_and_flywheel : let t := ran .reverseCount backingOff
    t.trk.excursion = .excursion ∧ t.pipe.rows.map Row.k = [2, 3] ∧
    (∀ r ∈ t.pipe.rows, ∀ l ∈ r.lanes, l.isNumbered = true → l.causes &&& CauseSet.insert 0 .reversed ≠ 0) ∧
    t.due.map Scheduled.ev = [.marker 2] ∧ (ran (.markWindowEnd .p2) t).pipe.rows.map Row.k = [2, 3] := by decide +kernel

/-- The merge of Table 5-8: ply 2 read lane 1 alone, so lane 2 gets NO_READ. -/
theorem test_merge :
    let r : Row := { row2 .opened (CauseSet.ofList [.headFault]) false with
      plies := [{ ply := .p2, assign := .mark 963745 20, order := .done, reads := ⟨.matched, .awaited, .noneExpected, .noneExpected⟩ }] }
    (ran (.merge 2) (due 1003725 [r] (.merge 2))).pipe.rows.map (fun x => (x.stage, x.lanes.map LaneRec.causes)) =
      [(.merged, [0, CauseSet.ofList [.headFault, .noRead]])] := by decide +kernel

/-- The marker of Table 5-8: a pulse on lane 2 that ends 64 ticks on (R170). -/
theorem test_marker : let t := ran (.marker 2) (due 1009725 [row2 .merged (CauseSet.ofList [.noRead]) false] (.marker 2))
    t.pipe.markers = ⟨false, true, false, false⟩ ∧ t.trk.schedule = [⟨1009789, .pulseEnd .l2⟩] ∧
    t.pipe.rows.map (fun r => r.lanes.map LaneRec.marked) = [[false, true]] := by decide +kernel

/-- The end of that pulse. -/
theorem test_pulse_end :
    (ran (.pulseEnd .l2) { due 1009789 [] (.pulseEnd .l2) with
      pipe := { base.pipe with markers := ⟨false, true, false, false⟩ } }).pipe.markers = PerLane.all false := by
  decide +kernel

/-- The delivery of Table 5-8: 4715 is good; 4716 is recorded without a flag and enters the make-up queue (R89). -/
theorem test_delivery :
    let t := ran (.delivery 2) (due 1027725 [row2 .marked (CauseSet.ofList [.headFault, .noRead]) true] (.delivery 2))
    t.audit.inFlight.map (fun v => (v.sequence, v.lane.n, v.causes, v.unmarked, v.retire)) =
      [(1, 4716, CauseSet.ofList [.headFault, .noRead], false, 1027725)] ∧
    t.audit.queue = [{ job := 7, number := 4716, lane := 2, attempts := 1, state := .waiting }] ∧
    (t.job 7).map Job.tallies = some { rows := 1, drawn := 0, withdrawn := 0, good := 1, void := 1, blank := 0, makeUpDrawn := 0, feedIn := 0 } ∧
    t.pipe.rows = [] := by decide +kernel

/-- A void record of sequence n. -/
def void (n : Nat) : VoidRecord :=
  { sequence := n, job := 7, owner := .line, row := 2, laneNo := 2
    lane := { n := 4716, str := [0, 0, 0, 4, 7, 1, 6, 6], checked := true, source := .sequence }
    causes := CauseSet.ofList [.headFault, .noRead], unmarked := false, notQueued := false, exhausted := false
    retire := 1027725 }

/-- A reference ply's mark at the origin, with n records in the void list. -/
def opening (n : Nat) : State := { press 952000 with
  trk := { (press 952000).trk with
    epoch := some { repeatUm := 93133, mask := 7, refPly := .p1, dRef := 48000, o0 := none } }
  audit := { base.audit with voids := List.replicate n (void 1) } }

/-- The reservation of R79: 1022 + 2 = 1024 passes, 1023 + 2 opens the row BLANK with HELD and latches VOID_RESERVE. -/
theorem test_reservation :
    (ran (.cueMarkDetection .p1) (opening 1022)).pipe.rows.map (fun r => (r.kind, r.origin)) = [(.numbered, 1000000)] ∧
    (let t := ran (.cueMarkDetection .p1) (opening 1023)
     t.pipe.rows.map (fun r => (r.kind, r.blank)) = [(.blank, some .held)] ∧ t.pipe.reserve = true ∧
     StopSet.has t.stop.latched .voidReserve = true ∧ t.gen.r = 0) := by decide +kernel

/-! ## The head link (Tables 6-4 and 6-6) -/

/-- Row 2 with ply 3's send due, driver 2 INVERTED with a next tag. -/
def sending (d : DriverRec) : State := { due 991320 [row 2] (.send .p3 2) with
  drivers := ⟨powerUpDriver, d, powerUpDriver⟩
  requests := [⟨.p3, 2, 991320, 991720⟩] }

/-- Table 6-4, ply 3: the digits of an INVERTED driver; the tag 255 is followed by 0 (R104). -/
theorem test_send_position : let t := ran (.sendPosition .p3 2) (sending { inverted.d2 with nextTag := 255 })
    t.headLink = [.imprint .d2 { tag := 255, ply := .p3, row := 2, fire := 991720, send := 991320, dropClass := 2
                                 lanes := [⟨1, [9, 5, 1, 7, 4, 0, 0, 0]⟩, ⟨2, [6, 6, 1, 7, 4, 0, 0, 0]⟩] }] ∧
    t.drivers.d2.nextTag = 0 ∧ t.pipe.rows.map Row.printed = [true] := by decide +kernel

/-- Driver 2 of Table 6-6 before the merge of row 12. -/
def failing : DriverRec := { powerUpDriver with
  noReply := 2
  nextTag := 21
  orders := [⟨19, .p3, 12, 0⟩, ⟨20, .p3, 13, 0⟩] }

/-- Table 6-6, merge of row 12: the third order without a reply takes the driver DOWN and latches the stop cause. -/
theorem test_merge_third_no_reply :
    let r : Row := { row 12 with
      plies := [{ ply := .p3, assign := .mark 0 0, order := .sent, reads := PerLane.all .noneExpected }] }
    let t := ran (.merge 12) { due 1022352 [r] (.merge 12) with drivers := ⟨powerUpDriver, failing, powerUpDriver⟩ }
    t.drivers.d2.state = .down ∧ t.drivers.d2.orders = [] ∧ t.drivers.d2.noReply = 3 ∧
    t.drivers.d2.counts.abandoned = 1 ∧ StopSet.has t.stop.latched (.driverDown .d2) = true := by decide +kernel

/-- Table 6-6, READY notice. -/
theorem test_ready_notice :
    let t := ran (.readyNotice .d2) { base with drivers := ⟨powerUpDriver, { failing with state := .down }, powerUpDriver⟩ }
    t.drivers.d2.state = .ready ∧ t.drivers.d2.noReply = 0 ∧ t.headLink = [.sync .d2 0 0] := by decide +kernel

/-- A reply for row 13, tag 20. -/
def reply13 : LinkReply := { tag := 20, ply := 3, row := 13 }

/-- A press with row 13 open and driver 2 awaiting tag 20. -/
def awaiting (st : DriverState) : State := { held 991320 [row 13] 14 with
  drivers := ⟨powerUpDriver, { failing with state := st }, powerUpDriver⟩ }

/-- DONE (R106): the order is off the list, the SUSPECT driver is READY. -/
theorem test_done_reply : let t := ran (.doneReply .d2 reply13) (awaiting .suspect)
    t.drivers.d2.state = .ready ∧ t.drivers.d2.noReply = 0 ∧ t.drivers.d2.orders.map Order.row = [12] ∧
    t.pipe.rows.map (fun r => (r.plyRec .p3).map PlyRec.order) = [some .done] := by decide +kernel

/-- Table 6-6, the last line: a DONE to an order no longer outstanding is stray. -/
theorem test_done_reply_stray :
    let t := ran (.doneReply .d2 reply13) { awaiting .ready with drivers := inverted }
    t.drivers.d2.counts.stray = 1 ∧ t.shift.repliesStray = 1 := by decide +kernel

/-- LATE (R106): HEAD_LATE on every lane. -/
theorem test_late_reply : let t := ran (.lateReply .d2 reply13) (awaiting .suspect)
    t.drivers.d2.state = .suspect ∧ t.pipe.rows.map (fun r => r.lanes.map LaneRec.causes) =
      [[CauseSet.ofList [.headLate], CauseSet.ofList [.headLate]]] := by decide +kernel

/-- FAULT naming lane 2 (Table 5-8): HEAD_FAULT there alone. -/
theorem test_fault_reply : (ran (.faultReply .d2 reply13 [2]) (awaiting .ready)).pipe.rows.map
    (fun r => r.lanes.map LaneRec.causes) = [[0, CauseSet.ofList [.headFault]]] := by decide +kernel

/-- NOT_READY (R106): every lane of the order, and a READY driver becomes SUSPECT. -/
theorem test_not_ready_reply : let t := ran (.notReadyReply .d2 reply13) (awaiting .ready)
    t.drivers.d2.state = .suspect ∧ t.drivers.d2.noReply = 2 ∧ t.pipe.rows.map (fun r => r.lanes.map LaneRec.causes) =
      [[CauseSet.ofList [.headFault], CauseSet.ofList [.headFault]]] := by decide +kernel

/-- A discard whose address cannot be read is counted for no driver (R97). -/
theorem test_head_link_discard : (ran (.headLinkDiscard (some .d3)) base).drivers.d3.counts.linkErrors = 1 ∧
    (ran (.headLinkDiscard none) base).drivers = base.drivers := by decide +kernel

/-! ## Reading back (Table 7-4) -/

/-- Rows 3 and 4 as ply 3 awaits them at 995,700 and later. -/
def reading (h : Pos) (three four : LaneSet) : State := { held h [row 3, row 4] 5 with
  drivers := inverted
  readers := base.readers.set .p3 { powerUpReader with
    expectations := (if three = 0 then [] else [⟨3, 995590, three⟩]) ++ [⟨4, 997449, four⟩] } }

/-- At 995,700 lane 1 reads 37174000: reversed, it matches row 3. -/
theorem test_read_result_matched :
    let t := ran (.readResult .p3 (.string 1 ([3, 7, 1, 7, 4, 0, 0, 0].map .digit))) (reading 995700 3 3)
    t.readers.p3.expectations = [⟨3, 995590, 2⟩, ⟨4, 997449, 3⟩] ∧ t.readers.p3.counts.matched = 1 := by decide +kernel

/-- At 995,900 lane 2 is stray; at 997,500 lane 1 reads 79114000: MISREAD. -/
theorem test_read_result_stray_and_misread :
    (ran (.readResult .p3 (.string 2 ([0, 8, 1, 7, 4, 0, 0, 0].map .digit))) (reading 995900 0 3)).shift.readsStray = 1 ∧
    (ran (.readResult .p3 (.string 1 ([7, 9, 1, 1, 4, 0, 0, 0].map .digit))) (reading 997500 0 3)).pipe.rows.map
      (fun r => r.lanes.map LaneRec.causes) = [[0, 0], [CauseSet.ofList [.misread], 0]] := by decide +kernel

/-! ## Monitors, stop, notices (Tables 10-5, 10-7, 11-3) -/

/-- Monitors 1 and 3 of Table 10-5. -/
def monitor1 : Monitor :=
  { powerUpMonitor with source := .lanesVoid, threshold := 1, consecutive := true, level := 3, stopEnable := true }

/-- Monitor 3 of Table 10-5. -/
def monitor3 : Monitor := { powerUpMonitor with source := .lanesBlank, threshold := 2, edge := true, level := 2 }

/-- Table 10-5: the counters of monitors 1 and 3 through the six rows, and the alarm at row f. -/
theorem test_monitor_counters :
    ([1, 2, 0, 1, 2, 1].foldl (fun (m, cs) n => (Monitor.sampled m n, cs ++ [(Monitor.sampled m n).counter]))
      (monitor1, [])).2 = [1, 2, 0, 1, 2, 0] ∧
    ([1, 2, 0, 1, 2, 1].foldl Monitor.sampled monitor1).alarms = 1 ∧
    ([0, 0, 2, 0, 0, 1].foldl Monitor.sampled monitor3).counter = 1 := by decide +kernel

/-- Table 10-7 from its third line on: MARK_LOST(2) held, FEED_STARVED latched but masked. -/
def stopped : State := { base with
  stop := { latched := 0x10002, mask := 0xFFFF, held := 2, output := true } }

/-- Clear Stop of a held cause latches it again; once its end is reported it is cleared, and the output falls. -/
theorem test_clear_stop :
    lastReply (ran (.clearStop .line 1 [0, 0, 2]) stopped) = some (.okay (.latched 0x10002)) ∧
    (let t := ran (.clearStop .line 1 [0, 0, 2]) (stopped.endLevel (.markLost .p2))
     t.stop.latched = 0x10000 ∧ t.stop.output = false) := by decide +kernel

/-- Set Stop Mask that enables FEED_STARVED asserts the output and raises STOP; a bit above 16 is refused (R167). -/
theorem test_set_stop_mask :
    (let t := ran (.setStopMask .line 1 [1, 0xFF, 0xFF]) { base with stop := { base.stop with latched := 0x10000 } }
     t.stop.output = true ∧ AttentionSet.has t.panel.pending .stop = true) ∧
    lastReply (ran (.setStopMask .line 1 [2, 0, 0]) base) = some (.refusal .range) := by decide +kernel

/-- Table 11-3: the line port sends a reply while MONITOR and STOP are pending; when it has gone the notice starts. -/
def noticing : State := { base with
  line := { base.line with
    replies := [⟨0x10, 1, .plain⟩]
    sending := some .reply
    pending := 0x050
    unsent := true } }

/-- Table 11-3, the third line. -/
theorem test_frame_sent : let t := ran (.frameSent .line) noticing
    t.line.sending = some (.notice 0x050) ∧ t.line.unsent = false ∧ t.line.replies = [] := by decide +kernel

/-- Table 11-3, the fifth line: Acknowledge Attention of MONITOR leaves STOP, bit 4. -/
theorem test_acknowledge_attention :
    lastReply (ran (.acknowledgeAttention .line 1 [0x00, 0x40]) { base with line := { base.line with pending := 0x050 } }) =
      some (.okay (.pending 0x010)) := by decide +kernel

/-! ## The Audit Store (Tables 9-5 and 9-6) -/

/-- Three visible records and two in flight (Table 9-5), the notify level 4. -/
def listed : State := { base with
  audit := { base.audit with
    voids := [void 41, void 42, void 43]
    inFlight := [void 44, void 45]
    notifyLevel := 4 } }

/-- Table 9-5: Read Voids gives 3 visible, 2 in flight and the three records. -/
theorem test_read_voids : lastReply (ran (.readVoids .line 1 [0, 0]) listed) =
    some (.okay (.voids 3 2 [void 41, void 42, void 43])) := by decide +kernel

/-- Table 9-5: a release of 4 of 3 is refused; a release of 3 of 5 leaves 2. -/
theorem test_release_voids :
    lastReply (ran (.releaseVoids .line 1 [0, 4]) listed) = some (.refusal .range) ∧
    lastReply (ran (.releaseVoids .line 1 [0, 3]) { listed with
      audit := { listed.audit with
        voids := listed.audit.voids ++ listed.audit.inFlight
        inFlight := [] } }) = some (.okay (.remaining 2)) := by decide +kernel

/-- Table 9-5: the append of 44 takes the visible count to the level, and VOID_READY is raised. -/
theorem test_append_complete : let t := ran .appendComplete listed
    t.audit.voids.map VoidRecord.sequence = [41, 42, 43, 44] ∧ AttentionSet.has t.line.pending .voidReady = true := by
  decide +kernel

/-- The OPEN recovery record of job 7. -/
def record (st : RecordState) : RecoveryRecord :=
  { job := 7, owner := .line, plan := plan, state := st, r := 3, retiredRows := 2, listCount := 0, retiredList := 0,
    drawn := 6, withdrawn := 0, good := 4, void := 0 }

/-- Section 9.10: the save records the lanes in flight with POWER, the pulsed one alone not UNMARKED, and brings the
record to drawn − good − void = 0. -/
theorem test_power_fail_warning :
    let t := ran (.powerFailWarning true) { held 1010000 [row2 .marked (CauseSet.ofList [.noRead]) true] 3 with
      audit := { base.audit with records := [record .opened] } }
    t.audit.condition = .saving ∧ t.pipe.rows = [] ∧
    t.audit.inFlight.map (fun v => (v.causes, v.unmarked)) =
      [(CauseSet.ofList [.power], true), (CauseSet.ofList [.noRead, .power], false)] ∧
    t.audit.records.map (fun r => (r.drawn - r.good - r.void, r.retiredRows)) = [(0, 3)] := by decide +kernel

/-- The end of the save: OPEN becomes CLEAN (R157). -/
theorem test_save_complete :
    let t := ran .saveComplete { base with audit := { base.audit with condition := .saving, records := [record .opened] } }
    t.audit.condition = .saved ∧ t.audit.records = [record .clean] := by decide +kernel

/-- Power-up recovery (R158): OPEN becomes UNCLEAN, ISSUED becomes UNRESOLVED, RECOVERY at the line port. -/
theorem test_recovery_complete :
    let t := ran .recoveryComplete { State.reset with audit := { State.reset.audit with
      records := [record .opened]
      queue := [⟨7, 4716, 2, 1, .issued⟩] } }
    t.audit.condition = .normal ∧ t.audit.records = [record .unclean] ∧
    t.audit.queue = [⟨7, 4716, 2, 1, .unresolved⟩] ∧ AttentionSet.has t.line.pending .recovery = true ∧
    t.headLink.length = 3 := by decide +kernel

/-- POWER_UP keeps the void list and samples the straps. -/
theorem test_power_up : let t := ran (.powerUp { plies := .p4, panel := .view, rate := .baud57600, hold := .refuse }) listed
    t.straps.plies = .p4 ∧ t.audit.voids.length = 3 ∧ t.audit.condition = .recovering := by decide +kernel

/-- Steps 1 to 3 of a warm reset (R155): the lanes in flight are recorded while the job runs; then it ends RESET. -/
theorem test_warm_reset : let t := (held 961000 [row 0] 1).beginReset
    let v := resetSteps 1 t
    t.audit.inFlight.map VoidRecord.sequence = [1, 2] ∧ t.jobs.map Job.state = [.running] ∧ t.trk.epoch ≠ none ∧
    v.jobs.map Job.state = [.ended] ∧ v.trk.epoch = none ∧ v.trk.h = 961000 := by decide +kernel

/-- A splice during the reset, before FREE (R50): counted, its zone emptied with the rest; after it, disregarded. -/
theorem test_splice_in_a_reset : let t := (held 961000 [row 0] 1).beginReset
    let u := ran (.spliceDetection .p2) t
    u.shift.splices = 1 ∧ u.zones.p2 = [⟨965500, 968000, 968933⟩] ∧ (resetSteps 1 u).zones.p2 = [] ∧
    (ran (.spliceDetection .p2) (resetSteps 1 t)).shift.splices = 0 := by decide +kernel

/-- A DONE in a warm reset before its step 4: the orders were abandoned at its entry (R110), so it is stray and the driver stays
SUSPECT. -/
theorem test_reply_in_a_reset : let t := ran (.doneReply .d2 reply13) (awaiting .suspect).beginReset
    t.audit.condition = .resetting ∧ t.drivers.d2.counts.stray = 1 ∧ t.drivers.d2.counts.abandoned = 2 ∧
    t.drivers.d2.state = .suspect := by decide +kernel

/-- The RESET line in SAVING: the reset is due after the save (R156). -/
theorem test_reset_line : (ran .resetLine { base with audit := { base.audit with condition := .saving } }).audit.resetDue = true := by
  decide +kernel

/-- Its end: NORMAL, RESET_DONE at both ports (R155). -/
theorem test_reset_complete :
    let t := ran .resetComplete { base with audit := { base.audit with condition := .resetting } }
    t.audit.condition = .normal ∧ AttentionSet.has t.line.pending .resetDone = true ∧
    AttentionSet.has t.panel.pending .resetDone = true := by decide +kernel

/-- The Reset message in SAVING: OK at once, and the reset due (R177). -/
theorem test_reset : let t := ran (.reset .line 9 []) { base with audit := { base.audit with condition := .saving } }
    t.audit.resetDue = true ∧ t.line.replies = [⟨0x4F, 9, .plain⟩] := by decide +kernel

/-! ## Frames and the layouts of records (R172, Tables 11-5 and 11-8) -/

/-- The CRC of the polynomial of R172 over "123456789" is 0x29B1, its published check value. -/
theorem test_crc : crc [0x31, 0x32, 0x33, 0x34, 0x35, 0x36, 0x37, 0x38, 0x39] = 0x29B1 := by decide +kernel

/-- A whole frame received byte by byte is served: Line Summary, kind 0x42. -/
theorem test_frame_discard_of_a_good_frame :
    (ran (.frameDiscard .line (frameBytes 0x42 3 [])) base).line.replies.map (fun f => (f.kind, f.tag)) = [(0x42, 3)] := by
  decide +kernel

/-- A length byte of 1 is discarded with the frame. -/
theorem test_frame_discard_of_a_bad_length : ran (.frameDiscard .line [0xC3, 1]) base = base := by decide +kernel

/-- A gap in a frame leaves the receiver HUNTING. -/
theorem test_frame_gap_timeout :
    (ran (.frameGapTimeout .line) (ran (.frameDiscard .line [0xC3, 4, 0x42]) base)).line.receiver = .hunting := by
  decide +kernel

/-- A kind that Table 11-4 does not list. -/
theorem test_unknown_request : lastReply (ran (.unknownRequest .line 0x08 1 []) base) = some (.refusal .unknownKind) := by
  decide +kernel

/-- The void record of section 5.11 in the 26 bytes of Table 11-8: sequence 1, job 7, owner LINE, SEQUENCE, row 2, lane
2, causes HEAD_FAULT (bit 6) and NO_READ (bit 10), the position 0xFAE8D in five bytes, length 8 with a check digit. -/
theorem test_void_record_bytes : (void 1).bytes =
    [0, 0, 0, 1, 0, 7, 0x00, 0, 0, 0, 2, 0x02, 0x04, 0x40, 0x00, 0x00, 0x0F, 0xAE, 0x8D, 0x88, 0x00, 0x04, 0x71, 0x66,
     0xFF, 0xFF] := by decide +kernel

/-- A make-up entry is 10 bytes (Table 11-9), a recovery record 54 (Table 11-10). -/
theorem test_record_lengths : (MakeUpEntry.bytes ⟨7, 4716, 2, 1, .waiting⟩) = [0, 7, 0, 0, 0, 0x12, 0x6C, 2, 1, 0] ∧
    (record .opened).bytes.length = 54 := by decide +kernel

/-- A filled capture slot: its presence, then k, C and e (R15, Table 1-9), each of k and e preceded by its presence; k 3,
C 965553 (0EBBB1 hex), e -10. -/
theorem test_capture_slot_bytes : slotBytes (some ⟨some ⟨3, -10⟩, 965553⟩) =
    [1, 1, 0, 0, 0, 3, 0, 0, 0x0E, 0xBB, 0xB1, 1, 0xFF, 0xFF, 0xF6] := by decide +kernel

/-- A REFUSED GEOMETRY reply to Start Job: length 4, kind 0x82, tag 5, class 4, reason 9 (Table 11-5). -/
theorem test_reply_bytes : ((ReplyFrame.mk 0x02 5 (.refusal .geometry)).bytes.take 6) = [0xC3, 4, 0x82, 5, 4, 9] := by
  decide +kernel

/-! ## Jobs -/

/-- The line of section 1.6, FREE, with job 7 loaded. -/
def loaded : State := { press 0 with
  trk := { (press 0).trk with epoch := none }
  jobs := [job 7 .loaded plan]
  pipe := base.pipe }

/-- Load Job with the body of Table 11-7. -/
theorem test_load_job : let t := ran (.loadJob .line 1 planBody) base
    t.jobs = [job 7 .loaded plan] ∧ lastReply t = some .plain := by decide +kernel

/-- A job id held by a recovery record is a duplicate (R126). -/
theorem test_load_job_duplicate :
    lastReply (ran (.loadJob .line 1 planBody) { base with audit := { base.audit with records := [record .clean] } }) =
      some (.refusal .duplicateId) := by decide +kernel

/-- Start Job opens the epoch with ply 1 as the reference ply (section 1.6). -/
theorem test_start_job : let t := ran (.startJob .line 1 [0, 7]) loaded
    t.trk.epoch = some ⟨93133, 7, .p1, 48000, none⟩ ∧ t.sync .p2 = .seeking ∧ t.jobs.map Job.state = [.running] ∧
    t.audit.records.map RecoveryRecord.state = [.opened] := by decide +kernel

/-- With V and X at 0 every Start is refused GEOMETRY (R13). -/
theorem test_start_job_geometry :
    lastReply (ran (.startJob .line 1 [0, 7]) { loaded with trk := base.trk }) = some (.refusal .geometry) := by
  decide +kernel

/-- Halt before the reference ply's first mark: the job drains and ends in the event, and the Tracker is FREE (R7). -/
theorem test_halt_job : let t := ran (.haltJob .line 1 [0, 7]) (press 0)
    t.jobs.map Job.state = [.ended] ∧ t.trk.epoch = none ∧ AttentionSet.has t.line.pending .jobEnd = true := by
  decide +kernel

/-- Abort of a running job: its rows get ABORTED and it drains (R91, R136). -/
theorem test_abort_job : let t := ran (.abortJob .panel 1 [0, 7]) (held 961000 [row 0] 1)
    t.jobs.map (fun j => (j.state, j.drain)) = [(.draining, some .aborted)] ∧
    t.pipe.rows.map (fun r => r.lanes.map LaneRec.causes) =
      [[CauseSet.ofList [.aborted], CauseSet.ofList [.aborted]]] := by decide +kernel

/-- Query Job of a running job reports its two lanes in flight. -/
theorem test_query_job : (match lastReply (ran (.queryJob .line 1 [0, 7]) (held 961000 [row 0] 1)) with
    | some ⟨.ok, .job r⟩ => (r.inFlight, r.rows, r.place)
    | _ => (0, 0, 9)) = (2, 1, 0) := by decide +kernel

/-- The end record of job 7. -/
def ended : EndRecord :=
  { job := 7, reason := .complete, tallies := ⟨0, 0, 0, 0, 0, 0, 0, 0⟩, nextIndex := 500, feedConsumed := 0,
    makeUpOutstanding := 0, feedDiscarded := 0 }

/-- Collect End empties the slot. -/
theorem test_collect_end :
    let t := ran (.collectEnd .line 1 [0, 7]) { base with jobs := [{ job 7 .ended plan with endRec := some ended }] }
    t.jobs = [] ∧ lastReply t = some (.okay (.endRecord ended)) := by decide +kernel

/-- Feed Numbers for a LIST job of width 4: 9999 is taken, 10,000 is not (R64). -/
theorem test_feed_numbers :
    let s := { base with jobs := [job 7 .loaded { plan with width := 4, source := .list }] }
    (ran (.feedNumbers .line 1 [1, 0, 0, 0, 0x27, 0x0F]) s).gen.feed = [9999] ∧
    lastReply (ran (.feedNumbers .line 1 [1, 0, 0, 0, 0x27, 0x10]) s) = some (.refusal .range) := by decide +kernel

/-! ## Settings and reads -/

/-- Set Line with V = 6000 and X absent; X = 2^20 + 1 is out of range (R13). -/
theorem test_set_line : (ran (.setLine .line 1 [1, 0, 0x17, 0x70, 0, 0, 0, 0, 0, 0, 0, 0]) base).trk.v = 6000 ∧
    lastReply (ran (.setLine .line 1 [0, 0, 0, 0, 1, 0x10, 0, 1, 0, 0, 0, 0]) base) = some (.refusal .range) := by
  decide +kernel

/-- Read Line in the epoch of Table 1-4. -/
theorem test_read_line : (match lastReply (ran (.readLine .line 1 []) (press 961000)) with
    | some ⟨.ok, .line r⟩ => (r.v, r.x, r.h, r.tracker)
    | _ => (0, 0, 0, .free)) = (6000, 24000, 961000, .tracking) := by decide +kernel

/-- Set Ply 2 with D′ = 40,000 alone, and the same while the Tracker is not FREE (R23). -/
theorem test_set_ply :
    let body : List Byte := [2, 1, 0, 0x9C, 0x40] ++ List.replicate 34 0
    (ran (.setPly .line 1 body) base).plies.p2.d = 40000 ∧
    lastReply (ran (.setPly .line 1 body) (press 0)) = some .busy := by decide +kernel

/-- Read Ply of ply 0 is refused. -/
theorem test_read_ply : lastReply (ran (.readPly .line 1 [0]) base) = some (.refusal .range) ∧
    lastReply (ran (.readPly .line 1 [6]) base) = some (.okay (.ply powerUpPly .off powerUpMark)) := by decide +kernel

/-- Set Driver 2: INVERTED, lead 400, drop class absent. -/
theorem test_set_driver :
    (ran (.setDriver .line 1 [2, 1, 1, 1, 0, 0x01, 0x90, 0, 0, 0, 0]) base).drivers.d2 =
      { powerUpDriver with orientation := .inverted, lead := 400 } := by decide +kernel

/-- Read Driver 3. -/
theorem test_read_driver : lastReply (ran (.readDriver .line 1 [3]) base) = some (.okay (.driver powerUpDriver)) := by
  decide +kernel

/-- Read Reader of ply 3 from offset 1 of two expectations (R123). -/
theorem test_read_reader : (match lastReply (ran (.readReader .line 1 [3, 0, 1]) (reading 0 3 3)) with
    | some ⟨.ok, .reader r⟩ => (r.count, r.expectations, r.orientation)
    | _ => (0, [], .normal)) = (2, [⟨4, 997449, 3⟩], .inverted) := by decide +kernel

/-- Arm Capture(ply 2, slot 14), the first line of Table 1-10. -/
theorem test_arm_capture : let t := ran (.armCapture .line 1 [1, 2, 14]) base
    t.trk.capture.ply = some .p2 ∧ t.trk.capture.enabled = true ∧ t.trk.capture.index = 14 := by decide +kernel

/-- Read Capture from slot 10 gives the six slots from it on. -/
theorem test_read_capture : lastReply (ran (.readCapture .line 1 [10]) base) =
    some (.okay (.capture none false 0 (List.replicate 6 none))) := by decide +kernel

/-- Read Stop at power-up (R169). -/
theorem test_read_stop : lastReply (ran (.readStop .line 1 []) base) = some (.okay (.stop 0 0xFFFF 0 false)) := by
  decide +kernel

/-- Set Monitor 1 to the settings of monitor 1 of Table 10-5. -/
theorem test_set_monitor :
    (ran (.setMonitor .line 1 [1, 1, 0, 0, 1, 0, 0, 1, 0, 0, 3, 1]) base).monitors.m1 = monitor1 := by decide +kernel

/-- Read Monitor of monitor 5 is refused. -/
theorem test_read_monitor : lastReply (ran (.readMonitor .line 1 [5]) base) = some (.refusal .range) := by
  decide +kernel

/-- Read Tallies of a job that no slot holds (R161). -/
theorem test_read_tallies : lastReply (ran (.readTallies .line 1 [1, 0, 9]) base) = some (.refusal .noSuchJob) := by
  decide +kernel

/-- Clear Shift. -/
theorem test_clear_shift : (ran (.clearShift .line 1 []) { base with shift := ⟨1, 2, 3, 4, 5, 6, 7, 8⟩ }).shift =
    ⟨0, 0, 0, 0, 0, 0, 0, 0⟩ := by decide +kernel

/-- Set Notify with level 1024 and the low mark absent; level 1025 is refused (R179). -/
theorem test_set_notify : (ran (.setNotify .line 1 [1, 0, 4, 0, 0, 0, 0, 0]) base).audit.notifyLevel = 1024 ∧
    lastReply (ran (.setNotify .line 1 [1, 0, 4, 1, 0, 0, 0, 0]) base) = some (.refusal .range) := by decide +kernel

/-- Line Summary with an attention pending. -/
theorem test_line_summary : (match lastReply (ran (.lineSummary .line 1 []) noticing) with
    | some ⟨.ok, .summary r⟩ => (r.summary, r.pending)
    | _ => (.full, none)) = (.attention, some 0x050) := by decide +kernel

/-- Read Make-up and Release Make-up of a job that is not running: the ISSUED entry stays (R152). -/
theorem test_make_up :
    let s := { base with audit := { base.audit with queue := [⟨7, 4716, 2, 1, .waiting⟩, ⟨7, 4718, 2, 1, .issued⟩] } }
    lastReply (ran (.releaseMakeUp .line 1 [0, 7]) s) = some (.okay (.removed 1)) ∧
    lastReply (ran (.readMakeUp .line 1 [0, 1]) s) = some (.okay (.makeUp 2 [⟨7, 4718, 2, 1, .issued⟩])) := by
  decide +kernel

/-- Read Recovery and Discard Recovery of a CLEAN record, and of an OPEN one (R154). -/
theorem test_recovery_records :
    let s := fun st => { base with audit := { base.audit with records := [record st] } }
    lastReply (ran (.readRecovery .line 1 []) (s .clean)) = some (.okay (.recovery [record .clean])) ∧
    (ran (.discardRecovery .line 1 [0, 7]) (s .clean)).audit.records = [] ∧
    lastReply (ran (.discardRecovery .line 1 [0, 7]) (s .opened)) = some (.refusal .wrongState) := by decide +kernel

/-! ## The queue -/

/-- The next state of an outcome. -/
def next? (o : Host.Outcome State Fault Refusal) : Option State :=
  match o with
  | .next t => some t
  | _ => none

/-- A step takes the command at the front; with none it idles. -/
theorem test_step : next? (step (base.setPending [.forwardCount, .reverseCount])) =
    some ((ran .forwardCount base).setPending [.reverseCount]) ∧ next? (step base) = some base := by decide +kernel

/-! ## WellFormed refuses an ill-formed term for each check -/

/-- Row indices end at 2^32 − 1. -/
theorem test_wf_row : (Instr.sendPosition .p1 4294967296).wellFormed = false ∧
    (Instr.merge 4294967296).wellFormed = false ∧ (Instr.marker 4294967296).wellFormed = false ∧
    (Instr.delivery 4294967296).wellFormed = false ∧ (Instr.delivery 4294967295).wellFormed = true := by decide

/-- A driver's reply names a ply from 1 to 6 and a row index. -/
theorem test_wf_reply : (Instr.doneReply .d1 ⟨0, 0, 0⟩).wellFormed = false ∧
    (Instr.lateReply .d1 ⟨0, 7, 0⟩).wellFormed = false ∧ (Instr.notReadyReply .d1 ⟨0, 1, 4294967296⟩).wellFormed = false ∧
    (Instr.faultReply .d1 ⟨0, 7, 0⟩ [1]).wellFormed = false ∧ (Instr.doneReply .d1 ⟨0, 6, 0⟩).wellFormed = true := by
  decide

/-- A FAULT names 1 to 4 lanes, each from 1 to 4. -/
theorem test_wf_fault_lanes : (Instr.faultReply .d1 ⟨0, 1, 0⟩ []).wellFormed = false ∧
    (Instr.faultReply .d1 ⟨0, 1, 0⟩ [1, 2, 3, 4, 1]).wellFormed = false ∧
    (Instr.faultReply .d1 ⟨0, 1, 0⟩ [5]).wellFormed = false ∧ (Instr.faultReply .d1 ⟨0, 1, 0⟩ [0]).wellFormed = false ∧
    (Instr.faultReply .d1 ⟨0, 1, 0⟩ [4]).wellFormed = true := by decide

/-- An unknown request has a kind that Table 11-4 does not list, below 0x80. -/
theorem test_wf_unknown_kind : (Instr.unknownRequest .line 0x01 0 []).wellFormed = false ∧
    (Instr.unknownRequest .line 0x80 0 []).wellFormed = false ∧ (Instr.unknownRequest .line 0x08 0 []).wellFormed = true := by
  decide

/-- A body has at most 240 bytes, whatever the request. -/
theorem test_wf_body : ∀ i ∈ ([.unknownRequest .line 0x08, .loadJob .line, .startJob .line, .haltJob .line, .abortJob .line,
      .queryJob .line, .collectEnd .line, .feedNumbers .line, .readVoids .line, .releaseVoids .line, .readMakeUp .line,
      .releaseMakeUp .line, .readRecovery .line, .discardRecovery .line, .setLine .line, .readLine .line, .setPly .line,
      .readPly .line, .setDriver .line, .readDriver .line, .readReader .line, .armCapture .line, .readCapture .line,
      .setStopMask .line, .readStop .line, .clearStop .line, .setMonitor .line, .readMonitor .line, .readTallies .line,
      .clearShift .line, .setNotify .line, .acknowledgeAttention .line, .lineSummary .line, .reset .line] :
      List (Byte → List Byte → Instr)), (i 0 (List.replicate 241 0)).wellFormed = false := by
  intro i hi
  simp only [List.mem_cons, List.not_mem_nil, or_false] at hi
  rcases hi with rfl | rfl | rfl | rfl | rfl | rfl | rfl | rfl | rfl | rfl | rfl | rfl | rfl | rfl | rfl | rfl | rfl |
    rfl | rfl | rfl | rfl | rfl | rfl | rfl | rfl | rfl | rfl | rfl | rfl | rfl | rfl | rfl | rfl | rfl <;> decide +kernel

end Sys2Proof.Tests
end

