-- ==== Sys2Proof/Tests/Witnesses.lean ====
section
/-! SUPPORT. Witnesses for the premises of the statements in Certificates/Slice0/Obligations.lean: for each statement with
premises, a theorem `witness_<Name>` that shows a state and operands which meet them, clause by clause, at boundary values
of their ranges. -/

namespace Sys2Proof.Tests
open Sys2Proof Sys2Proof.Machine

-- One theorem at a time: a kernel evaluation waits for every earlier one, and each that waits holds a thread.
set_option Elab.async false

/-! ## States -/

/-- A state whose ports and straps are those of `base`, in NORMAL, takes every request at either port. -/
theorem takes_like {s : State} {port : Port} {k : RequestKind} (hl : s.line = base.line := by rfl)
    (hp : s.panel = base.panel := by rfl) (hs : s.straps = base.straps := by rfl)
    (hc : s.audit.condition = .normal := by rfl) : s.Takes port k := by
  obtain ⟨_, _, _, _, _, _, _, _, _, _, _, ⟨_, _, _, _, _, _, _, _⟩, _, _, _, _, _, _, _, _, _⟩ := s
  subst hl hp hs hc
  cases port <;> cases k <;> exact ⟨⟨rfl, rfl, Nat.zero_lt_succ _⟩, rfl, rfl⟩

/-- `base` takes every request. -/
theorem base_takes (port : Port) (k : RequestKind) : base.Takes port k := takes_like

/-- `base` in another condition. -/
def inCondition (c : Condition) : State := { base with audit := { base.audit with condition := c } }

/-- The press holds job 7 alone: its Job Table is in order. -/
theorem press_jobsOk : JobsOk (press 0).jobs := by unfold JobsOk; decide

/-- The Stop Unit of `base` is consistent. -/
theorem base_consistent : base.stop.Consistent := by unfold StopUnit.Consistent; decide

/-- A busy state at the bounds of the invariants: 1022 records and one row of two lanes, a driver with four orders and
three silences, four zones, a trend at −16·T, a counter one below its level, two held requests and four replies. -/
def busy : State := { held 961000 [row 0] 1 with
  audit := { base.audit with
    voids := List.replicate 1022 (void 1)
    queue := [⟨7, 4716, 2, 1, .waiting⟩, ⟨7, 4718, 2, 1, .issued⟩]
    records := [record .clean, record .clean, record .unclean, record .opened] }
  drivers := ⟨{ powerUpDriver with
    noReply := 3
    orders := [⟨255, .p1, 0, 0⟩, ⟨0, .p2, 0, 0⟩, ⟨1, .p1, 1, 0⟩, ⟨2, .p2, 1, 0⟩] }, powerUpDriver, powerUpDriver⟩
  zones := base.zones.set .p2 [⟨0, 1, 933⟩, ⟨10, 11, 943⟩, ⟨20, 21, 953⟩, ⟨30, 31, 963⟩]
  marks := base.marks.set .p2 { powerUpMark with trend := -640 }
  jobs := [job 7 .running plan, job 8 .loaded plan, job 9 .draining plan, job 65535 .ended plan]
  monitors := base.monitors.set .m1 { monitor1 with counter := 2 }
  stop := { latched := 0x10002, mask := 0xFFFF, held := 2, output := true }
  line := { base.line with
    held := [⟨0x01, 1, []⟩, ⟨0x02, 2, []⟩]
    replies := List.replicate 4 ⟨0x42, 0, .plain⟩
    sending := some .reply
    pending := 1
    unsent := true } }

/-! ## The machine -/

theorem witness_StepRunsTheFrontCommand :
    (base.setPending [.forwardCount, .reverseCount]).pending = [.forwardCount, .reverseCount] ∧ base.pending = [] :=
  ⟨rfl, rfl⟩

theorem witness_RecoveryCompletes :
    (let s := { State.reset with audit := { State.reset.audit with records := [record .opened], voids := [void 1] } }
     s.audit.condition = .recovering ∧ s.powerFail = false ∧ s.portAbsent .panel = false) ∧
    (let s := State.reset.setPowerFail true
     s.audit.condition = .recovering ∧ s.powerFail = true ∧ s.pipe.rows = [] ∧ s.stop.latched = 0 ∧ s.stop.held = 0 ∧
     s.stop.output = false) ∧
    base.audit.condition ≠ .recovering := by decide +kernel

/-! ## The web -/

/-- On old ground, at the wrap of positions, and in a warm reset with steps to come. -/
theorem witness_ForwardCountMovesTheWeb : (backed 499999).due = [] ∧ (press 1099511627775).due = [] ∧
    (press 961000).beginReset.due = [] ∧ (press 961000).beginReset.resetLeft = 2 := by decide +kernel

/-- One state past the limit by a tick with rows held, one at it, one at A = H with a marker due and a reverse limit of 0, and one
with a window end due besides. -/
theorem witness_ReverseCountBacksTheWeb :
    (let s := backed 499800
     s.due = [] ∧ (s.trk.excursion = .none ∨ s.trk.excursion = .backing) ∧
     (s.trk.reverseLimit : Int) < posDiff s.trk.h (s.trk.a - 1) ∧ s.pipe.rows ≠ []) ∧
    (let s := backed 499801
     s.due = [] ∧ ¬(s.trk.reverseLimit : Int) < posDiff s.trk.h (s.trk.a - 1)) ∧
    (let s := { due 1008725 [{ row 2 with stage := .merged }] (.marker 2) with
       trk := { (due 1008725 [{ row 2 with stage := .merged }] (.marker 2)).trk with reverseLimit := 0 } }
     s.due ≠ [] ∧ s.trk.retravel = false ∧ s.trk.excursion = .none ∧ (0 : Int) < posDiff s.trk.h (s.trk.a - 1)) ∧
    (let s := backingOff
     let w := ran (.markWindowEnd .p2) s
     s.due.map Scheduled.ev = [.marker 2, .windowEnd .p2] ∧ s.trk.retravel = false ∧ s.trk.reverseLimit = 0 ∧
     s.port .line = { base.line with sending := some (.notice 0) } ∧ s.portAbsent .panel = true ∧
     (s.port .panel).replies = [] ∧ (s.port .panel).unsent = false ∧ w.due.map Scheduled.ev = [.marker 2]) := by
  decide +kernel

theorem witness_OnlyEncoderCountsMoveTheWeb : (∃ t, exec (.spliceDetection .p2) (press 961000) = .next t) ∧
    (∀ st, Instr.spliceDetection .p2 ≠ .powerUp st) ∧ Instr.spliceDetection .p2 ≠ .forwardCount ∧
    Instr.spliceDetection .p2 ≠ .reverseCount :=
  ⟨⟨_, rfl⟩, (by intro st h; cases h), by decide, by decide⟩

theorem witness_RowDistancesFollowTheFormRepeat : 101600 % 50 = 0 := by decide

/-- The largest and the smallest distance from the anchor, O0 being the origin of row 0, and one from a later anchor. -/
theorem witness_MarkMapsToTheNearestRow : 60000 ≤ 60000 ∧ 60000 ≤ 93133 ∧
    (∀ rel ∈ [(549755813887 : Int), -549755813888], -(2 ^ 39) ≤ rel - rowOffset 60000 0 ∧ rel - rowOffset 60000 0 < 2 ^ 39) ∧
    -(2 ^ 39) ≤ 3725 - rowOffset 93133 5 ∧ 3725 - rowOffset 93133 5 < 2 ^ 39 := by decide +kernel

/-! ## The ports -/

/-- An unknown kind, a body too short, a kind that VIEW does not permit, and the conditions of test 4. -/
theorem witness_RequestsMeetTheEarlyTestsInOrder :
    base.Ready .line ∧ isReplyKind 0x08 = false ∧ ([] : List Byte).length ≤ 240 ∧ requestKind 0x08 = none ∧
    requestKind 0x02 = some .startJob ∧ bodyLengthOk .startJob [0] = false ∧ bodyLengthOk .startJob [0, 7] = true ∧
    (let s := { base with straps := { base.straps with panel := .view } }
     s.Ready .panel ∧ s.permits .panel .startJob = false) ∧
    ((inCondition .saving).Ready .line ∧ (inCondition .saved).Ready .line ∧
     (inCondition .saving).permits .line .startJob = true ∧ RequestKind.readOnly .startJob = false ∧
     RequestKind.startJob ≠ .reset) ∧
    (let s := { inCondition .resetting with straps := { base.straps with hold := .refuse } }
     s.Ready .line ∧ s.audit.condition = .resetting ∧ s.straps.hold = .refuse) ∧
    ((inCondition .resetting).Ready .line ∧ (inCondition .resetting).straps.hold = .defer) := by
  unfold State.Ready
  decide +kernel

theorem witness_ThirdRequestIsAnsweredBusy :
    (let s := { busy with line := { busy.line with replies := List.replicate 3 ⟨0x42, 0, .plain⟩ } }
     s.listens .line = true ∧ (s.port .line).held.length = 2 ∧ isReplyKind 0x42 = false ∧
     (List.replicate 240 (0 : Byte)).length ≤ 240 ∧ (s.port .line).replies.length < 4) ∧
    (busy.listens .line = true ∧ (busy.port .line).held.length = 2 ∧ (busy.port .line).replies.length = 4) := by
  decide +kernel

theorem witness_ReceiverSortsBytes : base.listens .line = true ∧ (base.port .line).receiver = .hunting ∧
    (∀ b ∈ ([0x00, 0xC2, 0xC4] : List Byte), b ≠ 0xC3) ∧ (1 : Byte).toNat < 2 ∧ 242 < (243 : Byte).toNat ∧
    (let kind : Byte := 0x42
     let tag : Byte := 3
     let body : List Byte := []
     body.length ≤ 240 ∧ [(0 : Byte), 0] ≠
       [(crc (BitVec.ofNat 8 (body.length + 2) :: kind :: tag :: body)).extractLsb' 8 8,
        (crc (BitVec.ofNat 8 (body.length + 2) :: kind :: tag :: body)).extractLsb' 0 8]) ∧
    isReplyKind 0x80 = true ∧ isReplyKind 0x7F = false := by decide +kernel

/-- Nothing sent; a reply sent with none, and with another, behind it; a notice sent; and two requests held behind four
replies. -/
theorem witness_TransmitterSendsRepliesThenTheNotice :
    ((base.port .line).held = [] ∧ (base.port .line).sending = none) ∧
    (noticing.port .line).held = [] ∧
    (∃ f, (noticing.port .line).sending = some .reply ∧ (noticing.port .line).replies = f :: []) ∧
    (let s := { base with line := { base.line with
        sending := some (.notice 1)
        replies := [⟨0x42, 0, .plain⟩] } }
     (s.port .line).held = [] ∧
     (∃ set, (s.port .line).sending = some (.notice set) ∧ (s.port .line).replies = [⟨0x42, 0, .plain⟩])) ∧
    (let q : Request := ⟨0x01, 1, []⟩
     let q' : Request := ⟨0x02, 2, []⟩
     (∃ f, (busy.port .line).sending = some .reply ∧ (busy.port .line).replies = f :: List.replicate 3 ⟨0x42, 0, .plain⟩) ∧
     busy.listens .line = true ∧ (busy.port .line).receiver = .hunting ∧ isReplyKind q.kind = false ∧ q.body.length ≤ 240 ∧
     (busy.port .line).held = [q, q'] ∧ ∃ v, request .line q.kind q.tag q.body base = .next v) ∧
    (let s := { busy with
       line := { busy.line with replies := List.replicate 3 ⟨0x42, 0, .plain⟩ }
       panel := { busy.panel with sending := some (.notice 1) } }
     (∃ f, (s.port .line).sending = some .reply ∧ (s.port .line).replies = f :: List.replicate 2 ⟨0x42, 0, .plain⟩) ∧
     (s.port .line).held = [⟨0x01, 1, []⟩, ⟨0x02, 2, []⟩] ∧ ∀ p, p ≠ .line → s.PortBusy p) :=
  ⟨⟨rfl, rfl⟩, rfl, ⟨_, rfl, rfl⟩, ⟨rfl, ⟨_, rfl, rfl⟩⟩,
    ⟨⟨_, rfl, rfl⟩, rfl, rfl, by decide, by decide, rfl, _, rfl⟩, ⟨_, rfl, rfl⟩, rfl,
    fun p hp => by cases p with
      | line => exact absurd rfl hp
      | panel => exact .inl (by decide)⟩

/-! ## Jobs -/

/-- The body of Table 11-7, one with direction 2, ones whose id is 0, whose ply is not installed, and the full table with
and without an ENDED job of the port. -/
theorem witness_LoadJobTestsAndRecord :
    base.Takes .line .loadJob ∧ planBody.length = 25 ∧ decodePlan planBody = some plan ∧ fieldAt 0 2 planBody = 7 ∧
    plan.valid = true ∧ decodePlan (planBody.set 11 2) = none ∧ fieldAt 0 2 (planBody.set 1 0) = 0 ∧
    (let s := { base with straps := { base.straps with plies := .p2 } }
     s.Takes .line .loadJob ∧ ∃ p ∈ Ply.all, inMask plan.mask p = true ∧ s.straps.installed p = false) ∧
    (let s := { base with jobs := [job 1 .ended plan, job 2 .loaded plan, job 3 .loaded plan, job 65535 .loaded plan] }
     s.Takes .line .loadJob ∧ ¬ s.jobs.length < 4 ∧
     s.jobs.find? (fun j => decide (j.state = .ended) && decide (j.owner = .line)) = some (job 1 .ended plan) ∧
     s.jobs.find? (fun j => decide (j.state = .ended) && decide (j.owner = .panel)) = none) := by
  refine ⟨base_takes _ _, by decide, by decide, by decide, by decide, by decide, by decide, ⟨?_, by decide⟩,
    takes_like, by decide, by decide, by decide⟩
  unfold State.Takes State.Ready
  decide

/-- Each test of R128 in turn has a state at which it decides, and `loaded` passes them all. -/
theorem witness_StartJobTestsAndStart :
    (loaded.Takes .line .startJob ∧ ([0, 7] : List Byte).length = 2 ∧ loaded.job 7 = some (job 7 .loaded plan) ∧
      loaded.jobs.find? (fun x => decide (x.state = .loaded)) = some (job 7 .loaded plan) ∧
      (¬∃ x ∈ loaded.jobs, x.state = .running) ∧ loaded.trk.epoch = none ∧ ¬ 4 ≤ loaded.audit.records.length ∧
      geometryOk loaded.plies loaded.trk.v loaded.trk.x plan = true) ∧
    base.job 7 = none ∧ (loaded.job 7).map Job.owner ≠ some .panel ∧
    (let s := { loaded with jobs := [job 6 .loaded plan, job 7 .loaded plan] }
     s.Takes .line .startJob ∧ s.jobs.find? (fun x => decide (x.state = .loaded)) ≠ some (job 7 .loaded plan)) ∧
    (let s := { loaded with audit := busy.audit }
     s.Takes .line .startJob ∧ 4 ≤ s.audit.records.length) := by
  refine ⟨⟨takes_like, by decide, by decide, by decide, by decide, by decide, by decide,
    by decide +kernel⟩, by decide, by decide, ⟨takes_like, by decide⟩,
    takes_like, by decide⟩

theorem witness_GeometryCheckTests : plan.mask ≠ 0 ∧ geometryOk plies 6000 24000 plan = true ∧
    geometryOk plies 6000 6000 plan = false := by decide +kernel

/-- A running job with a row, with a FOLLOW job behind it whose plan is the same and whose plan is another; a running job
with no row and none behind it; and the other states. -/
theorem witness_HaltJobByState :
    (let n := { job 8 .loaded plan with follow := true }
     let s := { held 961000 [row 0] 1 with jobs := [job 7 .running plan, n] }
     s.Takes .line .haltJob ∧ s.job 7 = some (job 7 .running plan) ∧ JobsOk s.jobs ∧ s.jobHasRow 7 = true ∧
     s.oldestLoaded = some n ∧ n.follow = true ∧ n.plan.repeatUm = plan.repeatUm ∧ s.audit.records.length < 4 ∧
     { n with plan := { plan with lanes := 3 } }.plan.lanes ≠ plan.lanes) ∧
    ((press 0).Takes .line .haltJob ∧ (press 0).job 7 = some (job 7 .running plan) ∧ JobsOk (press 0).jobs ∧
     (press 0).jobHasRow 7 = false ∧ (press 0).oldestLoaded = none ∧ (press 0).portAbsent .line = false) ∧
    (let n := { job 8 .loaded plan with follow := true }
     let s := { press 0 with jobs := [job 7 .running plan, n] }
     s.Takes .line .haltJob ∧ JobsOk s.jobs ∧ s.jobHasRow 7 = false ∧ s.follower (job 7 .running plan) = some n ∧
     s.follower (job 7 .running { plan with lanes := 3 }) = none ∧ s.oldestLoaded = some n) ∧
    ((busy.job 8).map Job.state = some .loaded ∧ (busy.job 9).map Job.state = some .draining ∧
     (busy.job 65535).map Job.state = some .ended ∧ busy.job 1 = none) := by
  refine ⟨⟨takes_like, ?_⟩, ⟨takes_like, ?_⟩, ⟨takes_like, ?_⟩, by decide +kernel⟩ <;>
    (unfold JobsOk; decide +kernel)

theorem witness_AbortJobByState :
    (let s := held 961000 [row 0] 1
     s.Takes .line .abortJob ∧ s.job 7 = some (job 7 .running plan) ∧ s.oldestLoaded = none ∧ JobsOk s.jobs ∧
     s.jobHasRow 7 = true) ∧
    (let n := { job 8 .loaded plan with follow := true }
     let s := { press 0 with jobs := [job 7 .running plan, n] }
     s.Takes .line .abortJob ∧ JobsOk s.jobs ∧ s.jobHasRow 7 = false ∧ s.follower (job 7 .running plan) = some n) ∧
    (loaded.Takes .line .abortJob ∧ loaded.job 7 = some (job 7 .loaded plan) ∧ JobsOk loaded.jobs ∧
     loaded.portAbsent .line = false ∧ loaded.feedJob = none) ∧
    (let j := job 7 .loaded { plan with source := .list }
     let s := { loaded with jobs := [j] }
     s.feedJob = some j ∧ JobsOk s.jobs) ∧
    (busy.job 9).map Job.state = some .draining := by
  refine ⟨⟨takes_like, ?_⟩, ⟨takes_like, ?_⟩, ⟨takes_like, ?_⟩, ?_, by decide +kernel⟩ <;>
    (unfold JobsOk; decide +kernel)

theorem witness_QueryJobReports : (inCondition .saved).Ready .line ∧ ([0, 7] : List Byte).length = 2 := by
  unfold State.Ready
  decide

theorem witness_CollectEndTests :
    let s := { base with jobs := [{ job 7 .ended plan with endRec := some ended }, job 8 .loaded plan, job 9 .draining plan] }
    s.Takes .line .collectEnd ∧ ([0, 7] : List Byte).length = 2 ∧
    s.job 7 = some { job 7 .ended plan with endRec := some ended } ∧ (s.job 8).map Job.state = some .loaded ∧
    (s.job 9).map Job.state = some .draining ∧ s.job 1 = none :=
  ⟨takes_like, by decide, by decide, by decide, by decide, by decide⟩

/-- A LIST job that owns the feed, with 1 and with 32 numbers at the bound of width 4, and a feed filled to 511. -/
theorem witness_FeedNumbersTests :
    (let s := { base with
      jobs := [job 7 .loaded { plan with width := 4, source := .list }]
      gen := { base.gen with feed := List.replicate 511 1 } }
     let body : List Byte := [1, 0, 0, 0, 0x27, 0x0F]
     s.Takes .line .feedNumbers ∧ body.length = 1 + 5 * fieldAt 0 1 body ∧
     (match s.running with | some j => some j | none => s.oldestLoaded) =
       some (job 7 .loaded { plan with width := 4, source := .list }) ∧
     (List.range (fieldAt 0 1 body)).map (fun i => fieldAt (1 + 5 * i) 5 body) = [9999] ∧
     ¬ 512 < s.gen.feed.length + 1) ∧
    (let body : List Byte := 32 :: List.replicate 160 0
     body.length = 1 + 5 * fieldAt 0 1 body) ∧
    (base.Takes .line .feedNumbers ∧ base.running = none ∧ base.oldestLoaded = none) :=
  ⟨⟨takes_like, by decide, by decide, by decide, by decide +kernel⟩, by decide +kernel,
    base_takes _ _, by decide, by decide⟩

/-! ## Attentions and stop causes -/

theorem witness_StopCausesLatchAndTheOutputFollows : base.stop.Consistent ∧ stopped.stop.Consistent := by
  unfold StopUnit.Consistent
  decide

/-! ## Cue marks -/

/-- Re-travel; FREE with capture armed for the ply and without; a ply outside the mask; and a detection 931 ticks behind a
reference whose distance is 1863, and so half a tick too near. -/
theorem witness_MarksNotGivenToARow :
    (backed 499999).trk.retravel = true ∧ (base.trk.retravel = false ∧ base.trk.epoch = none) ∧
    (let s := ran (.armCapture .line 1 [1, 2, 15]) base
     s.trk.capture.enabled = true ∧ s.trk.capture.ply = some .p2 ∧ s.trk.epoch = none ∧ s.trk.retravel = false) ∧
    (let s := running2 970191 (ply2 (-106) 0 969260 1863 5 971123) 971324
     s.trk.retravel = false ∧ s.trk.epoch = some ⟨93133, 7, .p1, 48000, some 1000000⟩ ∧ inMask 7 .p4 = false ∧
     inMask 7 .p2 = true ∧ (s.marks.get .p2).spacing = some ⟨969260, 1863⟩ ∧
     2 * posDiff s.trk.h 969260 < 1863) := by decide +kernel

/-- Events 10 and 9 of the run of Table 2-5, in register and out of it; L = 200, the lead, puts the send position at H. -/
theorem witness_MarkGivenToAnOpenRow :
    (let s := running2 971150 (ply2 (-106) 0 969260 1863 5 971123) 971324
     let ep : Epoch := ⟨93133, 7, .p1, 48000, some 1000000⟩
     s.stop.Consistent ∧ s.audit.condition = .normal ∧ s.trk.retravel = false ∧ s.trk.epoch = some ep ∧
     ep.o0 = some 1000000 ∧ inMask ep.mask .p2 = true ∧ (s.marks.get .p2).spacing = some ⟨969260, 1863⟩ ∧
     1863 ≤ 2 * posDiff s.trk.h 969260 ∧
     mapMark 1000000 ep.repeatUm (s.pipe.nextIndex.getD 4294967296) (s.trk.h + BitVec.ofNat 40 (s.plies.get .p2).d) =
       (((6 : Nat) : Int), -26) ∧
     (s.marks.get .p2).lastRow = some 5 ∧ s.pipe.nextIndex = some 7 ∧ s.row 6 = some (row 6) ∧ (row 6).stage = .opened ∧
     (row 6).plyRec .p2 = some ⟨.p2, .none, .notDue, PerLane.all .noneExpected⟩ ∧
     isAhead (s.trk.h + BitVec.ofNat 40 (s.plies.get .p2).l - BitVec.ofNat 40 (s.drivers.get Ply.p2.driver).lead)
       s.trk.h = true ∧
     s.trk.dueEntry (.send .p2 6) = none) ∧
    (let s := running2 969260 (ply2 (-106) 2 967416 1862 4 969278) 969479
     (s.marks.get .p2).spacing = some ⟨967416, 1862⟩ ∧ 1862 ≤ 2 * posDiff s.trk.h 967416 ∧
     mapMark 1000000 93133 (s.pipe.nextIndex.getD 4294967296) (s.trk.h + BitVec.ofNat 40 (s.plies.get .p2).d) =
       (((5 : Nat) : Int), -53) ∧ (s.plies.get .p2).t < 53) ∧
    isAhead ((971150 : Pos) + BitVec.ofNat 40 200 - BitVec.ofNat 40 (base.drivers.get Ply.p2.driver).lead) 971150 = false := by
  unfold StopUnit.Consistent
  decide +kernel

/-- Marks 1 and 7 of the run of Table 2-5. -/
theorem witness_PreJobMarksAndDuplicates :
    (let s := press 958140
     let ep : Epoch := ⟨93133, 7, .p1, 48000, some 1000000⟩
     s.stop.Consistent ∧ s.trk.retravel = false ∧ s.trk.epoch = some ep ∧ inMask ep.mask .p2 = true ∧
     (s.marks.get .p2).spacing = none ∧
     mapMark 1000000 ep.repeatUm (s.pipe.nextIndex.getD 4294967296) (s.trk.h + BitVec.ofNat 40 (s.plies.get .p2).d) =
       (-1, 3) ∧ (-1 : Int) < 0) ∧
    (let s := running2 966500 (ply2 (-106) 1 965553 1863 3 967416) 967617
     (s.marks.get .p2).spacing = some ⟨965553, 1863⟩ ∧ 1863 ≤ 2 * posDiff s.trk.h 965553 ∧
     mapMark 1000000 93133 (s.pipe.nextIndex.getD 4294967296) (s.trk.h + BitVec.ofNat 40 (s.plies.get .p2).d) =
       (((3 : Nat) : Int), 912) ∧ (s.marks.get .p2).lastRow = some 3) := by
  unfold StopUnit.Consistent
  decide +kernel

/-- Ply 1, the reference ply, and ply 2, at the origin; the reservation just passes with 1022 records. -/
theorem witness_OriginMarkOpensRowZero :
    let s := opening 1022
    let ep : Epoch := ⟨93133, 7, .p1, 48000, none⟩
    (s.trk.retravel = false ∧ s.trk.epoch = some ep ∧ ep.o0 = none ∧ inMask ep.mask .p1 = true ∧
      inMask ep.mask .p2 = true ∧ (s.marks.get .p1).spacing = none ∧ (s.marks.get .p2).spacing = none ∧
      Ply.p2 ≠ ep.refPly ∧ Ply.p1 = ep.refPly ∧ s.audit.condition = .normal ∧ s.running = some (job 7 .running plan) ∧
      s.pipe.nextIndex = some 0 ∧ s.pipe.rows = [] ∧ s.trk.schedule = [] ∧ s.gen.phase = .sequence ∧
      s.gen.complete = false ∧ s.gen.r = 0 ∧ plan.source = .sequence ∧ 0 < plan.lanes ∧ plan.sequenceDone 1 = false ∧
      s.audit.voidCount + plan.lanes ≤ 1024 ∧ 0 < ep.dRef ∧ ep.dRef + s.trk.v < 2 ^ 39 ∧ ep.dRef + s.trk.x < 2 ^ 39 ∧
      isAhead (s.trk.h + BitVec.ofNat 40 (s.plies.get .p1).l - BitVec.ofNat 40 (s.drivers.get Ply.p1.driver).lead)
        s.trk.h = true) ∧
    (∀ q, s.zones.get q = []) ∧ JobsOk s.jobs := by
  refine ⟨by decide +kernel, ?_, press_jobsOk⟩
  intro q
  cases q <;> rfl

/-- The epoch of Table 1-4. -/
def epoch1 : Epoch := ⟨93133, 7, .p1, 48000, some 1000000⟩

/-- At H = 963,745 a mark of ply 2 is reported for row 2 (section 2.4), whatever row from 1 on opens next, and rows 1 and 2 lie
ahead with nothing of them scheduled. -/
theorem reports_row2 {s : State} (n : Nat) (hn : s.pipe.nextIndex = some n) (h1 : n = 1 ∨ n = 2 ∨ n = 3)
    (ht : s.trk = (press 963745).trk := by rfl) (hp : s.plies = plies := by rfl) (hm : s.marks = base.marks := by rfl)
    (hd : s.drivers = base.drivers := by rfl) :
    s.Reports (.cueMarkDetection .p2) .p2 epoch1 1000000 2 963745 (.mark 963745 20) ∧
    (∀ i ∈ [1, 2], s.RowAhead i (rowOrigin 1000000 93133 (i : Nat)) .p2 963745) := by
  have hx : (base.marks.get .p2).lastRow = none ∧ (base.marks.get .p2).spacing = none := ⟨rfl, rfl⟩
  unfold State.Reports State.RowAhead State.sendPos
  rw [ht, hp, hm, hn, hd]
  refine ⟨⟨rfl, rfl, by decide, .inl ⟨20, rfl, rfl, rfl, by decide +kernel, ?_, ?_, ?_⟩⟩, by decide +kernel⟩
  · intro g h; rw [hx.2] at h; cases h
  · rcases h1 with rfl | rfl | rfl <;> decide +kernel
  · intro i h; rw [hx.1] at h; cases h

/-- What the statement on the row at the next index asks of a state beside the report, and of the RUNNING job. -/
def Opens (s : State) (j : Job) : Prop :=
  0 < j.plan.lanes ∧ s.audit.condition = .normal ∧ s.stop.Consistent ∧ JobsOk s.jobs ∧ QueueOk s.audit.queue ∧
  s.running = some j ∧ s.pipe.nextIndex = some 2 ∧ ∀ r ∈ s.pipe.rows, r.k < 2

/-- The press with rows 0 and 1 at H = 963,745: a draw from the sequence, as it stands. -/
def next2 : State := held 963745 [row 0, row 1] 2

/-- The cases of the row at the next index: a draw from the sequence; row 2 spoiled at its cue position of ply 2; one lane
too many for the reservation, and just room with the condition set; a feed of one number at the low mark; a WAITING entry, and
none, in the MAKEUP phase; a draw that completes the plan of a STRICT and of a LOG_ONLY job. -/
theorem witness_OriginMarkOpensRowZero_next :
    Opens next2 (job 7 .running plan) ∧
    (let s := { next2 with zones := base.zones.set .p2 [⟨963725, 963725, 964658⟩] }
     Opens s (job 7 .running plan) ∧ s.pipe.nextIndex = some 2 ∧
     s.isSpoiled .p2 (rowOrigin 1000000 93133 2 - BitVec.ofNat 40 (s.plies.get .p2).d) = true) ∧
    (let s := { next2 with audit := { base.audit with voids := List.replicate 1019 (void 1) } }
     Opens s (job 7 .running plan) ∧ ((plan.numbersAt 2).filter Option.isSome).length = 2 ∧
     1024 < s.audit.voids.length + s.audit.inFlight.length + (s.pipe.rows.map Row.numbered).sum + 2) ∧
    (let s := { next2 with
       audit := { base.audit with voids := List.replicate 1018 (void 1) }
       pipe := { next2.pipe with reserve := true } }
     Opens s (job 7 .running plan) ∧ s.pipe.reserve = true ∧
     s.audit.voids.length + s.audit.inFlight.length + (s.pipe.rows.map Row.numbered).sum + 2 = 1024) ∧
    (let j := job 7 .running { plan with source := .list }
     let s := { next2 with
       jobs := [j]
       gen := { next2.gen with feed := [4716], lowMark := 1 } }
     Opens s j ∧ min j.plan.lanes (min s.gen.feed.length (j.plan.count - s.gen.listCount)) = 1 ∧
     s.gen.lowMark ≤ s.gen.feed.length) ∧
    (∀ q ∈ [[⟨7, 4712, 2, 1, .waiting⟩], ([] : List MakeUpEntry)],
      Opens { next2 with
        gen := { next2.gen with phase := .makeUp, complete := true }
        audit := { base.audit with queue := q } } (job 7 .running plan)) ∧
    (∀ a ∈ [Accounting.strict, .logOnly], (let j := job 7 .running { plan with count := 6, accounting := a }
     Opens { next2 with jobs := [j] } j ∧ j.plan.sequenceDone (2 + 1) = true ∧ { next2 with jobs := [j] }.oldestLoaded = none)) := by
  unfold Opens JobsOk QueueOk StopUnit.Consistent
  refine ⟨?_, ?_, ?_, ?_, ?_, ?_, ?_⟩ <;> decide +kernel

/-- Each of those states has the report, of a mark; and one of a flywheel, its window end due. -/
theorem witness_OriginMarkOpensRowZero_report :
    (next2.Reports (.cueMarkDetection .p2) .p2 epoch1 1000000 2 963745 (.mark 963745 20) ∧
      next2.RowAhead 2 (rowOrigin 1000000 93133 (2 : Nat)) .p2 963745) ∧
    (let s := { held 963946 [row 0, row 1] 2 with
       marks := base.marks.set .p2 (ply2 0 0 961882 1863 1 963745)
       trk := { (press 963946).trk with schedule := [⟨963946, .windowEnd .p2⟩] } }
     s.Reports (.markWindowEnd .p2) .p2 epoch1 1000000 2 963745 (.flywheel 963745) ∧
     s.RowAhead 2 (rowOrigin 1000000 93133 (2 : Nat)) .p2 963745) := by
  refine ⟨⟨(reports_row2 2 rfl (.inr (.inl rfl))).1, (reports_row2 2 rfl (.inr (.inl rfl))).2 2 (by decide)⟩,
    ⟨rfl, rfl, by decide, .inr ⟨⟨963946, .windowEnd .p2⟩, ⟨963745, 1⟩, rfl, by decide +kernel, rfl, by decide, rfl, rfl⟩⟩, ?_⟩
  unfold State.RowAhead
  decide +kernel

/-- Rows 1 and 2 opened together, the form reported for row 2; and a form discarded: outside NORMAL, for row 2 with no job
RUNNING, and for row 2 where it is past OPEN. -/
theorem witness_OriginMarkOpensRowZero_beyond :
    (let s := held 963745 [row 0] 1
     s.Reports (.cueMarkDetection .p2) .p2 epoch1 1000000 (1 + 1) 963745 (.mark 963745 20) ∧
     (∀ i ∈ [1, 2], s.RowAhead i (rowOrigin 1000000 93133 (i : Nat)) .p2 963745)) ∧
    (let s := held 963745 [row 0] 1
     s.audit.condition = .normal ∧ s.stop.Consistent ∧ JobsOk s.jobs ∧ s.running = some (job 7 .running plan) ∧
     s.pipe.nextIndex = some 1 ∧ (∀ r ∈ s.pipe.rows, r.k < 1) ∧ s.pipe.reserve = false ∧ s.gen.phase = .sequence ∧ s.gen.complete = false ∧
     plan.source = .sequence ∧ (∀ i ∈ [0, 1], plan.sequenceDone (s.gen.r + i + 1) = false) ∧
     s.audit.voids.length + s.audit.inFlight.length + (s.pipe.rows.map Row.numbered).sum + 2 * plan.lanes ≤ 1024 ∧
     ∀ q ∈ Ply.all, s.zones.get q = []) ∧
    (let s := { next2 with audit := { base.audit with condition := .saving } }
     s.Reports (.cueMarkDetection .p2) .p2 epoch1 1000000 2 963745 (.mark 963745 20) ∧ s.audit.condition ≠ .normal ∧
     s.stop.latched = 0 ∧ s.stop.held = 0 ∧ s.stop.output = false) ∧
    (let s := { next2 with jobs := [] }
     s.Reports (.cueMarkDetection .p2) .p2 epoch1 1000000 2 963745 (.mark 963745 20) ∧ s.running = none ∧ s.row 2 = none ∧
     s.stop.latched = 0 ∧ s.stop.held = 0 ∧ s.stop.output = false) ∧
    (let r := row2 .merged 0 false
     let s := held 963745 [r] 3
     s.Reports (.cueMarkDetection .p2) .p2 epoch1 1000000 2 963745 (.mark 963745 20) ∧ s.pipe.nextIndex = some 3 ∧
     s.row 2 = some r ∧ r.stage ≠ .opened ∧ s.stop.latched = 0 ∧ s.stop.held = 0 ∧ s.stop.output = false) := by
  refine ⟨reports_row2 1 rfl (.inl rfl), ?_, ⟨(reports_row2 2 rfl (.inr (.inl rfl))).1, by decide⟩,
    ⟨(reports_row2 2 rfl (.inr (.inl rfl))).1, by decide +kernel⟩, ⟨(reports_row2 3 rfl (.inr (.inr rfl))).1, by decide +kernel⟩⟩
  unfold JobsOk StopUnit.Consistent
  decide +kernel

/-- Event 8 of the run of Table 2-5, the eighth miss, a flywheel of a pre-job form, L = 401, with which the send position is at
H, and a window end not due. -/
theorem witness_FlywheelAtTheWindowEnd :
    (let s := running2 967617 (ply2 (-106) 7 965553 1863 3 967416) 967617
     s.trk.dueEntry (.windowEnd .p2) = some ⟨967617, .windowEnd .p2⟩ ∧
     s.trk.epoch = some ⟨93133, 7, .p1, 48000, some 1000000⟩ ∧
     (s.marks.get .p2).expected = some ⟨967416, 3⟩ ∧ (3 : Int) + 1 = ((4 : Nat) : Int) ∧ s.audit.condition = .normal ∧
     s.pipe.nextIndex = some 7 ∧ s.row 4 = some (row 4) ∧ (row 4).stage = .opened ∧
     (row 4).plyRec .p2 = some ⟨.p2, .none, .notDue, PerLane.all .noneExpected⟩ ∧
     isAhead (967416 + BitVec.ofNat 40 (s.plies.get .p2).l - BitVec.ofNat 40 (s.drivers.get Ply.p2.driver).lead)
       s.trk.h = true ∧
     s.trk.dueEntry (.send .p2 4) = none ∧ min ((s.marks.get .p2).missed + 1) 255 = 8) ∧
    (let m : MarkPly := { ply2 0 0 956277 1862 0 958140 with
      expected := some ⟨958140, -2⟩
      lastRow := none }
     let s := running2 958341 m 958341
     s.trk.dueEntry (.windowEnd .p2) = some ⟨958341, .windowEnd .p2⟩ ∧ (s.marks.get .p2).expected = some ⟨958140, -2⟩ ∧
     (-2 : Int) + 1 < 0) ∧
    isAhead ((967416 : Pos) + BitVec.ofNat 40 401 - BitVec.ofNat 40 (base.drivers.get Ply.p2.driver).lead) 967617 = false ∧
    (running2 967616 (ply2 (-106) 1 965553 1863 3 967416) 967617).trk.dueEntry (.windowEnd .p2) = none := by
  decide +kernel

/-! ## Splices -/

/-- Re-travel, FREE, a ply outside the mask; an empty list, a list that merges, a full one; rows held in NORMAL; an expiry due
and not. -/
theorem witness_SplicePlacesAZoneAndExpiryDropsIt :
    (backed 499999).trk.retravel = true ∧ base.trk.epoch = none ∧
    ((press 0).trk.epoch = some ⟨93133, 7, .p1, 48000, some 1000000⟩ ∧ inMask 7 .p4 = false) ∧
    (let s := crowded 100800 [⟨104700, 105700, 106633⟩]
     s.trk.retravel = false ∧ s.trk.epoch = some ⟨93133, 15, .p1, 48000, some 1000000⟩ ∧ inMask 15 .p4 = true ∧
     s.trk.dueEntry (.zoneExpiry .p4) = none ∧ s.pipe.rows = [] ∧
     isAhead (s.trk.h + 5000 + 700 + BitVec.ofNat 40 (93133 / 50 / 2 + 2)) s.trk.h = true ∧
     s.zones.get .p4 = [] ++ [⟨104700, 105700, 106633⟩] ∧ isAhead (s.trk.h + 5000 - 300) (105700 + 1) = false) ∧
    (let s := held 961000 [row 0, row 1, row 2, row 3, row 4] 5
     s.trk.retravel = false ∧ s.trk.epoch = some ⟨93133, 7, .p1, 48000, some 1000000⟩ ∧ inMask 7 .p2 = true ∧
     s.trk.dueEntry (.zoneExpiry .p2) = none ∧ s.audit.condition = .normal ∧ s.pipe.rows ≠ [] ∧ s.zones.get .p2 = [] ∧
     isAhead (s.trk.h + 5000 + 2000 + BitVec.ofNat 40 (93133 / 50 / 2 + 2)) s.trk.h = true) ∧
    (isAhead (102000 + 5000 - 300) (106500 + 1) = true ∧ (crowded 102000 []).zones.get .p4 = []) ∧
    (let zs : List Zone := [⟨104700, 106500, 107433⟩, ⟨106700, 107700, 108633⟩, ⟨107800, 108800, 109733⟩]
     let n : Zone := ⟨108900, 109900, 110833⟩
     let s := crowded 107000 (zs ++ [n])
     s.zones.get .p4 = zs ++ [n] ∧ ¬(zs ++ [n]).length < 4 ∧ isAhead (s.trk.h + 5000 - 300) (n.stop + 1) = true ∧
     s.trk.dueEntry (.zoneExpiry .p4) = none ∧ s.pipe.rows = [] ∧
     isAhead (s.trk.h + 5000 + 700 + BitVec.ofNat 40 (93133 / 50 / 2 + 2)) s.trk.h = true) ∧
    (let s := { crowded 107433 [⟨104700, 106500, 107433⟩] with
       trk := { (crowded 107433 []).trk with schedule := [⟨107433, .zoneExpiry .p4⟩] } }
     s.trk.retravel = false ∧ s.trk.dueEntry (.zoneExpiry .p4) ≠ none ∧
     isAhead (s.trk.h + 5000 + 700 + BitVec.ofNat 40 (93133 / 50 / 2 + 2)) s.trk.h = true) ∧
    (let s := { crowded 107433 [] with trk := { (crowded 107433 []).trk with schedule := [⟨107433, .zoneExpiry .p4⟩] } }
     s.trk.dueEntry (.zoneExpiry .p4) = some ⟨107433, .zoneExpiry .p4⟩) := by decide +kernel

/-- The walk of a splice on ply 2 can take the row, `lo` being where the affected span begins: job 7, affected, unprinted, OPEN,
no order sent. -/
def canTake (s : State) (lo : Pos) (y : Row) : Bool :=
  decide (y.job = 7) && inSpan lo (s.trk.h + 5000 + 2000) ((y.assignedPos .p2).getD (y.origin - BitVec.ofNat 40 40000)) &&
    !y.printed && decide (y.stage = .opened) && y.plies.all (fun z => decide (z.order = .notDue ∨ z.order = .scheduled))

/-- What the walk's statement asks of a state and its rows. -/
def Walks (s : State) (lo : Pos) (older taken : List Row) : Prop :=
  s.audit.condition = .normal ∧ s.trk.retravel = false ∧ s.trk.epoch = some ⟨93133, 7, .p1, 48000, some 1000000⟩ ∧
  inMask 7 .p2 = true ∧
  isAhead (s.trk.h + 5000 + 2000 + BitVec.ofNat 40 (93133 / 50 / 2 + 2)) s.trk.h = true ∧ s.stop.Consistent ∧
  JobsOk s.jobs ∧ s.running.map Job.id = some 7 ∧ s.pipe.rows = older ++ taken ∧ (s.pipe.rows.map Row.k).Nodup ∧
  older.getLast?.all (fun y => !canTake s lo y) = true ∧ taken.all (canTake s lo) = true

/-- Section 3.6 with rows 0 to 4 open: rows 3 and 4 lie in the span, row 2 behind it. Row 4 as drawn in the MAKEUP phase, with
its ISSUED entry. And a full list whose newest zone ends at row 3's cue position, so that row 4 alone is affected. -/
theorem witness_SpliceWithdrawsTheYoungestRow :
    (let s := held 961000 [row 0, row 1, row 2, row 3, row 4] 5
     Walks s (961000 + 5000 - 500) [row 0, row 1, row 2] [row 3, row 4] ∧ (s.zones.get .p2).getLast? = none ∧
     (row 3).fromDraw = true ∧ (row 4).fromDraw = true) ∧
    (let n : LaneNumber := { n := 4716, str := plan.printed 4716, checked := true, source := .makeUp 1 }
     let r : Row := { row 4 with lanes := [freshLane n, blankLane] }
     let s := { held 961000 [row 2, r] 5 with
       audit := { base.audit with queue := [⟨7, 4716, 2, 1, .issued⟩] }
       pipe := { (held 961000 [row 2, r] 5).pipe with reserve := true } }
     Walks s (961000 + 5000 - 500) [row 2] [r] ∧ 0 < r.numbered ∧ r.fromDraw = false ∧ plan.accounting = .strict ∧
     (⟨7, 4716, 2, 1, .issued⟩ : MakeUpEntry) ∈ s.audit.queue) ∧
    (let zs : List Zone := [⟨1, 2, 935⟩, ⟨4, 5, 938⟩, ⟨7, 8, 941⟩, ⟨965400, 965588, 966521⟩]
     let s := { held 962000 [row 3, row 4] 5 with zones := base.zones.set .p2 zs }
     Walks s 965589 [row 3] [row 4] ∧ (s.zones.get .p2).getLast? = some ⟨965400, 965588, 966521⟩ ∧
     isAhead (962000 + 5000 - 500) ((965588 : Pos) + 1) = true ∧ 4 ≤ (s.zones.get .p2).length) := by
  refine ⟨?_, ?_, ?_⟩ <;> (unfold Walks JobsOk StopUnit.Consistent; decide +kernel)

/-! ## Numbers -/

theorem witness_EverySetIndexIsDrawnOnceAndInRange : plan43.valid = true ∧ 6 < plan43.count ∧
    plan43.setIndex 2 0 = some 6 ∧ plan44.valid = true ∧ plan44.setIndex 247 3 = some 1000 ∧ plan44.source = .sequence := by
  decide +kernel

theorem witness_PrintedStringsAndCheckDigits : 9999999 < 10 ^ plan.width ∧ plan.check = .mod10w ∧
    70 < 10 ^ plan43.width ∧ plan43.check = .mod7 := by decide

/-! ## The row pipeline -/

/-- Row 2 with ply 1 DONE and read, ply 2 SENT and awaited, ply 3 still SCHEDULED. -/
def judged : Row := { row 2 with
  plies := [⟨.p1, .mark 955730 5, .done, ⟨.matched, .matched, .noneExpected, .noneExpected⟩⟩,
    ⟨.p2, .mark 963745 20, .sent, ⟨.matched, .awaited, .noneExpected, .noneExpected⟩⟩,
    ⟨.p3, .none, .scheduled, PerLane.all .noneExpected⟩] }

/-- The order of ply 2 for it lapses; driver 1's no-reply count is 2 and so reaches its third. With plies 1 and 2 SENT and the
count at 0 both lapse below it. And a row past OPEN. -/
theorem witness_MergeJudgesTheRow :
    (let s := { due 1003725 [judged] (.merge 2) with
      drivers := ⟨{ powerUpDriver with noReply := 2, orders := [⟨0, .p2, 2, 988745⟩, ⟨1, .p1, 3, 0⟩] }, powerUpDriver, powerUpDriver⟩ }
     s.trk.dueEntry (.merge 2) = some ⟨1003725, .merge 2⟩ ∧ s.row 2 = some judged ∧ judged.stage = .opened ∧
     (∀ z ∈ judged.plies, z.order = .sent → z.ply.driver ≠ .d2) ∧
     judged.plies.filter (fun v => decide (v.order = .sent) && decide (v.ply.driver = .d1)) =
       [⟨.p2, .mark 963745 20, .sent, ⟨.matched, .awaited, .noneExpected, .noneExpected⟩⟩] ∧
     (s.drivers.get .d1).orders.find? (fun o => decide (o.ply = .p2) && decide (o.row = 2)) = some ⟨0, .p2, 2, 988745⟩ ∧
     s.stop.Consistent ∧ (s.drivers.get .d1).state ≠ .down) ∧
    (let r : Row := { judged with plies := judged.plies.map (fun z => { z with order := .sent }) }
     let s := { due 1003725 [r] (.merge 2) with
      drivers := ⟨{ powerUpDriver with orders := [⟨0, .p2, 2, 988745⟩, ⟨1, .p1, 2, 985530⟩] }, powerUpDriver, powerUpDriver⟩ }
     s.trk.dueEntry (.merge 2) = some ⟨1003725, .merge 2⟩ ∧ s.row 2 = some r ∧ r.stage = .opened ∧
     (r.plies.filter (fun z => decide (z.order = .sent) && decide (z.ply.driver = .d1))).map PlyRec.ply = [.p1, .p2] ∧
     (s.drivers.get .d1).noReply + 1 < 3) ∧
    (let r := row2 .merged 0 false
     let s := due 1003725 [r] (.merge 2)
     s.trk.dueEntry (.merge 2) = some ⟨1003725, .merge 2⟩ ∧ s.row 2 = some r ∧ r.stage ≠ .opened) ∧
    base.trk.dueEntry (.merge 2) = none := by
  unfold StopUnit.Consistent
  decide +kernel

theorem witness_MarkerPulsesVoidLanes :
    (let r := row2 .merged (CauseSet.ofList [.noRead]) false
     let s := due 1009725 [r] (.marker 2)
     s.trk.dueEntry (.marker 2) = some ⟨1009725, .marker 2⟩ ∧ s.row 2 = some r ∧ r.stage = .merged ∧
     (∀ l ∈ Lane.all, s.trk.dueEntry (.pulseEnd l) = none) ∧
     isAhead (r.origin + BitVec.ofNat 40 s.trk.v + 64) s.trk.h = true) ∧
    (let r := row2 .opened (CauseSet.ofList [.headFault]) false
     let s := due 1009725 [r] (.marker 2)
     s.trk.dueEntry (.marker 2) = some ⟨1009725, .marker 2⟩ ∧ s.row 2 = some r ∧ r.stage = .opened ∧
     (next? (exec (.merge 2) (s.setTrk { s.trk with schedule := ⟨s.trk.h, .merge 2⟩ :: s.trk.schedule }))).isSome = true) ∧
    base.trk.dueEntry (.marker 2) = none ∧ base.trk.dueEntry (.pulseEnd .l2) = none ∧
    (due 1009789 [] (.pulseEnd .l2)).trk.dueEntry (.pulseEnd .l2) = some ⟨1009789, .pulseEnd .l2⟩ := by decide +kernel

/-- What the delivery statement asks of a state whose row 2 is due, and of job 7. -/
def Delivers (s : State) (r : Row) (j : Job) : Prop :=
  s.trk.dueEntry (.delivery 2) = some ⟨1027725, .delivery 2⟩ ∧ s.row 2 = some r ∧ r.stage = .marked ∧ JobsOk s.jobs ∧
  s.job r.job = some j ∧ (j.state = .running ∨ j.state = .draining) ∧
  s.trk.epoch = some ⟨93133, 7, .p1, 48000, some 1000000⟩ ∧ s.audit.condition = .normal ∧ s.stop.Consistent

/-- A LOG_ONLY job that goes on; a STRICT job with the queue full, a monitor at its level with stop enable, and the reserve
condition set with just room for a row; a STRICT job that is spent; a DRAINING job's last row; and a row still OPEN, both
transmitters busy. -/
theorem witness_DeliveryRetiresTheRow :
    (let j := job 7 .running { plan with accounting := .logOnly }
     let r := row2 .marked (CauseSet.ofList [.headFault, .noRead]) true
     let s := { due 1027725 [r] (.delivery 2) with jobs := [j] }
     Delivers s r j ∧ s.gen.complete = false) ∧
    (let j := job 7 .running plan
     let r := row2 .marked (CauseSet.ofList [.headFault, .noRead]) true
     let s := { due 1027725 [r] (.delivery 2) with
       audit := { base.audit with
         queue := (List.range 256).map (fun n => ⟨7, n, 2, 1, .waiting⟩)
         voids := List.replicate 1021 (void 1) }
       pipe := { (due 1027725 [r] (.delivery 2)).pipe with reserve := true }
       monitors := base.monitors.set .m2
         { monitor1 with source := .lanesVoid, threshold := 0, level := 1, stopEnable := true, counter := 0 } }
     Delivers s r j ∧ plan.accounting = .strict ∧
     stepNotQueued s.audit.queue 7 { n := 4716, str := [], checked := true, source := .sequence } = true ∧
     (s.monitors.get .m2).alarmed ((s.monitors.get .m2).source.rowCount r) = true ∧ s.running = some j ∧
     s.audit.voids.length + s.audit.inFlight.length + 1 + plan.lanes = 1024) ∧
    (let j := job 7 .running plan
     let r := row2 .marked 0 false
     let s := { due 1027725 [r] (.delivery 2) with gen := { base.gen with complete := true, phase := .makeUp, r := 500 } }
     Delivers s r j ∧ s.gen.complete = true ∧ s.audit.waiting 7 = 0) ∧
    (let j := { job 7 .draining plan with drain := some .halted, draw := some ⟨3, 0, 0⟩ }
     let r := row2 .marked 0 false
     let s := { due 1027725 [r] (.delivery 2) with jobs := [j] }
     Delivers s r j ∧ s.running = none ∧ s.pipe.rows.filter (fun v => decide (v.k ≠ 2)) = []) ∧
    (let r := row2 .opened 0 false
     let s := { due 1027725 [r] (.delivery 2) with
       line := { base.line with sending := some (.notice 1) }
       panel := { base.panel with sending := some (.notice 1) } }
     s.trk.dueEntry (.delivery 2) = some ⟨1027725, .delivery 2⟩ ∧ s.row 2 = some r ∧ r.stage ≠ .marked ∧
     s.PortBusy .line ∧ s.PortBusy .panel ∧
     (next? (exec (.marker 2) (s.setTrk { s.trk with schedule := ⟨s.trk.h, .marker 2⟩ :: s.trk.schedule }))).isSome = true) ∧
    base.trk.dueEntry (.delivery 2) = none := by
  refine ⟨?_, ?_, ?_, ?_, ⟨by decide +kernel, by decide +kernel, by decide, .inl (by decide), .inl (by decide), rfl⟩,
    by decide +kernel⟩ <;> (unfold Delivers JobsOk StopUnit.Consistent; decide +kernel)

/-- A full queue, a queue that holds the number, and the entry of a MAKEUP lane at its second and third attempt. -/
theorem witness_MakeUpStepFollowsTheLane :
    QueueOk ((List.range 256).map (fun n => ⟨7, n, 2, 1, .waiting⟩)) ∧ QueueOk busy.audit.queue ∧
    (let n : LaneNumber := { n := 4718, str := [], checked := true, source := .makeUp 3 }
     n.source = .makeUp 3 ∧ busy.audit.queue = [⟨7, 4716, 2, 1, .waiting⟩] ++ ⟨7, 4718, 2, 1, .issued⟩ :: [] ∧
     ¬ 3 < 3 ∧ 2 < 3) := by
  unfold QueueOk
  decide +kernel

/-! ## The head link -/

/-- The driver DOWN, with four orders, and with three. -/
theorem witness_SendPositionSendsOrCounts :
    (∀ d ∈ [{ powerUpDriver with state := .down }, busy.drivers.d1, { busy.drivers.d1 with orders := busy.drivers.d1.orders.drop 1 }],
      (sending d).trk.dueEntry (.send .p3 2) = some ⟨991320, .send .p3 2⟩ ∧
      (sending d).requests.find? (fun x => decide (x.ply = .p3) && decide (x.row = 2)) = some ⟨.p3, 2, 991320, 991720⟩ ∧
      (sending d).row 2 = some (row 2)) ∧
    busy.drivers.d1.state ≠ .down ∧ 4 ≤ busy.drivers.d1.orders.length ∧ (busy.drivers.d1.orders.drop 1).length < 4 ∧
    base.trk.dueEntry (.send .p3 2) = none := by decide +kernel

/-- An order matched, its row OPEN; its row past OPEN; and no order of the tag. -/
theorem witness_DriverRepliesTakeTheirOrder :
    (awaiting .suspect).drivers.d2.OrdersOk ∧
    (⟨20, .p3, 13, 0⟩ ∈ (awaiting .suspect).drivers.d2.orders ∧ Ply.p3.number = reply13.ply ∧ reply13.row = 13 ∧
      reply13.tag = 20 ∧ (awaiting .suspect).row 13 = some (row 13) ∧ (row 13).stage = .opened) ∧
    (let s := { awaiting .suspect with pipe := { (awaiting .suspect).pipe with rows := [{ row 13 with stage := .merged }] } }
     (s.row 13).map Row.stage = some .merged) ∧
    (∀ o ∈ (awaiting .suspect).drivers.d2.orders, o.tag = 19 → o.ply.number ≠ 3 ∨ o.row ≠ 13) := by
  unfold DriverRec.OrdersOk
  decide +kernel

theorem witness_ReadyNoticeAndLinkErrors : stopped.stop.Consistent := by
  unfold StopUnit.Consistent
  decide

/-! ## Reading back -/

/-- Malformed results; re-travel; no expectation due; and the matches of Table 7-4. -/
theorem witness_ReadResultsAreSortedAndJudged :
    { base.straps with plies := .p2 }.installed .p3 = false ∧ base.straps.installed .p3 = true ∧
    (Lane.l1.number = 1 ∧ ReadChar.other ∈ [ReadChar.digit 1, ReadChar.other] ∧ 16 < (List.replicate 17 (0 : Digit)).length) ∧
    (backed 499999).trk.retravel = true ∧
    (let s := reading 995900 0 3
     s.trk.retravel = false ∧ ∀ e ∈ (s.readers.get .p3).expectations, isAhead e.pos s.trk.h = true ∨ inLanes e.awaited .l2 = false) ∧
    (let s := reading 995700 3 3
     (s.readers.get .p3).expectations = [] ++ ⟨3, 995590, 3⟩ :: [⟨4, 997449, 3⟩] ∧ isAhead 995590 s.trk.h = false ∧
     inLanes 3 .l1 = true ∧ s.row 3 = some (row 3) ∧
     (row 3).lanes[Lane.l1.index]? = some (freshLane ⟨4717, [0, 0, 0, 4, 7, 1, 7, 3], true, .sequence⟩)) := by
  decide +kernel

/-! ## The Audit Store -/

/-- An offset and a count at the visible count and one above it; and the reserve condition set, a release of one record making
just room for a row. -/
theorem witness_VoidsAreReadAndReleased : listed.Takes .line .releaseVoids ∧ ([0, 3] : List Byte).length = 2 ∧
    fieldAt 0 2 [0, 3] ≤ listed.audit.voids.length ∧ listed.audit.voids.length < fieldAt 0 2 [0, 4] ∧
    listed.pipe.reserve = false ∧ listed.stop.Consistent ∧
    (let s := { held 961000 [row 0] 1 with
       audit := { base.audit with voids := List.replicate 1021 (void 1) }
       pipe := { (held 961000 [row 0] 1).pipe with reserve := true } }
     s.Takes .line .releaseVoids ∧ s.stop.Consistent ∧ s.pipe.reserve = true ∧ s.running = some (job 7 .running plan) ∧
     1021 - 1 + s.audit.inFlight.length + (s.pipe.rows.map Row.numbered).sum + plan.lanes = 1024) :=
  ⟨takes_like, by decide, by decide, by decide, by decide, by unfold StopUnit.Consistent; decide,
    takes_like, by unfold StopUnit.Consistent; decide, by decide, by decide, by decide +kernel⟩

theorem witness_MakeUpEntriesAndRecoveryRecords :
    (inCondition .saving).Ready .panel ∧ base.Takes .line .releaseMakeUp ∧ base.Takes .panel .discardRecovery ∧
    ([0xFF, 0xFF] : List Byte).length = 2 :=
  ⟨by unfold State.Ready; decide, base_takes _ _, base_takes _ _, by decide⟩

theorem witness_AppendsCompleteInOrder : listed.audit.inFlight = void 44 :: [void 45] ∧
    listed.audit.condition ≠ .recovering ∧ listed.audit.voids.length + 1 = listed.audit.notifyLevel ∧
    base.audit.inFlight = [] ∧ State.reset.audit.condition = .recovering := by decide

/-! ## Settings -/

/-- V = 2^20, X absent and the limit 2000, in FREE and in TRACKING; and in BACKING, with H − A = 199, a limit of 198. -/
theorem witness_LineSettings :
    let body : List Byte := [1, 0x10, 0, 0, 0, 0, 0, 0, 1, 0, 0x07, 0xD0]
    base.Takes .line .setLine ∧ (press 0).Takes .line .setLine ∧ body.length = 12 ∧
    optField 0 3 body = some (2 ^ 20) ∧ optField 4 3 body = none ∧ optField 8 3 body = some 2000 ∧
    (press 0).trk.epoch ≠ none ∧
    (let s := backed 499801
     let lower : List Byte := [0, 0, 0, 0, 0, 0, 0, 0, 1, 0, 0, 198]
     s.Takes .line .setLine ∧ lower.length = 12 ∧ optField 8 3 lower = some 198 ∧ s.trk.excursion = .backing ∧
     posDiff s.trk.h s.trk.a = 199 ∧ s.pipe.rows ≠ []) :=
  ⟨base_takes _ _, takes_like, by decide, by decide, by decide, by decide, by decide,
    takes_like, by decide, by decide, by decide, by decide +kernel, by decide⟩

/-- D′ = 4,194,303 for ply 6; ply 0, ply 7, and a ply that is not installed. -/
theorem witness_PlySettingsAreTested :
    let body : List Byte := [6, 1, 0x3F, 0xFF, 0xFF] ++ List.replicate 34 0
    base.Takes .line .setPly ∧ body.length = 39 ∧ fieldAt 0 1 body = Ply.p6.number ∧
    (decodePlyFields body).d = some 4194303 ∧ fieldAt 0 1 (body.set 0 0) < 1 ∧ 6 < fieldAt 0 1 (body.set 0 7) ∧
    { base.straps with plies := .p5 }.installed .p6 = false ∧ ([6] : List Byte).length = 1 :=
  ⟨base_takes _ _, by decide⟩

/-- Driver 3, lead 4095, drop class 3; driver 4; and driver 3 with four plies installed. -/
theorem witness_DriverSettings :
    let body : List Byte := [3, 0, 0, 1, 0, 0x0F, 0xFF, 1, 0, 0, 3]
    base.Takes .line .setDriver ∧ body.length = 11 ∧ fieldAt 0 1 body = Driver.d3.number ∧
    (decodeDriverFields body).lead = some 4095 ∧ (decodeDriverFields body).dropClass = some 3 ∧
    3 < fieldAt 0 1 (body.set 0 4) ∧
    (∀ p ∈ Ply.all, p.driver = .d3 → { base.straps with plies := .p4 }.installed p = false) :=
  ⟨base_takes _ _, by decide⟩

theorem witness_ReadersAndCapture : base.Takes .line .armCapture ∧ ([6, 0, 0] : List Byte).length = 3 ∧
    fieldAt 0 1 [6, 0, 0] = Ply.p6.number ∧ 6 < fieldAt 0 1 [7, 0, 0] ∧ fieldAt 0 1 [0, 0, 0] = 0 ∧
    ([15] : List Byte).length = 1 ∧ fieldAt 0 1 [1, 6, 15] = 1 ∧ fieldAt 1 1 [1, 6, 15] = Ply.p6.number ∧
    fieldAt 2 1 [1, 6, 15] ≤ 15 ∧ 15 < fieldAt 2 1 [1, 6, 16] ∧ 1 < fieldAt 0 1 [2, 6, 15] :=
  ⟨base_takes _ _, by decide⟩

/-! ## Stop, monitors, tallies, notices -/

theorem witness_StopRequests : stopped.Takes .line .setStopMask ∧ stopped.Takes .panel .clearStop ∧
    stopped.stop.Consistent ∧ ([1, 0xFF, 0xFF] : List Byte).length = 3 ∧ fieldAt 0 3 [1, 0xFF, 0xFF] < 2 ^ 17 ∧
    2 ^ 17 ≤ fieldAt 0 3 [2, 0, 0] :=
  ⟨takes_like, takes_like, by unfold StopUnit.Consistent; decide, by decide⟩

/-- Monitor 4 with VOID_CAUSE(POWER), threshold 15 and level 65,535; one with a cause that is none. -/
theorem witness_MonitorAndTallyRequests :
    let body : List Byte := [4, 2, 14, 0, 0, 15, 1, 1, 1, 0, 0xFF, 0xFF, 1]
    base.Takes .line .setMonitor ∧ base.Takes .panel .clearShift ∧ bodyLengthOk .setMonitor body = true ∧
    fieldAt 0 1 body = Mon.m4.index + 1 ∧ decodeMonitorSource 2 (fieldAt 2 1 body) = some (.voidCause .power) ∧
    decodeMonitorSource 2 15 = none ∧ 4 < fieldAt 0 1 (body.set 0 5) ∧ ([1, 0, 7] : List Byte).length = 3 :=
  ⟨base_takes _ _, base_takes _ _, by decide⟩

theorem witness_MonitorsAccumulateAndAlarm : monitor1.source ≠ .none ∧ Monitor.Below { monitor1 with counter := 2 } :=
  ⟨by decide, by unfold Monitor.Below; decide⟩

theorem witness_NotifyAcknowledgeAndSummary :
    base.Takes .line .setNotify ∧ base.Takes .panel .acknowledgeAttention ∧
    (let body : List Byte := [1, 0, 4, 0, 1, 0, 0x01, 0xFF]
     body.length = 8 ∧ optField 0 3 body = some 1024 ∧ optField 4 3 body = some 511) ∧
    ([3, 0xFF] : List Byte).length = 2 ∧ fieldAt 0 2 [3, 0xFF] < 2 ^ 10 ∧ 2 ^ 10 ≤ fieldAt 0 2 [4, 0] :=
  ⟨base_takes _ _, base_takes _ _, by decide⟩

/-! ## Warm reset and power -/

/-- A Start held alone at the line port in a condition, both transmitters sending. -/
def waited (c : Condition) : State := { inCondition c with
  line := { base.line with
    held := [⟨0x02, 1, [0, 7]⟩]
    replies := List.replicate 3 ⟨0x42, 0, .plain⟩
    sending := some .reply }
  panel := { base.panel with sending := some (.notice 1) } }

theorem waited_holds (c : Condition) : (waited c).HoldsAlone .line ⟨0x02, 1, [0, 7]⟩ := by
  refine ⟨rfl, rfl, by cases c <;> decide, rfl, by decide, by decide, ?_, ?_⟩ <;> intro p <;> cases p <;>
    first | (intro h; exact absurd rfl h) | (intro _; rfl) | (intro h; cases h)

theorem witness_WarmResetBeginsAndEnds :
    (let s := { busy with jobs := [job 7 .running plan, job 8 .loaded plan, job 9 .draining plan] }
     s.audit.condition = .normal ∧ JobsOk s.jobs ∧ (s.job 7).map Job.state = some .running ∧
     (s.job 8).map Job.state = some .loaded) ∧
    (inCondition .saved).audit.condition = .saved ∧ (inCondition .saving).audit.condition = .saving ∧
    State.reset.audit.condition = .recovering ∧
    (base.Ready .line ∧ base.permits .line .reset = true ∧ base.audit.condition ≠ .resetting) ∧
    (let s := inCondition .resetting
     s.audit.condition = .resetting ∧ s.audit.inFlight = [] ∧ s.resetLeft = 0 ∧ s.line.held = [] ∧ s.panel.held = [] ∧
     s.portAbsent .panel = false) ∧
    ((press 961000).beginReset.audit.inFlight = [] ∧ (press 961000).beginReset.resetLeft = 2) ∧
    (let s := { press 961000 with jobs := [job 9 .draining plan] }
     s.audit.condition = .normal ∧ JobsOk s.jobs ∧ s.running = none ∧ s.trk.epoch ≠ none) ∧
    ¬(listed.audit.condition = .resetting ∧ listed.audit.inFlight = []) ∧
    (let s := { inCondition .resetting with
       line := { base.line with
         held := [⟨0x02, 1, [0, 7]⟩, ⟨0x42, 2, []⟩]
         replies := List.replicate 2 ⟨0x42, 0, .plain⟩
         sending := some .reply }
       panel := { base.panel with held := [⟨0x03, 9, [0, 7]⟩] } }
     s.audit.condition = .resetting ∧ s.audit.inFlight = [] ∧
     ∀ p ∈ [Port.line, .panel], (s.port p).held.length ≤ 2 ∧ (s.port p).replies.length + (s.port p).held.length ≤ 4 ∧
       ∀ q ∈ (s.port p).held, q.kind ≠ 0x4F) ∧
    (waited .resetting).HoldsAlone .line ⟨0x02, 1, [0, 7]⟩ ∧ (waited .resetting).audit.condition = .resetting ∧
    (waited .resetting).audit.inFlight = [] ∧
    (next? (exec .resetComplete ((waited .resetting).setPort .line { (waited .resetting).port .line with held := [] }))).isSome =
      true := by
  refine ⟨?_, by decide +kernel, by decide +kernel, by decide +kernel, ?_, by decide +kernel, by decide +kernel, ?_,
    by decide +kernel, by decide +kernel, waited_holds _, by decide +kernel, by decide +kernel, by decide +kernel⟩
  · unfold JobsOk; decide +kernel
  · unfold State.Ready; decide +kernel
  · unfold JobsOk; decide +kernel

theorem witness_PowerFailSaveBeginsAndEnds :
    (let s := held 1010000 [row2 .marked (CauseSet.ofList [.noRead]) true] 3
     s.audit.condition = .normal ∧ s.line.held = [] ∧ s.panel.held = [] ∧ s.lanesHeld ≠ [] ∧ s.stop.latched = 0 ∧
     s.stop.held = 0 ∧ s.stop.output = false) ∧
    (inCondition .resetting).audit.condition = .resetting ∧ State.reset.audit.condition = .recovering ∧
    (let s := inCondition .saving
     s.audit.condition = .saving ∧ s.pipe.rows = [] ∧ s.audit.inFlight = [] ∧ s.audit.resetDue = false) ∧
    (let s := { inCondition .saving with audit := { (inCondition .saving).audit with resetDue := true } }
     s.audit.condition = .saving ∧ s.pipe.rows = [] ∧ s.audit.inFlight = [] ∧ s.audit.resetDue = true) ∧
    ¬(base.audit.condition = .saving ∧ base.pipe.rows = [] ∧ base.audit.inFlight = []) ∧
    (waited .resetting).HoldsAlone .line ⟨0x02, 1, [0, 7]⟩ ∧ (waited .resetting).audit.condition = .resetting ∧
    (∀ p ∈ [Port.line, .panel], ((waited .resetting).port p).held.length ≤ 2 ∧
      ((waited .resetting).port p).replies.length + ((waited .resetting).port p).held.length ≤ 4) ∧
    (requestKind 0x02 = some .startJob ∧ bodyLengthOk .startJob [0, 7] = true ∧
      (waited .resetting).permits .line .startJob = true ∧ RequestKind.readOnly .startJob = false ∧
      RequestKind.startJob ≠ .reset) := by
  refine ⟨by decide +kernel, by decide +kernel, by decide +kernel, by decide +kernel, by decide +kernel, by decide +kernel,
    waited_holds _, by decide +kernel, by decide +kernel, by decide +kernel⟩

/-! ## Invariants: a state at their bounds, and a step from it -/

/-- `busy` with a forward count in front meets every invariant, most of them at the bound. -/
theorem witness_invariants :
    (busy.reserved = 1024 ∧ busy.drivers.d1.orders.length = 4 ∧ busy.jobs.length = 4 ∧ busy.zones.p2.length = 4 ∧
      busy.audit.records.length = 4 ∧ FreeIsEmpty base ∧ JobsOk busy.jobs ∧ QueueOk busy.audit.queue ∧
      busy.stop.Consistent ∧ busy.line.Bounded ∧ busy.panel.Bounded ∧ (busy.monitors.get .m1).Below) ∧
    (∀ d, (busy.drivers.get d).OrdersOk) ∧ ZonesBounded busy.zones ∧ TrendsBounded busy.marks busy.plies ∧
    MonitorsBelow busy.monitors ∧ (∀ p, (busy.port p).Bounded) ∧ FreeIsEmpty busy := by
  refine ⟨?_, ?_, ?_, ?_, ?_, ?_, ?_⟩
  · unfold FreeIsEmpty JobsOk QueueOk StopUnit.Consistent PortState.Bounded Monitor.Below
    decide +kernel
  · intro d; unfold DriverRec.OrdersOk; cases d <;> decide +kernel
  · intro p; cases p <;> decide +kernel
  · intro p; cases p <;> decide +kernel
  · intro i; unfold Monitor.Below; cases i <;> decide +kernel
  · intro p; unfold PortState.Bounded; cases p <;> decide +kernel
  · intro h; exact absurd h (by decide +kernel)

/-- A step from it answers a next state, in which A and H have moved. -/
theorem witness_invariants_step : (next? (step (busy.setPending [.forwardCount]))).map (fun t => (t.trk.a, t.trk.h)) =
    some (961001, 961001) := by decide +kernel

end Sys2Proof.Tests
end

namespace Sys2Proof.Machine

/-! ## What holds of every step -/

theorem Move.keeps_freeIsEmpty {io : Bool} {s t : State} (h : Move io s t) (hs : FreeIsEmpty s) : FreeIsEmpty t := by
  cases h with
  | trk x _ _ hf => exact fun he => (hf he).elim hs id
  | pipe x hf =>
    intro he
    by_contra hx
    exact (hf hx).elim (fun h => h (hs he)) (fun h => h he)
  | port p x _ _ => cases p <;> exact hs
  | _ => exact hs

theorem Course.keeps_freeIsEmpty {s t : State} (h : Course s t) : FreeIsEmpty s → FreeIsEmpty t :=
  h.induct (P := fun a b => FreeIsEmpty a → FreeIsEmpty b) (fun _ => id) (fun _ _ _ h k hs => k (h hs))
    (fun _ _ => Move.keeps_freeIsEmpty)

/-- An encoder count's move of the Tracker touches neither the epoch nor the rows. -/
theorem exec_keeps_freeIsEmpty {i : Instr} {s t : State} (h : exec i s = .next t) (hs : FreeIsEmpty s) :
    FreeIsEmpty t := by
  by_cases hi : Outside i
  · cases i with
    | powerUp st => exact ((Course.refl (s.powerUp st)).finished h).keeps_freeIsEmpty (fun _ => rfl)
    | forwardCount =>
      have hu : FreeIsEmpty (s.caughtUp (fun _ => true)) := (s.caughtUp_turn _).course.keeps_freeIsEmpty hs
      exact (exec_forward s t h).keeps_freeIsEmpty hu
    | reverseCount =>
      have hu : FreeIsEmpty (s.caughtUp s.takenBeforeReverse) := (s.caughtUp_turn _).course.keeps_freeIsEmpty hs
      exact (exec_reverse s t h).keeps_freeIsEmpty hu
    | _ => exact hi.elim
  · exact (exec_course i s t hi h).keeps_freeIsEmpty hs

/-- A property that every command keeps, and that does not depend on the queue, is kept by every step. -/
theorem keptByStep_of_exec {inv : State → Prop} (hq : ∀ s rest, inv s → inv (s.setPending rest))
    (he : ∀ i s t, exec i s = .next t → inv s → inv t) : KeptByStep inv := by
  intro s t hs h
  unfold step at h
  split at h
  · cases h; exact hs
  · exact he _ _ _ h (hq _ _ hs)

/-- Settles O39. -/
theorem freeHoldsNoRow : Obligations.FreeHoldsNoRow :=
  keptByStep_of_exec (fun _ _ hs => hs) (fun _ _ _ => exec_keeps_freeIsEmpty)

/-- Settles O8: a course keeps A and H; a reverse count moves A alone. -/
theorem onlyEncoderCountsMoveTheWeb : Obligations.OnlyEncoderCountsMoveTheWeb := by
  intro i s t h hp
  by_cases hi : Outside i
  · cases i with
    | powerUp st => exact absurd rfl (hp st)
    | forwardCount => exact ⟨fun hf => absurd rfl hf, fun hf => absurd rfl hf⟩
    | reverseCount =>
      refine ⟨fun _ => ?_, fun _ hr => absurd rfl hr⟩
      calc t.trk.h = (s.caughtUp s.takenBeforeReverse).trk.h := (exec_reverse s t h).fixed.2.2.2
        _ = s.trk.h := (s.caughtUp_turn _).course.fixed.2.2.2
    | _ => exact hi.elim
  · obtain ⟨_, _, ha, hh⟩ := (exec_course i s t hi h).fixed
    exact ⟨fun _ => hh, fun _ _ => ha⟩

/-- Settles O3: each power-up value is the definition's own, and the families hold one value for every member. -/
theorem resetHoldsThePowerUpValues : Obligations.ResetHoldsThePowerUpValues := by
  refine ⟨rfl, ?_, ?_, ?_, rfl, rfl, rfl, rfl, rfl, rfl, rfl, rfl, rfl, rfl, rfl, rfl, ?_, ?_, rfl, rfl, rfl, rfl, rfl,
    rfl, rfl, rfl, rfl, ?_, rfl, rfl, rfl, ?_, ?_⟩
  · exact PerPly.get_all powerUpPly
  · exact fun p => ⟨PerPly.get_all powerUpMark p, rfl⟩
  · exact fun p => ⟨PerPly.get_all [] p, PerPly.get_all powerUpReader p⟩
  · exact PerLane.get_all false
  · exact PerDriver.get_all powerUpDriver
  · exact PerMon.get_all powerUpMonitor
  · rintro (p | d | _ | _ | _ | m | _)
    · cases p <;> rfl
    · cases d <;> rfl
    · rfl
    · rfl
    · rfl
    · cases m <;> rfl
    · rfl
  · intro p; cases p <;> rfl

/-- Rt(k) as an offset from the rounded part: the whole 50ths of the repeat are common to both origins. -/
theorem rowDistance_eq (repeatUm : Nat) (k : Int) :
    rowDistance repeatUm k = ((repeatUm / 50 : Nat) : Int) +
      ((k * repeatUm + 25) % 50 + ((repeatUm % 50 : Nat) : Int)) / 50 := by
  unfold rowDistance rowOffset
  have : (k + 1) * (repeatUm : Int) = k * repeatUm + repeatUm := by ring
  rw [this]
  generalize k * (repeatUm : Int) = z
  omega

/-- Settles O9. -/
theorem rowDistancesFollowTheFormRepeat : Obligations.RowDistancesFollowTheFormRepeat := by
  intro repeatUm k
  have hd := rowDistance_eq repeatUm k
  refine ⟨?_, fun h => ?_, ?_, ?_, ?_, rfl⟩
  · omega
  · rw [h] at hd; omega
  · simp [rowOffset]
  · unfold rowOffset; omega
  · unfold rowOffset; omega

end Sys2Proof.Machine

namespace Sys2Proof

theorem Ply.mem_all (p : Ply) : p ∈ Ply.all := by cases p <;> decide

end Sys2Proof

namespace Sys2Proof.Machine

/-! ## The plies of a mask and the reference ply (R9) -/

@[simp] theorem mem_maskPlies {m : PlyMask} {p : Ply} : p ∈ maskPlies m ↔ inMask m p = true := by
  simp [maskPlies, Ply.mem_all]

theorem maskPlies_sorted (m : PlyMask) : (maskPlies m).Pairwise (fun p q => p.number < q.number) :=
  List.Pairwise.sublist List.filter_sublist (by decide)

theorem maskPlies_ne_nil {m : PlyMask} (h : m ≠ 0) : maskPlies m ≠ [] := by
  intro hm
  have hall : ∀ p, inMask m p = false := fun p => by
    simpa [hm] using (mem_maskPlies (m := m) (p := p)).symm
  refine h (BitVec.eq_of_getLsbD_eq fun i hi => ?_)
  obtain ⟨p, rfl⟩ : ∃ p : Ply, p.index = i := by
    interval_cases i
    exacts [⟨.p1, rfl⟩, ⟨.p2, rfl⟩, ⟨.p3, rfl⟩, ⟨.p4, rfl⟩, ⟨.p5, rfl⟩, ⟨.p6, rfl⟩]
  exact (hall p).trans BitVec.getLsbD_zero.symm

/-- One step of the search for the reference ply: the later ply is taken where its D′ is larger. -/
def betterPly (plies : PerPly PlySettings) (best : Option Ply) (p : Ply) : Option Ply :=
  match best with
  | none => some p
  | some b => if (plies.get b).d < (plies.get p).d then some p else some b

theorem referencePly_eq (plies : PerPly PlySettings) (m : PlyMask) :
    referencePly plies m = (maskPlies m).foldl (betterPly plies) none := rfl

/-- Ply `r` is the one of largest D′ among `l`, the lowest number among equals (R9). -/
def IsReference (plies : PerPly PlySettings) (l : List Ply) (r : Ply) : Prop :=
  r ∈ l ∧ ∀ p ∈ l, (plies.get p).d ≤ (plies.get r).d ∧ (p.number < r.number → (plies.get p).d < (plies.get r).d)

/-- The search over plies in increasing number finds the reference ply. -/
theorem foldl_betterPly (plies : PerPly PlySettings) (l : List Ply) (b : Ply)
    (hl : (b :: l).Pairwise (fun p q => p.number < q.number)) :
    ∃ r, l.foldl (betterPly plies) (some b) = some r ∧ IsReference plies (b :: l) r := by
  induction l generalizing b with
  | nil => exact ⟨b, rfl, by simp, by simp⟩
  | cons a l ih =>
    obtain ⟨hb, ha, hl'⟩ : (b.number < a.number ∧ ∀ q ∈ l, b.number < q.number) ∧ (∀ q ∈ l, a.number < q.number) ∧
        l.Pairwise (fun p q => p.number < q.number) := by simpa using hl
    by_cases hab : (plies.get b).d < (plies.get a).d
    · obtain ⟨r, hr, hmem, hmax⟩ := ih a (List.pairwise_cons.2 ⟨ha, hl'⟩)
      have har := (hmax a (by simp)).1
      refine ⟨r, by simpa [betterPly, hab] using hr, List.mem_cons_of_mem _ hmem, fun p hp => ?_⟩
      rcases List.mem_cons.1 hp with rfl | hp
      · exact ⟨by omega, fun _ => by omega⟩
      · exact hmax p hp
    · obtain ⟨r, hr, hmem, hmax⟩ := ih b (List.pairwise_cons.2 ⟨hb.2, hl'⟩)
      have hbr := hmax b (by simp)
      refine ⟨r, by simpa [betterPly, hab] using hr, ?_, fun p hp => ?_⟩
      · rcases List.mem_cons.1 hmem with rfl | hmem
        · exact List.mem_cons_self
        · exact List.mem_cons_of_mem _ (List.mem_cons_of_mem _ hmem)
      · rcases List.mem_cons.1 hp with rfl | hp
        · exact hmax p List.mem_cons_self
        · rcases List.mem_cons.1 hp with rfl | hp
          · refine ⟨by omega, fun hlt => ?_⟩
            rcases List.mem_cons.1 hmem with rfl | hmem
            · omega
            · have := hbr.2 (hb.2 r hmem)
              omega
          · exact hmax p (List.mem_cons_of_mem _ hp)

theorem referencePly_isReference (plies : PerPly PlySettings) {m : PlyMask} (h : m ≠ 0) :
    ∃ r, referencePly plies m = some r ∧ IsReference plies (maskPlies m) r := by
  rw [referencePly_eq]
  cases hm : maskPlies m with
  | nil => exact absurd hm (maskPlies_ne_nil h)
  | cons b l => exact foldl_betterPly plies l b (hm ▸ maskPlies_sorted m)

/-- Settles O17. -/
theorem geometryCheckTests : Obligations.GeometryCheckTests := by
  intro plies v x plan hm
  obtain ⟨ref, href, hmem, hmax⟩ := referencePly_isReference plies hm
  refine ⟨ref, href, mem_maskPlies.1 hmem, fun p hp => hmax p (mem_maskPlies.2 hp), ?_⟩
  simp only [geometryOk, href, Bool.and_eq_true, List.all_eq_true, decide_eq_true_eq, mem_maskPlies]
  constructor
  · rintro ⟨⟨⟨⟨hp, hv⟩, hvx⟩, hx⟩, hc⟩
    exact ⟨fun p h => (hp p h).1.1, fun p h => (hp p h).1.2, fun p h => (hp p h).2, ⟨hv, hvx, hx⟩, hc⟩
  · rintro ⟨hq, hl, hd, ⟨hv, hvx, hx⟩, hc⟩
    exact ⟨⟨⟨⟨fun p h => ⟨⟨hq p h, hl p h⟩, hd p h⟩, hv⟩, hvx⟩, hx⟩, hc⟩

end Sys2Proof.Machine

namespace Sys2Proof.Machine

/-! ## A request at a ready port, from its arrival to its reply -/

@[simp] theorem requestKind_code (k : RequestKind) : requestKind k.code = some k := by cases k <;> rfl

@[simp] theorem isReplyKind_code (k : RequestKind) : isReplyKind k.code = false := by cases k <;> rfl

@[simp] theorem State.setPort_setPort (s : State) (p : Port) (x y : PortState) :
    (s.setPort p x).setPort p y = s.setPort p y := by cases p <;> rfl

@[simp] theorem State.setPort_port (s : State) (p : Port) : s.setPort p (s.port p) = s := by cases p <;> rfl

/-- The state in which a ready port holds a request that has just arrived. -/
def State.holding (s : State) (port : Port) (r : Request) : State :=
  s.setPort port { s.port port with receiver := .hunting, held := [r] }

@[simp] theorem State.port_holding (s : State) (p q : Port) (r : Request) :
    (s.holding p r).port q = if q = p then { s.port p with receiver := .hunting, held := [r] } else s.port q :=
  s.port_setPort p q _

@[simp] theorem State.trk_holding (s : State) (p : Port) (r : Request) : (s.holding p r).trk = s.trk := by
  cases p <;> rfl

@[simp] theorem State.pipe_holding (s : State) (p : Port) (r : Request) : (s.holding p r).pipe = s.pipe := by
  cases p <;> rfl

@[simp] theorem State.stop_holding (s : State) (p : Port) (r : Request) : (s.holding p r).stop = s.stop := by
  cases p <;> rfl

@[simp] theorem State.straps_holding (s : State) (p : Port) (r : Request) : (s.holding p r).straps = s.straps := by
  cases p <;> rfl

@[simp] theorem State.audit_holding (s : State) (p : Port) (r : Request) : (s.holding p r).audit = s.audit := by
  cases p <;> rfl

@[simp] theorem State.plies_holding (s : State) (p : Port) (r : Request) : (s.holding p r).plies = s.plies := by
  cases p <;> rfl

@[simp] theorem State.drivers_holding (s : State) (p : Port) (r : Request) : (s.holding p r).drivers = s.drivers := by
  cases p <;> rfl

@[simp] theorem State.readers_holding (s : State) (p : Port) (r : Request) : (s.holding p r).readers = s.readers := by
  cases p <;> rfl

@[simp] theorem State.permits_holding (s : State) (p : Port) (r : Request) :
    (s.holding p r).permits = s.permits := by cases p <;> rfl

theorem State.setTrk_holding (s : State) (p : Port) (r : Request) (x : Tracker) :
    (s.holding p r).setTrk x = (s.setTrk x).holding p r := by cases p <;> rfl

theorem State.setPipe_holding (s : State) (p : Port) (r : Request) (x : Pipeline) :
    (s.holding p r).setPipe x = (s.setPipe x).holding p r := by cases p <;> rfl

theorem State.setStop_holding (s : State) (p : Port) (r : Request) (x : StopUnit) :
    (s.holding p r).setStop x = (s.setStop x).holding p r := by cases p <;> rfl

theorem PortState.raised_holding (x : PortState) (r : Request) (c : Attention) :
    ({ x with receiver := .hunting, held := [r] } : PortState).raised c =
      { x.raised c with receiver := .hunting, held := [r] } := by
  unfold PortState.raised
  split <;> rfl

theorem State.raiseAt_holding (s : State) (p q : Port) (r : Request) (c : Attention) :
    (s.holding p r).raiseAt q c = (s.raiseAt q c).holding p r := by
  have habs : (s.holding p r).portAbsent q = s.portAbsent q := by cases p <;> rfl
  unfold State.raiseAt
  rw [habs]
  split
  · rfl
  · cases p <;> cases q <;>
      simp [State.holding, State.setPort, State.port, State.setLine, State.setPanel, PortState.raised_holding]

theorem State.raiseBoth_holding (s : State) (p : Port) (r : Request) (c : Attention) :
    (s.holding p r).raiseBoth c = (s.raiseBoth c).holding p r := by
  simp [State.raiseBoth, State.raiseAt_holding]

theorem State.changeStop_holding (s : State) (p : Port) (r : Request) (f : StopUnit → StopUnit) :
    (s.holding p r).changeStop f = (s.changeStop f).holding p r := by
  unfold State.changeStop
  rw [State.stop_holding, State.setStop_holding, State.raiseBoth_holding]
  split <;> rfl

theorem State.testExcursion_holding (s : State) (p : Port) (r : Request) :
    (s.holding p r).testExcursion = s.testExcursion.holding p r := by
  unfold State.testExcursion
  simp only [State.trk_holding, State.pipe_holding]
  split
  · simp only [State.setRows, State.latchEvent, State.setTrk_holding, State.setPipe_holding, State.pipe_holding,
      State.changeStop_holding]
  · rfl

/-- The head request of a port that holds it alone, once its own rule has served it. -/
theorem State.serveHead_holding {s t : State} {port : Port} {k : RequestKind} {tag : Byte} {body : List Byte} {x : Reply}
    (hcap : (s.port port).replies.length < 4) (hlen : bodyLengthOk k body = true) (hperm : s.permits port k = true)
    (htr : treatment s.audit.condition s.straps.hold k = .served)
    (hserve : serve k port body (s.holding port ⟨k.code, tag, body⟩) = (x, t.holding port ⟨k.code, tag, body⟩)) :
    (s.holding port ⟨k.code, tag, body⟩).serveHead port =
      some (t.setPort port { t.port port with
        receiver := .hunting
        held := []
        replies := (t.port port).replies ++ [⟨k.code, tag, x⟩] }) := by
  have hans : (s.holding port ⟨k.code, tag, body⟩).answer port ⟨k.code, tag, body⟩ =
      some (x, t.holding port ⟨k.code, tag, body⟩) := by
    simp [State.answer, hlen, hperm, htr, hserve]
  unfold State.serveHead
  rw [if_neg (by simpa [replyCapacity] using hcap)]
  simp only [State.port_holding, if_true, hans]
  simp [State.holding, PortState.addReply, replyFrame]

/-- A request that a ready port takes and whose kind is served: its rule runs with the request held, and the reply is formed
in the same event (R173, R174). -/
theorem request_served {s t : State} {port : Port} {k : RequestKind} {tag : Byte} {body : List Byte} {x : Reply}
    (hready : s.Ready port) (hlen : bodyLengthOk k body = true) (hbody : body.length ≤ 240)
    (hperm : s.permits port k = true) (htr : treatment s.audit.condition s.straps.hold k = .served)
    (hserve : serve k port body (s.holding port ⟨k.code, tag, body⟩) = (x, t.holding port ⟨k.code, tag, body⟩))
    (hheld : (t.port port).held = []) :
    request port k.code tag body s = .next (t.answered port k.code tag x) := by
  obtain ⟨hlisten, hnone, hcap⟩ := hready
  have hreceive : s.receive port ⟨k.code, tag, body⟩ = (s.holding port ⟨k.code, tag, body⟩).pump port := by
    simp [State.receive, hlisten, Nat.not_lt.2 hbody, State.arrive, State.setReceiver, hnone, heldCapacity, State.holding]
  have hfirst := State.serveHead_holding (tag := tag) hcap hlen hperm htr hserve
  have hthen : ∀ y : State, (y.port port).held = [] → y.serveHead port = none := by
    intro y hy
    simp [State.serveHead, hy]
  unfold request finish
  rw [hreceive]
  simp only [State.pump, heldCapacity, servePort, hfirst]
  rw [hthen _ (by simp)]
  simp only [State.answered, ← hheld]

/-- A served request that changes nothing: the reply alone is formed. -/
theorem request_replied {s : State} {port : Port} {k : RequestKind} {tag : Byte} {body : List Byte} {x : Reply}
    (hready : s.Ready port) (hlen : bodyLengthOk k body = true) (hbody : body.length ≤ 240)
    (hperm : s.permits port k = true) (htr : treatment s.audit.condition s.straps.hold k = .served)
    (hserve : serve k port body (s.holding port ⟨k.code, tag, body⟩) = (x, s.holding port ⟨k.code, tag, body⟩)) :
    request port k.code tag body s = .next (s.answered port k.code tag x) :=
  request_served hready hlen hbody hperm htr hserve hready.2.1

/-- A ready port that is not idle is permitted every read-only request (R175). -/
theorem State.Ready.permits_readOnly {s : State} {port : Port} {k : RequestKind} (h : s.Ready port)
    (hk : k.readOnly = true) : s.permits port k = true := by
  obtain ⟨hlisten, -, -⟩ := h
  cases port with
  | line => rfl
  | panel =>
    cases hp : s.straps.panel <;> simp_all [State.permits, State.listens, State.portAbsent, RequestKind.viewMay]

/-- A read-only request is served in every condition in which the port takes bytes (Table 11-1). -/
theorem State.Ready.treatment_readOnly {s : State} {port : Port} {k : RequestKind} (h : s.Ready port)
    (hk : k.readOnly = true) : treatment s.audit.condition s.straps.hold k = .served := by
  obtain ⟨hlisten, -, -⟩ := h
  cases hc : s.audit.condition <;> simp_all [treatment, State.listens]

/-- A read-only request at a ready port, its rule giving a reply and no change. -/
theorem request_read {s : State} {port : Port} {k : RequestKind} {tag : Byte} {body : List Byte} {x : Reply}
    (hready : s.Ready port) (hk : k.readOnly = true) (hlen : bodyLengthOk k body = true) (hbody : body.length ≤ 240)
    (hserve : serve k port body (s.holding port ⟨k.code, tag, body⟩) = (x, s.holding port ⟨k.code, tag, body⟩)) :
    request port k.code tag body s = .next (s.answered port k.code tag x) :=
  request_replied hready hlen hbody (hready.permits_readOnly hk) (hready.treatment_readOnly hk) hserve

/-- A request at a port that takes it, served by its rule. -/
theorem request_taken {s t : State} {port : Port} {k : RequestKind} {tag : Byte} {body : List Byte} {x : Reply}
    (htakes : s.Takes port k) (hlen : bodyLengthOk k body = true) (hbody : body.length ≤ 240)
    (hserve : serve k port body (s.holding port ⟨k.code, tag, body⟩) = (x, t.holding port ⟨k.code, tag, body⟩))
    (hheld : (t.port port).held = []) :
    request port k.code tag body s = .next (t.answered port k.code tag x) := by
  obtain ⟨hready, hperm, hcond⟩ := htakes
  exact request_served hready hlen hbody hperm (by simp [treatment, hcond]) hserve hheld

end Sys2Proof.Machine

namespace Sys2Proof

theorem Ply.ofNumber_number (p : Ply) : Ply.ofNumber p.number = some p := by cases p <;> rfl

theorem Ply.number_bounds (p : Ply) : 1 ≤ p.number ∧ p.number ≤ 6 := by cases p <;> decide

theorem Ply.ofNumber_outside {n : Nat} (h : n = 0 ∨ 6 < n) : Ply.ofNumber n = none := by
  refine List.find?_eq_none.2 fun p _ hp => ?_
  have := p.number_bounds
  simp only [decide_eq_true_eq] at hp
  omega

end Sys2Proof

namespace Sys2Proof.Machine

/-! ## Read Reader, Read Capture and Arm Capture -/

theorem serveReadReader_ply {port : Port} {body : List Byte} {p : Ply} (h : fieldAt 0 1 body = p.number) (s : State) :
    serveReadReader port body s =
      (if (s.readers.get p).expectations.length < fieldAt 1 2 body then .refusal .range
       else .okay (.reader
         { q := (s.plies.get p).q
           reader := (s.plies.get p).reader
           orientation := (s.drivers.get p.driver).orientation
           count := (s.readers.get p).expectations.length
           expectations := ((s.readers.get p).expectations.drop (fieldAt 1 2 body)).take 8
           counts := (s.readers.get p).counts }), s) := by
  simp only [serveReadReader, h, Ply.ofNumber_number]
  split <;> rfl

theorem serveReadReader_outside {port : Port} {body : List Byte} (h : fieldAt 0 1 body = 0 ∨ 6 < fieldAt 0 1 body)
    (s : State) : serveReadReader port body s = (.refusal .range, s) := by
  simp only [serveReadReader, Ply.ofNumber_outside h]
  rfl

theorem serveReadCapture_eq (port : Port) (body : List Byte) (s : State) :
    serveReadCapture port body s =
      (if 15 < fieldAt 0 1 body then .refusal .range
       else .okay (.capture s.trk.capture.ply s.trk.capture.enabled s.trk.capture.index
         ((s.trk.capture.slots.drop (fieldAt 0 1 body)).take 8)), s) := by
  unfold serveReadCapture
  split <;> rfl

/-- What Arm Capture answers, and the capture it leaves (R16; field places: log entry 10). -/
def armed (body : List Byte) (st : Straps) (c : Capture) : Reply × Capture :=
  if 1 < fieldAt 0 1 body then (.refusal .range, c)
  else if fieldAt 0 1 body = 0 then (.plain, { c with enabled := false, ply := none })
  else
    match Ply.ofNumber (fieldAt 1 1 body) with
    | none => (.refusal .range, c)
    | some p =>
      if 15 < fieldAt 2 1 body then (.refusal .range, c)
      else if st.installed p = false then (.refusal .plies, c)
      else (.plain, { c with ply := some p, index := fieldAt 2 1 body, enabled := true })

theorem serveArmCapture_eq (port : Port) (body : List Byte) (s : State) :
    serveArmCapture port body s =
      ((armed body s.straps s.trk.capture).1, s.setTrk { s.trk with capture := (armed body s.straps s.trk.capture).2 }) := by
  unfold serveArmCapture armed isFlag optField
  by_cases hflag : 1 < fieldAt 0 1 body
  · simp [hflag, refuse, Reply.refusal, State.setTrk]
  · by_cases hnone : fieldAt 0 1 body = 0
    · simp [hnone, okReply, Reply.plain]
    · simp only [hflag, hnone, Nat.not_lt.1 hflag, if_false, decide_true, Bool.true_eq_false, zero_add]
      cases Ply.ofNumber (fieldAt 1 1 body) with
      | none => rfl
      | some p =>
        dsimp only
        split_ifs <;> rfl

theorem exec_armCapture {s : State} {port : Port} {body : List Byte} {x : Reply} {c : Capture} (tag : Byte)
    (hlen : body.length = 3) (htakes : s.Takes port .armCapture) (harm : armed body s.straps s.trk.capture = (x, c)) :
    exec (.armCapture port tag body) s = .next ((s.setTrk { s.trk with capture := c }).answered port 0x27 tag x) := by
  refine request_taken htakes (by simp [bodyLengthOk, hlen]) (by omega) ?_ ?_
  · rw [serve, serveArmCapture_eq, State.straps_holding, State.trk_holding, State.setTrk_holding, harm]
  · have hheld := htakes.1.2.1
    cases port <;> exact hheld

theorem armed_outside {body : List Byte} (hpresent : fieldAt 0 1 body = 1) (st : Straps) (c : Capture)
    (hbad : fieldAt 1 1 body = 0 ∨ 6 < fieldAt 1 1 body ∨ 15 < fieldAt 2 1 body) :
    armed body st c = (.refusal .range, c) := by
  unfold armed
  rw [hpresent]
  rcases hbad with h0 | h6 | h15
  · simp [Ply.ofNumber_outside (.inl h0)]
  · simp [Ply.ofNumber_outside (.inr h6)]
  · cases Ply.ofNumber (fieldAt 1 1 body) <;> simp [h15]

theorem armed_ply {body : List Byte} {p : Ply} (hpresent : fieldAt 0 1 body = 1) (hp : fieldAt 1 1 body = p.number)
    (hslot : fieldAt 2 1 body ≤ 15) (st : Straps) (c : Capture) :
    armed body st c =
      if st.installed p = false then (.refusal .plies, c)
      else (.plain, { c with ply := some p, index := fieldAt 2 1 body, enabled := true }) := by
  unfold armed
  rw [hpresent, hp, Ply.ofNumber_number]
  simp [Nat.not_lt.2 hslot]

/-- Settles O51. -/
theorem readersAndCapture : Obligations.ReadersAndCapture := by
  intro s port tag body hready
  refine ⟨fun hlen p hp => ?_, fun hlen hout => ?_, fun hlen => ?_, fun hlen htakes => ?_⟩
  · refine request_read hready rfl (by simp [bodyLengthOk, hlen]) (by omega) ?_
    rw [serve, serveReadReader_ply hp, State.readers_holding, State.plies_holding, State.drivers_holding]
  · refine request_read hready rfl (by simp [bodyLengthOk, hlen]) (by omega) ?_
    rw [serve, serveReadReader_outside hout]
  · refine request_read hready rfl (by simp [bodyLengthOk, hlen]) (by omega) ?_
    rw [serve, serveReadCapture_eq, State.trk_holding]
  · refine ⟨fun h => ?_, fun h => ?_, fun h => ⟨fun hbad => ?_, fun p hp hslot => ?_⟩⟩
    · exact exec_armCapture tag hlen htakes (if_pos h)
    · exact exec_armCapture tag hlen htakes (by simp [armed, h])
    · exact exec_armCapture tag hlen htakes (armed_outside h _ _ hbad)
    · have harm := armed_ply h hp hslot s.straps s.trk.capture
      split <;> rename_i hst
      · exact exec_armCapture tag hlen htakes (harm.trans (if_pos hst))
      · exact exec_armCapture tag hlen htakes (harm.trans (if_neg hst))

/-! ## Set Line and Read Line -/

theorem inRange_zero_eq_false {v : Option Nat} {hi : Nat} : inRange v 0 hi = false ↔ ∃ n ∈ v, hi < n := by
  cases v <;> simp [inRange]

theorem lineInRange_eq_false {body : List Byte} : lineInRange body = false ↔
    (1 < fieldAt 0 1 body ∨ 1 < fieldAt 4 1 body ∨ 1 < fieldAt 8 1 body) ∨ (∃ n ∈ optField 0 3 body, 2 ^ 20 < n) ∨
      (∃ n ∈ optField 4 3 body, 2 ^ 20 < n) ∨ (∃ n ∈ optField 8 3 body, 2000 < n) := by
  simp only [lineInRange, decodeLine, isFlag, Bool.and_eq_false_iff, inRange_zero_eq_false, decide_eq_false_iff_not, not_le]
  norm_num [or_assoc]

theorem State.takeLine_holding (s : State) (p : Port) (r : Request) (f : LineFields) :
    (s.holding p r).takeLine f = (s.takeLine f).holding p r := by
  simp only [State.takeLine, State.trk_holding, State.setTrk_holding, State.testExcursion_holding]
  split <;> rfl

/-- The present fields of Set Line taken: without a reverse excursion, or with the one that the reverse limit given brings to
light in BACKING (R4, R92). -/
theorem State.takeLine_eq (s : State) (f : LineFields) :
    let u := s.setTrk { s.trk with
      v := f.v.getD s.trk.v
      x := f.x.getD s.trk.x
      reverseLimit := f.reverseLimit.getD s.trk.reverseLimit }
    ((∃ n ∈ f.reverseLimit, (n : Int) < posDiff s.trk.h s.trk.a) ∧ s.trk.excursion = .backing ∧ s.pipe.rows ≠ [] →
      s.takeLine f = ((u.setTrk { u.trk with excursion := .excursion }).setPipe
        { s.pipe with rows := s.pipe.rows.map (fun r => r.addCause .reversed) }).latchEvent .reversed) ∧
    (¬((∃ n ∈ f.reverseLimit, (n : Int) < posDiff s.trk.h s.trk.a) ∧ s.trk.excursion = .backing ∧ s.pipe.rows ≠ []) →
      s.takeLine f = u) := by
  intro u
  cases hl : f.reverseLimit with
  | none => exact ⟨fun h => by simp at h, fun _ => by simp [State.takeLine, u, hl]⟩
  | some n =>
    have htake : s.takeLine f = u.testExcursion := by simp [State.takeLine, u, hl]
    have hu : u.trk.reverseLimit = n ∧ u.trk.excursion = s.trk.excursion ∧ u.trk.h = s.trk.h ∧ u.trk.a = s.trk.a ∧
        u.pipe = s.pipe := ⟨by simp [u, hl], rfl, rfl, rfl, rfl⟩
    obtain ⟨hlimit, hexc, hh, ha, hpipe⟩ := hu
    rw [htake]
    unfold State.testExcursion
    rw [hlimit, hexc, hh, ha, hpipe]
    refine ⟨fun ⟨⟨m, hm, hlt⟩, hb, hr⟩ => ?_, fun hn => if_neg fun ⟨hb, hlt, hr⟩ => hn ⟨⟨n, rfl, hlt⟩, hb, hr⟩⟩
    obtain rfl : n = m := Option.some.inj hm
    exact if_pos ⟨hb, hlt, hr⟩

theorem exec_setLine {s : State} {port : Port} {body : List Byte} (tag : Byte) (hlen : body.length = 12)
    (htakes : s.Takes port .setLine) :
    exec (.setLine port tag body) s = .next (
      if lineInRange body = false then s.answered port 0x20 tag (.refusal .range)
      else if ((decodeLine body).v.isSome ∨ (decodeLine body).x.isSome) ∧ s.trk.epoch.isSome then
        s.answered port 0x20 tag .busy
      else (s.takeLine (decodeLine body)).answered port 0x20 tag .plain) := by
  have hok : bodyLengthOk .setLine body = true := by simp [bodyLengthOk, hlen]
  have hheld := htakes.1.2.1
  split_ifs with hrange hbusy
  · refine request_taken htakes hok (by omega) ?_ hheld
    rw [serve, serveSetLine, if_pos hrange]
    rfl
  · refine request_taken htakes hok (by omega) ?_ hheld
    rw [serve, serveSetLine, if_neg hrange, if_pos (by simpa using hbusy)]
    rfl
  · refine request_taken htakes hok (by omega) ?_ ?_
    · rw [serve, serveSetLine, if_neg hrange, if_neg (by simpa using hbusy), State.takeLine_holding]
      rfl
    · have hturn := serveSetLine_turn port body s
      rw [serveSetLine, if_neg hrange, if_neg (by simpa using hbusy)] at hturn
      exact (hturn.traffic port).held.trans hheld

/-- Settles O48. -/
theorem lineSettings : Obligations.LineSettings := by
  intro s port tag body v x limit
  refine ⟨fun htakes hlen => ?_, fun hready => ?_⟩
  · obtain ⟨hexcursion, htaken⟩ := s.takeLine_eq (decodeLine body)
    intro u
    rw [exec_setLine tag hlen htakes]
    congr 1
    by_cases hrange : lineInRange body = false
    · rw [if_pos hrange, if_pos (lineInRange_eq_false.1 hrange)]
    · rw [if_neg hrange, if_neg (mt lineInRange_eq_false.2 hrange)]
      have hbusy : (((decodeLine body).v.isSome ∨ (decodeLine body).x.isSome) ∧ s.trk.epoch.isSome) ↔
          (v ≠ none ∨ x ≠ none) ∧ s.trk.epoch ≠ none := by
        simp [decodeLine, v, x, Option.isSome_iff_ne_none]
      refine if_congr hbusy rfl ?_
      split_ifs with hexc
      · rw [hexcursion hexc]
        rfl
      · rw [htaken hexc]
        rfl
  · refine (request_read hready rfl rfl (by simp) (by rw [serve, serveReadLine]; rfl)).trans ?_
    rw [State.trk_holding]
    have hstate : s.trk.state = (match s.trk.epoch with
        | none => .free
        | some e => if e.o0 = none then .originPending else .tracking) := by
      unfold Tracker.state
      cases s.trk.epoch with
      | none => rfl
      | some e => cases h : e.o0 <;> simp [h]
    rw [hstate]
    rfl

end Sys2Proof.Machine

namespace Sys2Proof.Machine

/-! ## What a position event leaves still

The straps, the reverse excursion, the reverse limit and a port that is idle by strap: no position event and no step of a warm
reset touches them, but that a step of a warm reset empties the idle port's pending set with the other's. -/

/-- The parts of the state that a position event leaves as they are. -/
structure Still where
  straps : Straps
  excursion : Excursion
  reverseLimit : Nat
  idle : Port → Option PortState

/-- The still parts of a state; a port counts while it is idle by strap (R175). -/
def State.still (s : State) : Still :=
  { straps := s.straps
    excursion := s.trk.excursion
    reverseLimit := s.trk.reverseLimit
    idle := fun p => if s.portAbsent p then some (s.port p) else none }

theorem Still.excursion_eq {s t : State} (h : t.still = s.still) : t.trk.excursion = s.trk.excursion :=
  congrArg Still.excursion h

theorem Still.reverseLimit_eq {s t : State} (h : t.still = s.still) : t.trk.reverseLimit = s.trk.reverseLimit :=
  congrArg Still.reverseLimit h

theorem Still.portAbsent_eq {s t : State} (h : t.still = s.still) (p : Port) : t.portAbsent p = s.portAbsent p := by
  have hst : t.straps = s.straps := congrArg Still.straps h
  cases p with
  | line => rfl
  | panel => simp [State.portAbsent, hst]

theorem Still.port_eq {s t : State} (h : t.still = s.still) {p : Port} (hp : s.portAbsent p = true) :
    t.port p = s.port p := by
  have hi : t.still.idle p = s.still.idle p := congrFun (congrArg Still.idle h) p
  simpa [State.still, hp, Still.portAbsent_eq h p] using hi

section
variable (s : State)

@[simp] theorem still_setPlies (x) : (s.setPlies x).still = s.still := rfl
@[simp] theorem still_setMarks (x) : (s.setMarks x).still = s.still := rfl
@[simp] theorem still_setZones (x) : (s.setZones x).still = s.still := rfl
@[simp] theorem still_setGen (x) : (s.setGen x).still = s.still := rfl
@[simp] theorem still_setPipe (x) : (s.setPipe x).still = s.still := rfl
@[simp] theorem still_setRows (x) : (s.setRows x).still = s.still := rfl
@[simp] theorem still_setDrivers (x) : (s.setDrivers x).still = s.still := rfl
@[simp] theorem still_setRequests (x) : (s.setRequests x).still = s.still := rfl
@[simp] theorem still_setReaders (x) : (s.setReaders x).still = s.still := rfl
@[simp] theorem still_setJobs (x) : (s.setJobs x).still = s.still := rfl
@[simp] theorem still_setAudit (x) : (s.setAudit x).still = s.still := rfl
@[simp] theorem still_setShift (x) : (s.setShift x).still = s.still := rfl
@[simp] theorem still_setMonitors (x) : (s.setMonitors x).still = s.still := rfl
@[simp] theorem still_setStop (x) : (s.setStop x).still = s.still := rfl
@[simp] theorem still_setHeadLink (x) : (s.setHeadLink x).still = s.still := rfl
@[simp] theorem still_setFreeIndex (x) : (s.setFreeIndex x).still = s.still := rfl

/-- A change of the Tracker that keeps the excursion and the reverse limit. -/
theorem still_setTrk (x : Tracker) (he : x.excursion = s.trk.excursion) (hl : x.reverseLimit = s.trk.reverseLimit) :
    (s.setTrk x).still = s.still := by
  show Still.mk _ x.excursion x.reverseLimit _ = Still.mk _ _ _ _
  rw [he, hl]
  rfl

@[simp] theorem still_setSchedule (x : List Scheduled) :
    (s.setTrk { s.trk with schedule := x }).still = s.still := rfl

theorem still_foldl {α : Type} {f : State → α → State} (h : ∀ s a, (f s a).still = s.still) (l : List α) (s : State) :
    (l.foldl f s).still = s.still := by
  induction l generalizing s with
  | nil => rfl
  | cons a l ih => exact (ih _).trans (h s a)

/-! ### Attentions and stop causes -/

@[simp] theorem still_raiseAt (p : Port) (c : Attention) : (s.raiseAt p c).still = s.still := by
  unfold State.raiseAt
  split
  · rfl
  · cases p with
    | line => exact congrArg (Still.mk _ _ _) (funext fun q => by cases q <;> rfl)
    | panel => exact congrArg (Still.mk _ _ _) (funext fun q => by cases q <;> simp_all [State.portAbsent, State.setPort])

@[simp] theorem still_raiseBoth (c : Attention) : (s.raiseBoth c).still = s.still := by simp [State.raiseBoth]

@[simp] theorem still_changeStop (f : StopUnit → StopUnit) : (s.changeStop f).still = s.still := by
  unfold State.changeStop
  split <;> simp

@[simp] theorem still_latchEvent (c : StopCause) : (s.latchEvent c).still = s.still := still_changeStop _ _

@[simp] theorem still_startLevel (c : StopCause) : (s.startLevel c).still = s.still := by
  unfold State.startLevel
  split <;> simp

@[simp] theorem still_endLevel (c : StopCause) : (s.endLevel c).still = s.still := by
  unfold State.endLevel
  split <;> simp

/-! ### Web Tracker -/

@[simp] theorem still_scheduleAt (pos : Pos) (ev : PosEvent) : (s.scheduleAt pos ev).still = s.still := rfl

@[simp] theorem still_unschedule (f : PosEvent → Bool) : (s.unschedule f).still = s.still := rfl

/-- A due position taken leaves still what its owner's work leaves still. -/
theorem still_fire (ev : PosEvent) {h : Pos → State → State} (hh : ∀ pos u, (h pos u).still = u.still) :
    (s.fire ev h).still = s.still := by
  unfold State.fire
  split
  · rfl
  · rw [hh, still_setSchedule]

@[simp] theorem still_clearReserve : s.clearReserve.still = s.still := by
  unfold State.clearReserve
  split <;> simp

@[simp] theorem still_marksOff : s.marksOff.still = s.still := by
  unfold State.marksOff
  exact (still_foldl (fun _ _ => still_endLevel _ _) _ _).trans (by simp)

@[simp] theorem still_zonesOff : s.zonesOff.still = s.still := by simp [State.zonesOff]

@[simp] theorem still_returnToFree : s.returnToFree.still = s.still := by
  have h : (s.setTrk { s.trk with epoch := none }).still = s.still := still_setTrk s _ rfl rfl
  unfold State.returnToFree
  dsimp only
  split <;> simp [h]

@[simp] theorem still_testFree : s.testFree.still = s.still := by
  unfold State.testFree
  split <;> simp

/-! ### Audit Store and monitors -/

@[simp] theorem still_updRow (k : Nat) (f : Row → Row) : (s.updRow k f).still = s.still := rfl

@[simp] theorem still_updOpenRow (k : Nat) (f : Row → Row) : (s.updOpenRow k f).still = s.still := rfl

@[simp] theorem still_updJob (id : Nat) (f : Job → Job) : (s.updJob id f).still = s.still := rfl

@[simp] theorem still_updTallies (id : Nat) (f : JobTallies → JobTallies) : (s.updTallies id f).still = s.still := rfl

@[simp] theorem still_updRecord (id : Nat) (f : RecoveryRecord → RecoveryRecord) : (s.updRecord id f).still = s.still := rfl

@[simp] theorem still_updShift (f : ShiftTallies → ShiftTallies) : (s.updShift f).still = s.still := rfl

@[simp] theorem still_appendVoid (r : Row) (owner : Port) (strict : Bool) (n : Nat) (l : LaneRec) (x : LaneNumber) :
    (s.appendVoid r owner strict n l x).still = s.still := by
  unfold State.appendVoid
  dsimp only
  split <;> simp

@[simp] theorem still_disposeLane (r : Row) (owner : Port) (strict : Bool) (n : Nat) (l : LaneRec) :
    (s.disposeLane r owner strict n l).still = s.still := by
  unfold State.disposeLane
  split
  · rfl
  · split
    · cases strict <;> rfl
    · simp

theorem still_disposeLanes (r : Row) (owner : Port) (strict : Bool) (ls : List LaneRec) (n : Nat) (s : State) :
    (s.disposeLanes r owner strict n ls).still = s.still := by
  induction ls generalizing n s with
  | nil => rfl
  | cons l ls ih => exact (ih _ _).trans (still_disposeLane _ _ _ _ _ _)

@[simp] theorem still_disposeRow (r : Row) : (s.disposeRow r).still = s.still := by
  simp [State.disposeRow, still_disposeLanes]

@[simp] theorem still_sampleMonitor (r : Row) (i : Mon) : (s.sampleMonitor r i).still = s.still := by
  unfold State.sampleMonitor
  dsimp only
  split_ifs <;> simp

@[simp] theorem still_sampleMonitors (r : Row) : (s.sampleMonitors r).still = s.still :=
  still_foldl (fun _ _ => still_sampleMonitor _ _ _) _ _

/-! ### Number Generator and Job Table -/

@[simp] theorem still_countDraw (id n : Nat) : (s.countDraw id n).still = s.still := rfl

@[simp] theorem still_completionTest (j : Job) : (s.completionTest j).still = s.still := by
  unfold State.completionTest
  split <;> rfl

@[simp] theorem still_feedReports (before : Nat) (starved : Bool) : (s.feedReports before starved).still = s.still := by
  unfold State.feedReports
  dsimp only
  split_ifs <;> simp

@[simp] theorem still_drawMakeUp (j : Job) : (s.drawMakeUp j).2.still = s.still := by
  unfold State.drawMakeUp
  dsimp only
  split <;> simp

@[simp] theorem still_drawSequence (j : Job) : (s.drawSequence j).2.still = s.still := by simp [State.drawSequence]

@[simp] theorem still_drawList (j : Job) : (s.drawList j).2.still = s.still := by
  unfold State.drawList
  dsimp only
  split <;> simp

@[simp] theorem still_draw (j : Job) : (s.draw j).2.still = s.still := by
  unfold State.draw
  split
  · simp
  · split
    · rfl
    · split
      · split
        · rfl
        · simp
      · simp

@[simp] theorem still_emptyFeedOf (id : Nat) : (s.emptyFeedOf id).still = s.still := by
  unfold State.emptyFeedOf
  split
  · split <;> rfl
  · rfl

@[simp] theorem still_formEnd (id : Nat) (why : EndReason) : (s.formEnd id why).still = s.still := rfl

@[simp] theorem still_removeRecord (id : Nat) : (s.removeRecord id).still = s.still := rfl

@[simp] theorem still_endJob (id : Nat) : (s.endJob id).still = s.still := by
  unfold State.endJob
  split <;> simp

@[simp] theorem still_startRunning (j : Job) : (s.startRunning j).still = s.still := rfl

@[simp] theorem still_followOn (before : Plan) : (s.followOn before).still = s.still := by
  unfold State.followOn
  split
  · split
    · rfl
    · split
      · split
        · rfl
        · simp [State.changeover]
      · rfl
  · rfl

@[simp] theorem still_handedBack (id : Nat) : (s.handedBack id).still = s.still := by simp [State.handedBack]

@[simp] theorem still_afterRunning (before : Plan) : (s.afterRunning before).still = s.still := by
  unfold State.afterRunning
  dsimp only
  split <;> simp [State.windowsOff]

@[simp] theorem still_drainJob (id : Nat) (why : EndReason) : (s.drainJob id why).still = s.still := by
  unfold State.drainJob
  split
  · rfl
  · split
    · dsimp only
      split <;> simp
    · rfl

@[simp] theorem still_testDrain (id : Nat) : (s.testDrain id).still = s.still := by
  unfold State.testDrain
  split
  · rfl
  · split <;> simp

/-! ### Imprint Unit -/

@[simp] theorem still_updDriver (d : Driver) (f : DriverRec → DriverRec) : (s.updDriver d f).still = s.still := rfl

@[simp] theorem still_countDriver (d : Driver) (f : DriverCounts → DriverCounts) : (s.countDriver d f).still = s.still := rfl

@[simp] theorem still_sendHead (m : HeadMessage) : (s.sendHead m).still = s.still := rfl

@[simp] theorem still_withdrawSend (p : Ply) (k : Nat) : (s.withdrawSend p k).still = s.still := rfl

@[simp] theorem still_orderUnanswered (p : Ply) (k : Nat) : (s.orderUnanswered p k).still = s.still := by
  unfold State.orderUnanswered
  split
  · rfl
  · dsimp only
    split <;> simp

@[simp] theorem still_takeSend (q : SendRequest) : (s.takeSend q).still = s.still := by
  unfold State.takeSend
  dsimp only
  split_ifs <;> rfl

@[simp] theorem still_fireSend (p : Ply) (k : Nat) : (s.fireSend p k).still = s.still := by
  refine still_fire s _ (fun _ u => ?_)
  split <;> simp

@[simp] theorem still_handSend (q : SendRequest) : (s.handSend q).still = s.still := by simp [State.handSend]

/-! ### Row Pipeline -/

@[simp] theorem still_endExpectations (k : Nat) : (s.endExpectations k).still = s.still := rfl

@[simp] theorem still_setReserve : s.setReserve.still = s.still := by
  unfold State.setReserve
  split <;> simp

@[simp] theorem still_reserveFall : s.reserveFall.still = s.still := by
  unfold State.reserveFall
  split
  · rfl
  · split
    · simp
    · split <;> simp

@[simp] theorem still_mergeWork (r : Row) : (s.mergeWork r).still = s.still := by
  unfold State.mergeWork
  dsimp only
  rw [still_endExpectations, still_updRow, still_foldl (fun _ _ => still_withdrawSend _ _ _),
    still_foldl (fun _ _ => still_orderUnanswered _ _ _)]

@[simp] theorem still_ensureMerged (k : Nat) : (s.ensureMerged k).still = s.still := by
  unfold State.ensureMerged
  split
  · split <;> simp
  · rfl

@[simp] theorem still_firePulseEnd (l : Lane) : (s.firePulseEnd l).still = s.still :=
  still_fire s _ (fun _ u => by split <;> rfl)

@[simp] theorem still_pulse (l : Lane) (pos : Pos) : (s.pulse l pos).still = s.still := by simp [State.pulse]

@[simp] theorem still_markerWork (r : Row) : (s.markerWork r).still = s.still := by
  simp [State.markerWork, still_foldl]

@[simp] theorem still_ensureMarked (k : Nat) : (s.ensureMarked k).still = s.still := by
  unfold State.ensureMarked
  dsimp only
  split
  · split <;> simp
  · simp

@[simp] theorem still_dropRow (k : Nat) : (s.dropRow k).still = s.still := rfl

@[simp] theorem still_reportInFlight (job : Nat) : (s.reportInFlight job).still = s.still := by
  unfold State.reportInFlight
  split <;> simp

@[simp] theorem still_reportLastRow (job : Nat) : (s.reportLastRow job).still = s.still := by
  unfold State.reportLastRow
  split
  · split <;> simp
  · rfl

@[simp] theorem still_retire (r : Row) : (s.retire r).still = s.still := by
  unfold State.retire
  dsimp only
  split <;> simp

@[simp] theorem still_fireMerge (k : Nat) : (s.fireMerge k).still = s.still :=
  still_fire s _ (fun _ u => still_ensureMerged u k)

@[simp] theorem still_fireMarker (k : Nat) : (s.fireMarker k).still = s.still :=
  still_fire s _ (fun _ u => still_ensureMarked u k)

@[simp] theorem still_fireDelivery (k : Nat) : (s.fireDelivery k).still = s.still := by
  refine still_fire s _ (fun _ u => ?_)
  dsimp only
  split
  · split <;> simp
  · simp

@[simp] theorem still_drawForRow (j : Job) (spoiled : Bool) : (s.drawForRow j spoiled).2.still = s.still := by
  unfold State.drawForRow
  split_ifs <;> simp

@[simp] theorem still_addRow (r : Row) : (s.addRow r).still = s.still := rfl

@[simp] theorem still_schedulePositions (r : Row) : (s.schedulePositions r).still = s.still := rfl

@[simp] theorem still_openRow (j : Job) (e : Epoch) (o0 : Pos) (k : Nat) : (s.openRow j e o0 k).still = s.still := by
  unfold State.openRow
  dsimp only
  split <;> simp

theorem still_openRows (n : Nat) (s : State) : (openRows n s).still = s.still := by
  induction n generalizing s with
  | zero => rfl
  | succ n ih =>
    unfold openRows
    split
    · split
      · exact (ih _).trans (still_openRow _ _ _ _ _)
      · rfl
    · rfl

@[simp] theorem still_discardForm : s.discardForm.still = s.still := rfl

@[simp] theorem still_assignForm (r : Row) (p : Ply) (a : Assignment) (c : Pos) (causes : CauseSet) :
    (s.assignForm r p a c causes).still = s.still := by
  unfold State.assignForm
  dsimp only
  split_ifs <;> simp [State.updReader]

@[simp] theorem still_assignReport (p : Ply) (k : Nat) (a : Assignment) (c : Pos) (causes : CauseSet) :
    (s.assignReport p k a c causes).still = s.still := by
  unfold State.assignReport
  split
  · rfl
  · split
    · rfl
    · split <;> simp

@[simp] theorem still_formReport (p : Ply) (k : Nat) (a : Assignment) (c : Pos) (causes : CauseSet) :
    (s.formReport p k a c causes).still = s.still := by
  unfold State.formReport
  split
  · rfl
  · split
    · split <;> simp [still_openRows]
    · simp

/-! ### Mark Unit -/

@[simp] theorem still_updMark (p : Ply) (f : MarkPly → MarkPly) : (s.updMark p f).still = s.still := rfl

@[simp] theorem still_setExpected (p : Ply) (e : Epoch) (c : Pos) (k : Int) :
    (s.setExpected p e c k).still = s.still := by
  unfold State.setExpected
  dsimp only
  split <;> rfl

@[simp] theorem still_flywheel (p : Ply) : (s.flywheel p).still = s.still := by
  unfold State.flywheel
  split
  · split
    · simp [State.preJobFlywheel]
    · unfold State.flywheelForRow
      dsimp only
      split <;> simp
  · rfl

/-- No position event touches the still parts. -/
@[simp] theorem still_fireEvent (ev : PosEvent) : (s.fireEvent ev).still = s.still := by
  cases ev with
  | windowEnd p => exact still_fire s _ (fun _ u => still_flywheel u p)
  | zoneExpiry p => exact still_fire s _ (fun _ _ => rfl)
  | send p k => exact still_fireSend s p k
  | merge k => exact still_fireMerge s k
  | marker k => exact still_fireMarker s k
  | delivery k => exact still_fireDelivery s k
  | pulseEnd l => exact still_firePulseEnd s l

end

end Sys2Proof.Machine

namespace Sys2Proof.Machine

/-! ## What the steps of a warm reset leave of the web's travel -/

/-- The reverse excursion, its limit and the rows held are in `t` as in `s`. -/
structure SameTravel (s t : State) : Prop where
  excursion : t.trk.excursion = s.trk.excursion
  reverseLimit : t.trk.reverseLimit = s.trk.reverseLimit
  rows : t.pipe.rows = s.pipe.rows

theorem SameTravel.of_still {s t : State} (h : t.still = s.still) (hr : t.pipe.rows = s.pipe.rows) : SameTravel s t :=
  ⟨Still.excursion_eq h, Still.reverseLimit_eq h, hr⟩

theorem SameTravel.trans {s t u : State} (h : SameTravel s t) (k : SameTravel t u) : SameTravel s u :=
  ⟨k.excursion.trans h.excursion, k.reverseLimit.trans h.reverseLimit, k.rows.trans h.rows⟩

theorem still_resetJob (s : State) (j : Job) : (s.resetJob j).still = s.still := by
  unfold State.resetJob
  split <;> simp [State.cancelLoaded]

theorem still_resetJobs (s : State) : s.resetJobs.still = s.still := by
  unfold State.resetJobs
  dsimp only
  rw [still_setGen, still_foldl still_resetJob]

theorem State.changeStop_pipe (s : State) (f : StopUnit → StopUnit) : (s.changeStop f).pipe = s.pipe := by
  obtain ⟨l, q, h⟩ := s.changeStop_eq f
  rw [h]
  rfl

/-- The blocks cleared by a warm reset, before the ports' attentions are: step 4 of R155 but for its last part. -/
theorem State.clearBlocks_eq (s : State) : ∃ u : State, u.still = s.still ∧ u.pipe.rows = s.pipe.rows ∧
    s.clearBlocks = (u.setLine u.line.cleared).setPanel u.panel.cleared := by
  refine ⟨_, ?_, ?_, rfl⟩
  · rw [still_changeStop, still_setMonitors, still_setPipe]
    refine (still_setTrk _ _ rfl rfl).trans ?_
    split
    · rw [still_returnToFree, State.endAllExpectations, still_setReaders, still_zonesOff]
    · rw [State.endAllExpectations, still_setReaders, still_zonesOff]
  · rw [State.changeStop_pipe]
    show (if s.zonesOff.endAllExpectations.pipe.rows = [] then s.zonesOff.endAllExpectations.returnToFree
      else s.zonesOff.endAllExpectations).pipe.rows = s.pipe.rows
    split
    · exact State.returnToFree_rows _
    · rfl

theorem State.resetStep_sameTravel (s : State) : SameTravel s s.resetStep := by
  unfold State.resetStep
  split
  · refine .of_still ?_ ?_
    · rw [still_testFree, still_resetJobs]; rfl
    · rw [State.testFree_rows, State.resetJobs_pipe]; rfl
  · obtain ⟨u, hstill, hrows, h⟩ := (s.setResetStage .cleared).clearBlocks_eq
    have hu : SameTravel (s.setResetStage .cleared) u := .of_still hstill hrows
    rw [h]
    exact ⟨hu.excursion, hu.reverseLimit, hu.rows⟩
  · exact ⟨rfl, rfl, rfl⟩

theorem resetSteps_sameTravel (n : Nat) (s : State) : SameTravel s (resetSteps n s) := by
  induction n generalizing s with
  | zero => exact ⟨rfl, rfl, rfl⟩
  | succ n ih => exact s.resetStep_sameTravel.trans (ih _)

theorem State.advanced_sameTravel (s : State) (n : Nat) : SameTravel s (s.advanced n) := by
  refine SameTravel.trans ?_ (resetSteps_sameTravel n _)
  split <;> exact ⟨rfl, rfl, rfl⟩

/-- The free choice of an encoder count in a warm reset: some of the steps still to come have come about (log entry 16). -/
theorem State.advanceReset_advanced (s : State) : ∃ n, n ≤ s.resetLeft ∧ s.advanceReset = s.advanced n := by
  rcases s.advanceReset_eq with ⟨hz, h⟩ | ⟨hp, n, hn, h⟩
  · exact ⟨0, Nat.zero_le _, by simp [State.advanced, hz, h, resetSteps]⟩
  · exact ⟨n, hn, by simp [State.advanced, Nat.pos_iff_ne_zero.1 hp, h]⟩

/-! ## The due position events, settled before an encoder count -/

theorem takeDue_none {f : PosEvent → Bool} {s : State} (h : s.due.filter (fun x => f x.ev) = []) (n : Nat) :
    takeDue f n s = s := by
  cases n with
  | zero => rfl
  | succ n => simp [takeDue, h]

theorem State.settle_none {f : PosEvent → Bool} {s : State} (h : s.due.filter (fun x => f x.ev) = []) :
    s.settle f = s := takeDue_none h _

/-- A single event to be settled, which leaves none to be settled. -/
theorem State.settle_single {f : PosEvent → Bool} {s : State} {y : Scheduled} (h : s.due.filter (fun x => f x.ev) = [y])
    (hthen : (s.fireEvent y.ev).due.filter (fun x => f x.ev) = []) : s.settle f = s.fireEvent y.ev := by
  have hmem : y ∈ s.trk.schedule := by
    have : y ∈ s.due.filter (fun x => f x.ev) := by simp [h]
    exact (List.mem_filter.1 (List.mem_filter.1 this).1).1
  obtain ⟨n, hn⟩ := Nat.exists_eq_succ_of_ne_zero (List.length_pos_of_mem hmem).ne'
  rw [State.settle, hn, takeDue]
  simp only [h, List.length_singleton, State.choose, Nat.le_refl, if_true, List.getElem?_cons_zero]
  exact takeDue_none hthen n

/-- A position event's own command takes it, and the transmitters are started. -/
theorem exec_command (ev : PosEvent) (s : State) : exec ev.command s = finish (s.fireEvent ev) := by
  cases ev <;> rfl

/-- A transmitter that is sending, or that has nothing to send, begins no frame. -/
theorem State.startSending_of_busy {s : State} (h : ∀ p, s.PortBusy p) : s.startSending = s := by
  have hstarted : ∀ p, (s.port p).started = s.port p := by
    intro p
    unfold PortState.started
    rcases h p with hs | ⟨-, hr, hu⟩
    · split
      · rfl
      · exact absurd ‹_› hs
    · split
      · rfl
      · simp [hr, hu]
  have hl : s.line.started = s.line := hstarted .line
  have hp : s.panel.started = s.panel := hstarted .panel
  rw [State.startSending, hl, hp]
  rfl

theorem State.fireEvent_busy {s : State} {ev : PosEvent} (h : ∀ p, s.PortBusy p) (p : Port) :
    (s.fireEvent ev).PortBusy p := by
  have hstill := still_fireEvent s ev
  rcases h p with hs | ⟨habs, hr, hu⟩
  · exact .inl (((s.fireEvent_turn ev).traffic p).sending ▸ hs)
  · have hport := Still.port_eq hstill habs
    exact .inr ⟨(Still.portAbsent_eq hstill p).trans habs, hport ▸ hr, hport ▸ hu⟩

theorem State.takenBeforeReverse_fireEvent (s : State) (ev : PosEvent) :
    (s.fireEvent ev).takenBeforeReverse = s.takenBeforeReverse := by
  obtain ⟨-, -, ha, hh⟩ := (s.fireEvent_turn ev).course.fixed
  have hl := Still.reverseLimit_eq (still_fireEvent s ev)
  funext x
  cases x <;> simp [State.takenBeforeReverse, Tracker.retravel, ha, hh, hl]

/-! ## The encoder counts -/

theorem exec_forwardCount (s : State) : exec .forwardCount s =
    .next ((s.caughtUp (fun _ => true)).setTrk (s.caughtUp (fun _ => true)).trk.forward).startSending := rfl

theorem exec_reverseCount (s : State) : exec .reverseCount s =
    .next ((s.caughtUp s.takenBeforeReverse).setTrk (s.caughtUp s.takenBeforeReverse).trk.reverse).testExcursion.startSending :=
  rfl

/-- Where nothing is to be settled, a count is caught up by steps of a warm reset alone. -/
theorem State.caughtUp_none {f : PosEvent → Bool} {s : State} (h : s.due.filter (fun x => f x.ev) = []) :
    ∃ n, n ≤ s.resetLeft ∧ s.caughtUp f = s.advanced n := by
  rw [State.caughtUp, State.settle_none h]
  exact s.advanceReset_advanced

/-- Settles O6. -/
theorem forwardCountMovesTheWeb : Obligations.ForwardCountMovesTheWeb := by
  intro s
  obtain ⟨-, -, ha, hh⟩ := (s.caughtUp_turn (fun _ => true)).course.fixed
  refine ⟨_, exec_forwardCount s, ?_, ?_, fun hdue => ?_⟩
  · show posFwd (s.caughtUp (fun _ => true)).trk.a 1 = _
    rw [ha]
    rfl
  · show (if isAhead (posFwd (s.caughtUp (fun _ => true)).trk.a 1) (s.caughtUp (fun _ => true)).trk.h then
      posFwd (s.caughtUp (fun _ => true)).trk.a 1 else (s.caughtUp (fun _ => true)).trk.h) = _
    rw [ha, hh]
    rfl
  · obtain ⟨n, hn, hu⟩ := State.caughtUp_none (f := fun _ => true) (s := s) (by simp [hdue])
    refine ⟨n, hn, ?_⟩
    rw [hu, ← (s.advanced_sameTravel n).excursion]
    rfl

/-- Where a reverse excursion is to be reported, the rows, the Tracker and the Stop Unit are changed for it (R4, R92). -/
theorem State.testExcursion_reported {s : State} (he : s.trk.excursion = .backing)
    (hl : (s.trk.reverseLimit : Int) < posDiff s.trk.h s.trk.a) (hr : s.pipe.rows ≠ []) :
    s.testExcursion = ((s.setTrk { s.trk with excursion := .excursion }).setPipe
      { s.pipe with rows := s.pipe.rows.map (fun r => r.addCause .reversed) }).latchEvent .reversed := by
  unfold State.testExcursion
  exact if_pos ⟨he, hl, hr⟩

theorem State.latchEvent_trk (s : State) (c : StopCause) : (s.latchEvent c).trk = s.trk := by
  obtain ⟨u, l, q, h⟩ := s.latchEvent_eq c
  rw [h]
  rfl

theorem State.latchEvent_pipe (s : State) (c : StopCause) : (s.latchEvent c).pipe = s.pipe := s.changeStop_pipe _

theorem Tracker.reverse_excursion (t : Tracker) :
    t.reverse.excursion = .backing ↔ t.excursion = .none ∨ t.excursion = .backing := by
  unfold Tracker.reverse
  dsimp only
  split <;> simp_all

/-- A reverse count from `u`, which holds the web's travel of `s`: NONE becomes BACKING, and the excursion is reported where
H − A is then beyond the limit and a row is held (R4, R92). -/
theorem State.reverse_reported {s u : State} (hsame : SameTravel s u) (ha : u.trk.a = s.trk.a) (hh : u.trk.h = s.trk.h) :
    let t := (u.setTrk u.trk.reverse).testExcursion.startSending
    if (s.trk.excursion = .none ∨ s.trk.excursion = .backing) ∧
        (s.trk.reverseLimit : Int) < posDiff s.trk.h (s.trk.a - 1) ∧ s.pipe.rows ≠ [] then
      t.trk = { u.trk with a := s.trk.a - 1, excursion := .excursion } ∧
      t.pipe = { u.pipe with rows := s.pipe.rows.map (fun r => r.addCause .reversed) } ∧
      t.stop.latched = StopSet.insert u.stop.latched .reversed ∧ t.stop.held = u.stop.held ∧
      t = (((u.setTrk t.trk).setPipe t.pipe).latchEvent .reversed).startSending
    else
      t = (u.setTrk { u.trk with
        a := s.trk.a - 1
        excursion := if s.trk.excursion = .none then .backing else s.trk.excursion }).startSending := by
  obtain ⟨hexc, hlimit, hrows⟩ := hsame
  rw [← hexc, ← hlimit, ← hrows, ← ha, ← hh]
  intro t
  split <;> rename_i hreport
  · obtain ⟨hbacking, hbeyond, hheld⟩ := hreport
    have ht : t = (((u.setTrk { u.trk with a := u.trk.a - 1, excursion := .excursion }).setPipe
        { u.pipe with rows := u.pipe.rows.map (fun r => r.addCause .reversed) }).latchEvent .reversed).startSending :=
      congrArg State.startSending
        (State.testExcursion_reported (s := u.setTrk u.trk.reverse) (u.trk.reverse_excursion.2 hbacking) hbeyond hheld)
    have htrk : t.trk = { u.trk with a := u.trk.a - 1, excursion := .excursion } := by
      rw [ht]
      exact State.latchEvent_trk _ _
    have hpipe : t.pipe = { u.pipe with rows := u.pipe.rows.map (fun r => r.addCause .reversed) } := by
      rw [ht]
      exact State.latchEvent_pipe _ _
    have hstop : t.stop = StopUnit.reformed { u.stop with latched := StopSet.insert u.stop.latched .reversed } := by
      rw [ht]
      exact State.latchEvent_stop _ _
    exact ⟨htrk, hpipe, by rw [hstop]; rfl, by rw [hstop]; rfl, by rw [htrk, hpipe]; exact ht⟩
  · have hnone : (u.setTrk u.trk.reverse).testExcursion = u.setTrk u.trk.reverse :=
      if_neg fun h => hreport ⟨u.trk.reverse_excursion.1 h.1, h.2⟩
    exact congrArg State.startSending hnone

/-- Settles O7. -/
theorem reverseCountBacksTheWeb : Obligations.ReverseCountBacksTheWeb := by
  intro s settled
  have hsettled : ∀ x : State, settled x = x.due.filter (fun y => x.takenBeforeReverse y.ev) := by
    intro x
    refine List.filter_congr fun y _ => ?_
    cases y.ev <;> simp [State.takenBeforeReverse, Nat.pos_iff_ne_zero]
  refine ⟨fun y w hone hbusy hexec hnone => ?_, _, exec_reverseCount s, ?_⟩
  · obtain rfl : s.fireEvent y.ev = w := by
      rw [exec_command, finish, State.startSending_of_busy (State.fireEvent_busy hbusy)] at hexec
      exact Host.Outcome.next.inj hexec
    rw [hsettled] at hone hnone
    have hsame := s.takenBeforeReverse_fireEvent y.ev
    rw [hsame] at hnone
    rw [exec_reverseCount, exec_reverseCount, State.caughtUp, State.caughtUp, hsame, State.settle_single hone hnone,
      State.settle_none hnone]
  · obtain ⟨-, -, ha, hh⟩ := (s.caughtUp_turn s.takenBeforeReverse).course.fixed
    obtain ⟨-, -, hta, hth⟩ := (exec_reverse s _ (exec_reverseCount s)).fixed
    refine ⟨hta.trans ?_, hth.trans hh, fun hnone => ?_⟩
    · show posBack (s.caughtUp s.takenBeforeReverse).trk.a 1 = _
      rw [ha]
      rfl
    obtain ⟨n, hn, hu⟩ := State.caughtUp_none (hsettled s ▸ hnone)
    refine ⟨n, hn, ?_⟩
    rw [hu] at ha hh ⊢
    exact State.reverse_reported (s.advanced_sameTravel n) ha hh

end Sys2Proof.Machine

namespace Sys2Proof.Machine

/-! ## A state in two parts: its core, and the signals it gives

The Stop Unit and the ports follow what the other blocks report, and no block but the Port Unit reads them. So what an operation
does is said in two parts: what it makes of the rest of the state, its core; and which stop causes are latched and held, and which
attentions are pending, its signals. -/

/-- The state without its Stop Unit and its ports. -/
def State.core (s : State) : State := ((s.setStop powerUpStop).setLine powerUpPort).setPanel powerUpPort

/-- The stop causes latched and held, and the attentions pending at each port, but for STOP. -/
structure Signals where
  latched : StopCause → Bool
  held : StopCause → Bool
  pending : Port → Attention → Bool

/-- The signals of a state. -/
def State.signals (s : State) : Signals :=
  { latched := StopSet.has s.stop.latched
    held := StopSet.has s.stop.held
    pending := fun q a => !decide (a = .stop) && AttentionSet.has (s.port q).pending a }

/-- The signals with an event cause latched (R166). -/
def Signals.latch (g : Signals) (c : StopCause) : Signals := { g with latched := fun d => g.latched d || decide (c = d) }

/-- The signals at the start of a level condition: nothing where it is held already (R166). -/
def Signals.start (g : Signals) (c : StopCause) : Signals :=
  { g with
    latched := fun d => g.latched d || (decide (c = d) && !g.held c)
    held := fun d => g.held d || decide (c = d) }

/-- The signals at the end of a level condition (R166). -/
def Signals.finish (g : Signals) (c : StopCause) : Signals := { g with held := fun d => g.held d && !decide (c = d) }

/-- The signals with a class raised at every port that is not idle by strap (R175, R178). -/
def Signals.raise (g : Signals) (absent : Port → Bool) (c : Attention) : Signals :=
  { g with pending := fun q a => g.pending q a || (decide (c = a) && !absent q) }

/-! ### Stop causes in a set -/

theorem StopCause.bit_lt (c : StopCause) : c.bit < 17 := by
  cases c with
  | markLost p => cases p <;> decide
  | driverDown d => cases d <;> decide
  | monitor m => cases m <;> decide
  | _ => decide

/-- The stop cause at a place of Table 10-6. -/
def StopCause.ofBit : Nat → StopCause
  | 0 => .markLost .p1 | 1 => .markLost .p2 | 2 => .markLost .p3 | 3 => .markLost .p4 | 4 => .markLost .p5
  | 5 => .markLost .p6 | 6 => .driverDown .d1 | 7 => .driverDown .d2 | 8 => .driverDown .d3 | 9 => .voidReserve
  | 10 => .changeover | 11 => .reversed | 12 => .monitor .m1 | 13 => .monitor .m2 | 14 => .monitor .m3
  | 15 => .monitor .m4 | _ => .feedStarved

theorem StopCause.ofBit_bit (c : StopCause) : StopCause.ofBit c.bit = c := by
  cases c with
  | markLost p => cases p <;> rfl
  | driverDown d => cases d <;> rfl
  | monitor m => cases m <;> rfl
  | _ => rfl

theorem StopCause.bit_inj {c d : StopCause} : c.bit = d.bit ↔ c = d :=
  ⟨fun h => by rw [← c.ofBit_bit, h, d.ofBit_bit], congrArg _⟩

theorem StopSet.has_insert (m : StopSet) (c d : StopCause) :
    StopSet.has (StopSet.insert m c) d = (StopSet.has m d || decide (c = d)) := by
  simp [StopSet.has, StopSet.insert, c.bit_lt, StopCause.bit_inj]

theorem StopSet.has_erase (m : StopSet) (c d : StopCause) :
    StopSet.has (StopSet.erase m c) d = (StopSet.has m d && !decide (c = d)) := by
  simp [StopSet.has, StopSet.erase, d.bit_lt, StopCause.bit_inj, eq_comm]

/-- A held level condition is latched in a consistent Stop Unit (R166, R168). -/
theorem StopUnit.Consistent.latched_of_held {u : StopUnit} (h : u.Consistent) {c : StopCause}
    (hc : StopSet.has u.held c = true) : StopSet.has u.latched c = true :=
  (StopSet.within_iff _ _).1 h.2 ⟨c.bit, c.bit_lt⟩ hc

/-! ### What the flags' operations do to both parts -/

section
variable (s : State)

@[simp] theorem signals_setTrk (x) : (s.setTrk x).signals = s.signals := rfl
@[simp] theorem signals_setMarks (x) : (s.setMarks x).signals = s.signals := rfl
@[simp] theorem signals_setGen (x) : (s.setGen x).signals = s.signals := rfl
@[simp] theorem signals_setPipe (x) : (s.setPipe x).signals = s.signals := rfl
@[simp] theorem signals_setRequests (x) : (s.setRequests x).signals = s.signals := rfl
@[simp] theorem signals_setReaders (x) : (s.setReaders x).signals = s.signals := rfl
@[simp] theorem signals_setJobs (x) : (s.setJobs x).signals = s.signals := rfl
@[simp] theorem signals_setAudit (x) : (s.setAudit x).signals = s.signals := rfl

@[simp] theorem core_raiseBoth (c : Attention) : (s.raiseBoth c).core = s.core := by
  obtain ⟨l, q, h⟩ := s.raiseBoth_eq c
  rw [h]
  rfl

@[simp] theorem signals_raiseBoth {c : Attention} (hc : c ≠ .stop) :
    (s.raiseBoth c).signals = s.signals.raise s.portAbsent c := by
  have hpending : (s.raiseBoth c).signals.pending = (s.signals.raise s.portAbsent c).pending := by
    funext q a
    show (!decide (a = .stop) && AttentionSet.has ((s.raiseBoth c).port q).pending a) =
      ((!decide (a = .stop) && AttentionSet.has (s.port q).pending a) || (decide (c = a) && !s.portAbsent q))
    rw [State.raiseBoth_port]
    cases habs : s.portAbsent q with
    | true => simp
    | false =>
      by_cases ha : a = .stop
      · simp [ha, hc]
      · simp [ha, PortState.raised_has]
  show Signals.mk (StopSet.has (s.raiseBoth c).stop.latched) (StopSet.has (s.raiseBoth c).stop.held)
    (s.raiseBoth c).signals.pending = _
  rw [State.raiseBoth_stop, hpending]
  rfl

@[simp] theorem core_changeStop (f : StopUnit → StopUnit) : (s.changeStop f).core = s.core := by
  obtain ⟨l, q, h⟩ := s.changeStop_eq f
  rw [h]
  rfl

theorem signals_changeStop (f : StopUnit → StopUnit) : (s.changeStop f).signals =
    { latched := StopSet.has (f s.stop).latched, held := StopSet.has (f s.stop).held, pending := s.signals.pending } := by
  have hpending : (s.changeStop f).signals.pending = s.signals.pending := by
    funext q a
    show (!decide (a = .stop) && AttentionSet.has ((s.changeStop f).port q).pending a) =
      (!decide (a = .stop) && AttentionSet.has (s.port q).pending a)
    have hset : (s.setStop (f s.stop).reformed).port q = s.port q := by cases q <;> rfl
    unfold State.changeStop
    split
    · rw [State.raiseBoth_port, hset]
      by_cases ha : a = .stop
      · simp [ha]
      · split
        · rfl
        · rw [PortState.raised_has]
          simp [Ne.symm ha]
    · rw [hset]
  show Signals.mk (StopSet.has (s.changeStop f).stop.latched) (StopSet.has (s.changeStop f).stop.held)
    (s.changeStop f).signals.pending = _
  rw [State.changeStop_stop, hpending]
  rfl

@[simp] theorem core_latchEvent (c : StopCause) : (s.latchEvent c).core = s.core := core_changeStop _ _

@[simp] theorem signals_latchEvent (c : StopCause) : (s.latchEvent c).signals = s.signals.latch c := by
  rw [State.latchEvent, signals_changeStop]
  exact congrArg (Signals.mk · _ _) (funext fun d => StopSet.has_insert _ _ _)

@[simp] theorem core_startLevel (c : StopCause) : (s.startLevel c).core = s.core := by
  unfold State.startLevel
  split <;> simp

@[simp] theorem signals_startLevel (c : StopCause) : (s.startLevel c).signals = s.signals.start c := by
  unfold State.startLevel Signals.start
  have hheld : s.signals.held c = StopSet.has s.stop.held c := rfl
  cases h : StopSet.has s.stop.held c with
  | true =>
    have hsame : (fun d => s.signals.held d || decide (c = d)) = s.signals.held := by
      funext d
      by_cases hcd : c = d
      · subst hcd; simp [hheld, h]
      · simp [hcd]
    simp [hheld, h, hsame]
  | false =>
    rw [if_neg (by simp), signals_changeStop]
    simp only [hheld, h, Bool.not_false, Bool.and_true, funext (StopSet.has_insert _ _)]
    rfl

@[simp] theorem core_endLevel (c : StopCause) : (s.endLevel c).core = s.core := by
  unfold State.endLevel
  split <;> simp

@[simp] theorem signals_endLevel (c : StopCause) : (s.endLevel c).signals = s.signals.finish c := by
  unfold State.endLevel Signals.finish
  have hheld : s.signals.held c = StopSet.has s.stop.held c := rfl
  cases h : StopSet.has s.stop.held c with
  | true =>
    rw [if_pos rfl, signals_changeStop]
    simp only [funext (StopSet.has_erase _ _)]
    rfl
  | false =>
    have hsame : (fun d => s.signals.held d && !decide (c = d)) = s.signals.held := by
      funext d
      by_cases hcd : c = d
      · subst hcd; simp [hheld, h]
      · simp [hcd]
    simp [hsame]

/-- The transmitters started: the core and the signals stand. -/
@[simp] theorem core_startSending : s.startSending.core = s.core := rfl

@[simp] theorem signals_startSending : s.startSending.signals = s.signals := by
  refine congrArg (Signals.mk _ _) (funext fun q => funext fun a => ?_)
  rw [State.startSending_port, PortState.started_pending]

end

/-- Fields of the core are the state's own: what a pair of equal cores shares. -/
theorem core_field {α : Type} (f : State → α) (hf : ∀ s : State, f s.core = f s) {s t : State} (h : t.core = s.core) :
    f t = f s := by rw [← hf, h, hf]

end Sys2Proof.Machine

namespace Sys2Proof.Machine

/-! ## What a form report's mark or flywheel leaves in the Mark Unit -/

@[simp] theorem PerPly.set_set {α : Type} (x : PerPly α) (p : Ply) (v w : α) : (x.set p v).set p w = x.set p w := by
  cases p <;> rfl

@[simp] theorem PerPly.set_get {α : Type} (x : PerPly α) (p : Ply) : x.set p (x.get p) = x := by cases p <;> rfl

@[simp] theorem State.updMark_updMark (s : State) (p : Ply) (f g : MarkPly → MarkPly) :
    (s.updMark p f).updMark p g = s.updMark p (fun m => g (f m)) := by
  simp [State.updMark, State.setMarks]

section
variable (s : State)

@[simp] theorem core_setMarks (x) : (s.setMarks x).core = s.core.setMarks x := rfl
@[simp] theorem core_setTrk (x) : (s.setTrk x).core = s.core.setTrk x := rfl
@[simp] theorem core_marks : s.core.marks = s.marks := rfl
@[simp] theorem core_plies : s.core.plies = s.plies := rfl
@[simp] theorem core_trk : s.core.trk = s.trk := rfl
@[simp] theorem core_running : s.core.running = s.running := rfl
@[simp] theorem State.setMarks_twice (x y) : (s.setMarks x).setMarks y = s.setMarks y := rfl
@[simp] theorem State.setTrk_twice (x y) : (s.setTrk x).setTrk y = s.setTrk y := rfl
@[simp] theorem State.setTrk_then_setMarks (x y) : (s.setTrk x).setMarks y = (s.setMarks y).setTrk x := rfl

end

/-- The capture once a mark of ply p is offered to it (R17). -/
def Capture.offered (cap : Capture) (p : Ply) (rec : CaptureRecord) : Capture :=
  if cap.enabled = true ∧ cap.ply = some p then
    { cap with
      slots := cap.slots.set cap.index (some rec)
      index := if cap.index = 15 then 0 else cap.index + 1
      enabled := decide (cap.index ≠ 15) }
  else cap

theorem State.offerCapture_eq (s : State) (p : Ply) (rec : CaptureRecord) :
    s.offerCapture p rec = s.setTrk { s.trk with capture := s.trk.capture.offered p rec } := by
  unfold State.offerCapture Capture.offered
  by_cases h : s.trk.capture.enabled = true ∧ s.trk.capture.ply = some p
  · have hindex : (if s.trk.capture.index = 15 then false else true) = decide (s.trk.capture.index ≠ 15) := by
      by_cases h15 : s.trk.capture.index = 15 <;> simp [h15]
    rw [if_pos (by simpa using h), if_pos h, hindex]
  · rw [if_neg (by simpa using h), if_neg h]
    rfl

/-- The position schedule once ply p's window is set anew from cue position `c` (R35). -/
def State.windowed (s : State) (p : Ply) (ep : Epoch) (c : Pos) (k : Int) : List Scheduled :=
  s.trk.schedule.filter (fun y => !decide (y.ev = .windowEnd p)) ++
    if s.running.isSome then
      [⟨posFwd (posShift c (rowDistance ep.repeatUm k)) (effectiveWindow (s.plies.get p).w ep.rtMin + 1), .windowEnd p⟩]
    else []

theorem State.setExpected_eq (s : State) (p : Ply) (ep : Epoch) (c : Pos) (k : Int) :
    s.setExpected p ep c k =
      (s.updMark p (fun m => { m with expected := some ⟨posShift c (rowDistance ep.repeatUm k), k⟩ })).setTrk
        { s.trk with schedule := s.windowed p ep c k } := by
  unfold State.setExpected State.windowed
  dsimp only
  have hrun : ∀ f g, ((s.updMark p f).unschedule g).running = s.running := fun _ _ => rfl
  rw [hrun]
  split
  · rfl
  · rw [List.append_nil]
    rfl

/-- Ply p is in the mask of the epoch that is open: its sync state is not OFF (Table 2-2). -/
def State.inEpoch (s : State) (p : Ply) : Prop := ∃ e, s.trk.epoch = some e ∧ inMask e.mask p = true

theorem State.inEpoch.sync_ne_off {s : State} {p : Ply} (h : s.inEpoch p) : s.sync p ≠ .off := by
  obtain ⟨e, he, hmask⟩ := h
  unfold State.sync
  simp only [he, hmask, if_true]
  split
  · simp
  · split_ifs <;> simp

/-- What the register judgement makes of a ply's state (R31 to R33). -/
def MarkPly.judged (m : MarkPly) (set : PlySettings) (e : Int) : MarkPly :=
  if |e| ≤ (set.t : Int) then
    { m with
      trend := trendAfter m.trend e
      drift := decide (0 < set.driftLimit) && decide (16 * (set.driftLimit : Int) ≤ |trendAfter m.trend e|) }
  else { m with counts := { m.counts with outOfTolerance := satAdd m.counts.outOfTolerance 1 } }

/-- The state with the register judgement entered, DRIFT not yet raised. -/
def State.withJudged (s : State) (p : Ply) (e : Int) : State := s.updMark p (fun m => m.judged (s.plies.get p) e)

/-- The judgement of a mark, and DRIFT where the drift condition starts (R33). -/
theorem State.judgeMark_eq {s : State} {p : Ply} (h : s.inEpoch p) (e : Int) :
    s.judgeMark p e =
      if ((s.marks.get p).judged (s.plies.get p) e).drift && !(s.marks.get p).drift then (s.withJudged p e).raiseBoth .drift
      else s.withJudged p e := by
  have hm : ∀ f, ((s.updMark p f).marks.get p) = f (s.marks.get p) := fun f => by simp [State.updMark]
  unfold State.judgeMark
  by_cases he : |e| ≤ ((s.plies.get p).t : Int)
  · have hnow : (s.updMark p (fun m => { m with trend := trendAfter m.trend e })).driftNow p =
        ((s.marks.get p).judged (s.plies.get p) e).drift := by
      have hsync : (s.updMark p (fun m => { m with trend := trendAfter m.trend e })).sync p ≠ .off :=
        State.inEpoch.sync_ne_off (s := s.updMark p _) h
      unfold State.driftNow MarkPly.judged
      rw [if_pos he, hm, decide_eq_true hsync, Bool.true_and]
      rfl
    have hjudged : s.updMark p (fun m =>
        { m with trend := trendAfter m.trend e, drift := ((s.marks.get p).judged (s.plies.get p) e).drift }) =
        s.withJudged p e := by
      unfold State.withJudged State.updMark
      simp only [MarkPly.judged, if_pos he]
    rw [if_pos he]
    unfold State.testDrift
    dsimp only
    rw [hnow, hm, State.updMark_updMark, hjudged]
  · have hjudged : (s.updMark p fun m =>
        { m with counts := { m.counts with outOfTolerance := satAdd m.counts.outOfTolerance 1 } }) = s.withJudged p e := by
      unfold State.withJudged
      simp only [MarkPly.judged, if_neg he]
    have hdrift : ((s.marks.get p).judged (s.plies.get p) e).drift = (s.marks.get p).drift := by
      simp only [MarkPly.judged, if_neg he]
    rw [if_neg he, hjudged, hdrift]
    simp

theorem State.core_judgeMark {s : State} {p : Ply} (h : s.inEpoch p) (e : Int) :
    (s.judgeMark p e).core = (s.withJudged p e).core := by
  rw [State.judgeMark_eq h]
  split <;> simp

theorem State.signals_judgeMark {s : State} {p : Ply} (h : s.inEpoch p) (e : Int) :
    (s.judgeMark p e).signals =
      if ((s.marks.get p).judged (s.plies.get p) e).drift && !(s.marks.get p).drift then s.signals.raise s.portAbsent .drift
      else s.signals := by
  rw [State.judgeMark_eq h]
  split
  · exact signals_raiseBoth _ (by decide)
  · rfl

/-- The Mark Unit's own part of a mark given to row k: all but the form report (R24, R31 to R35, R37). -/
def State.markOwn (s : State) (p : Ply) (ep : Epoch) (c : Pos) (k : Nat) (e : Int) : State :=
  ((((s.acceptMark p c (some ⟨k, e⟩) (some ⟨k, e⟩) (rowDistance ep.repeatUm k)).judgeMark p e).markSeen p).setExpected p ep
    c k).updMark p (fun m => { m with lastRow := some k })

theorem State.markForRow_eq (s : State) (p : Ply) (ep : Epoch) (c : Pos) (k : Nat) (e : Int) :
    s.markForRow p ep c k e = (s.markOwn p ep c k e).formReport p k (.mark c e) c (s.markCauses p c e) := rfl

/-- The Mark Unit's own part of a flywheel given to row k (R36, R37). -/
def State.flywheelOwn (s : State) (p : Ply) (ep : Epoch) (pos : Pos) (k : Nat) : State :=
  let m := min ((s.marks.get p).missed + 1) 255
  let s := s.updMark p (fun x =>
    { x with
      missed := m
      counts := { x.counts with flywheel := satAdd x.counts.flywheel 1 }
      spacing := some ⟨pos, rowDistance ep.repeatUm k⟩
      lastRow := some k })
  let s := if m = 8 then s.startLevel (.markLost p) else s
  s.setExpected p ep pos k

/-- The causes of a flywheel's form report (R30, R36). -/
def State.flywheelCauses (s : State) (p : Ply) (pos : Pos) : CauseSet :=
  (if s.isSpoiled p pos then CauseSet.insert 0 .splice else 0) |||
    (if 2 ≤ min ((s.marks.get p).missed + 1) 255 then CauseSet.insert 0 .noMark else 0)

theorem State.flywheelForRow_eq (s : State) (p : Ply) (ep : Epoch) (pos : Pos) (k : Nat) :
    s.flywheelForRow p ep pos k =
      (s.flywheelOwn p ep pos k).formReport p k (.flywheel pos) pos (s.flywheelCauses p pos) := rfl

/-- The capture once the form is taken: an accepted mark is offered to it (R17). -/
def Capture.withForm (cap : Capture) (p : Ply) (k : Nat) (c : Pos) : Assignment → Capture
  | .mark _ e => cap.offered p ⟨some ⟨k, e⟩, c⟩
  | _ => cap

/-- The signals once the form is taken: DRIFT where the drift condition starts (R33), the end of MARK_LOST at an accepted mark and
its start at the eighth miss (R37). -/
def State.formSignals (s : State) (p : Ply) (ep : Epoch) (k : Nat) (a : Assignment) : Signals :=
  match a with
  | .mark _ _ =>
    (if (s.formMark p ep k a).drift && !(s.marks.get p).drift then s.signals.raise s.portAbsent .drift
      else s.signals).finish (.markLost p)
  | _ => if (s.formMark p ep k a).missed = 8 then s.signals.start (.markLost p) else s.signals

/-- In `u` the Mark Unit has taken, from `s`, ply p's form `a` at cue position `c` for row k, and no other block has done
anything: the core is that of `s` but for the ply's marks, the capture and the window, and the signals follow. -/
structure Taken (s u : State) (p : Ply) (ep : Epoch) (k : Nat) (c : Pos) (a : Assignment) : Prop where
  core : u.core = ((s.setMarks (s.marks.set p (s.formMark p ep k a))).setTrk
    { s.trk with
      capture := s.trk.capture.withForm p k c a
      schedule := s.windowed p ep c k }).core
  signals : u.signals = s.formSignals p ep k a

/-- Ply p's state with the entries of an accepted mark made, its judgement to come (R24, R25). -/
def MarkPly.accepted (m : MarkPly) (c : Pos) (row : Option RowError) (g : Int) : MarkPly :=
  { m with
    counts := { m.counts with accepted := satAdd m.counts.accepted 1 }
    last := some ⟨c, row⟩
    spacing := some ⟨c, g⟩ }

theorem State.acceptMark_eq (s : State) (p : Ply) (c : Pos) (row captured : Option RowError) (g : Int) :
    s.acceptMark p c row captured g =
      (s.updMark p (fun m => m.accepted c row g)).setTrk
        { s.trk with capture := s.trk.capture.offered p ⟨captured, c⟩ } :=
  State.offerCapture_eq _ _ _

theorem State.formMark_mark (s : State) (p : Ply) (ep : Epoch) (c : Pos) (k : Nat) (e : Int) :
    s.formMark p ep k (.mark c e) =
      { ((s.marks.get p).accepted c (some ⟨k, e⟩) (rowDistance ep.repeatUm k)).judged (s.plies.get p) e with
        missed := 0
        expected := some ⟨posShift c (rowDistance ep.repeatUm k), k⟩
        lastRow := some k } := by
  unfold State.formMark MarkPly.judged MarkPly.accepted trendAfter
  by_cases he : |e| ≤ ((s.plies.get p).t : Int) <;> simp [he, posShift]

theorem core_markSeen_judgeMark {s : State} {p : Ply} (h : s.inEpoch p) (e : Int) :
    ((s.judgeMark p e).markSeen p).core = ((s.withJudged p e).updMark p (fun m => { m with missed := 0 })).core := by
  have hcore := State.core_judgeMark h e
  have hmarks : (s.judgeMark p e).marks = (s.withJudged p e).marks := core_field State.marks (fun _ => rfl) hcore
  unfold State.markSeen State.updMark
  rw [core_endLevel, core_setMarks, core_setMarks, hcore, hmarks]

/-- What setting E does depends on the core alone. -/
theorem core_setExpected {u v : State} (h : u.core = v.core) (p : Ply) (ep : Epoch) (c : Pos) (k : Int) :
    (u.setExpected p ep c k).core = (v.setExpected p ep c k).core := by
  have hmarks : u.marks = v.marks := core_field State.marks (fun _ => rfl) h
  have htrk : u.trk = v.trk := core_field State.trk (fun _ => rfl) h
  have hwindow : u.windowed p ep c k = v.windowed p ep c k :=
    core_field (fun s => s.windowed p ep c k) (fun _ => rfl) h
  rw [State.setExpected_eq, State.setExpected_eq, htrk, hwindow]
  simp only [State.updMark, core_setMarks, core_setTrk, h, hmarks]

theorem core_updMark {u v : State} (h : u.core = v.core) (p : Ply) (f : MarkPly → MarkPly) :
    (u.updMark p f).core = (v.updMark p f).core := by
  have hmarks : u.marks = v.marks := core_field State.marks (fun _ => rfl) h
  simp only [State.updMark, core_setMarks, h, hmarks]

theorem signals_setExpected (s : State) (p : Ply) (ep : Epoch) (c : Pos) (k : Int) :
    (s.setExpected p ep c k).signals = s.signals := by
  rw [State.setExpected_eq]
  rfl

theorem State.markOwn_taken {s : State} {p : Ply} (h : s.inEpoch p) (ep : Epoch) (c : Pos) (k : Nat) (e : Int) :
    Taken s (s.markOwn p ep c k e) p ep k c (.mark c e) := by
  have hform := s.formMark_mark p ep c k e
  have hdrift : (s.formMark p ep k (.mark c e)).drift = (((s.marks.get p).accepted c (some ⟨k, e⟩)
      (rowDistance ep.repeatUm k)).judged (s.plies.get p) e).drift := by rw [hform]
  have haccept := s.acceptMark_eq p c (some ⟨k, e⟩) (some ⟨k, e⟩) (rowDistance ep.repeatUm k)
  unfold State.markOwn
  generalize s.acceptMark p c (some ⟨k, e⟩) (some ⟨k, e⟩) (rowDistance ep.repeatUm k) = u at haccept
  have hu : u.inEpoch p := by rw [haccept]; exact h
  have hmark : u.marks.get p = (s.marks.get p).accepted c (some ⟨k, e⟩) (rowDistance ep.repeatUm k) := by
    rw [haccept]
    simp [State.updMark]
  have hsignals := State.signals_judgeMark hu e
  refine ⟨?_, ?_⟩
  · rw [core_updMark (core_setExpected (core_markSeen_judgeMark hu e) p ep c k), State.setExpected_eq, haccept, hform]
    simp only [State.withJudged, State.updMark, State.windowed, core_setMarks, core_setTrk, State.setTrk_marks,
      State.setTrk_trk, State.setTrk_plies, State.setMarks_marks, State.setMarks_plies,
      PerPly.get_set, PerPly.set_set, if_true, State.setMarks_twice, State.setTrk_twice, State.setTrk_then_setMarks]
    rfl
  · have hseen : ((u.judgeMark p e).markSeen p).signals = (u.judgeMark p e).signals.finish (.markLost p) :=
      signals_endLevel _ _
    show (((u.judgeMark p e).markSeen p).setExpected p ep c k).signals = _
    have hplies : u.plies = s.plies := by rw [haccept]; rfl
    rw [signals_setExpected, hseen, hsignals, hmark, hplies, ← hdrift, haccept]
    rfl

theorem State.flywheelOwn_taken (s : State) (p : Ply) (ep : Epoch) (c : Pos) (k : Nat) :
    Taken s (s.flywheelOwn p ep c k) p ep k c (.flywheel c) := by
  have hcore : ∀ u : State, (if min ((s.marks.get p).missed + 1) 255 = 8 then u.startLevel (.markLost p) else u).core =
      u.core := fun u => by split <;> simp
  have hsignals : ∀ u : State, (if min ((s.marks.get p).missed + 1) 255 = 8 then u.startLevel (.markLost p) else u).signals =
      if min ((s.marks.get p).missed + 1) 255 = 8 then u.signals.start (.markLost p) else u.signals :=
    fun u => by split <;> simp
  unfold State.flywheelOwn
  refine ⟨?_, ?_⟩
  · rw [core_setExpected (hcore _), State.setExpected_eq]
    simp only [State.updMark, State.windowed, core_setMarks, core_setTrk, State.setMarks_marks,
      State.setMarks_plies, PerPly.get_set, PerPly.set_set, if_true, State.setMarks_twice]
    rfl
  · rw [signals_setExpected, hsignals]
    rfl

/-! ### What the form taken is, field by field -/

section
variable {s u : State} {p : Ply} {ep : Epoch} {k : Nat} {c : Pos} {a : Assignment}

theorem Taken.field {α : Type} (h : Taken s u p ep k c a) (f : State → α) (hf : ∀ x : State, f x.core = f x) :
    f u = f ((s.setMarks (s.marks.set p (s.formMark p ep k a))).setTrk
      { s.trk with
        capture := s.trk.capture.withForm p k c a
        schedule := s.windowed p ep c k }) := core_field f hf h.core

end

end Sys2Proof.Machine

namespace Sys2Proof.Machine

theorem filter_erase_of_false {α : Type} [DecidableEq α] (f : α → Bool) {x : α} (hx : f x = false) (l : List α) :
    (l.erase x).filter f = l.filter f := by
  rw [← List.erase_filter, List.erase_of_not_mem]
  simp [hx]

/-- The window end taken makes no difference to the schedule once the window is set anew. -/
theorem State.windowed_erase {s : State} {p : Ply} {w : Scheduled} (hw : w.ev = .windowEnd p) (ep : Epoch) (c : Pos)
    (k : Int) :
    (s.setTrk { s.trk with schedule := s.trk.schedule.erase w }).windowed p ep c k = s.windowed p ep c k := by
  unfold State.windowed
  congr 1
  exact filter_erase_of_false _ (by simp [hw]) _

theorem State.windowed_windows (s : State) (p : Ply) (ep : Epoch) (c : Pos) (k : Int) :
    (s.windowed p ep c k).filter (fun y => decide (y.ev = .windowEnd p)) =
      if s.running.isSome then
        [⟨posFwd (posShift c (rowDistance ep.repeatUm k)) (effectiveWindow (s.plies.get p).w ep.rtMin + 1), .windowEnd p⟩]
      else [] := by
  unfold State.windowed
  rw [List.filter_append, List.filter_filter]
  split <;> simp

theorem State.mem_windowed {s : State} {p : Ply} {ep : Epoch} {c : Pos} {k : Int} {y : Scheduled}
    (hy : y ∈ s.windowed p ep c k) : y ∈ s.trk.schedule ∨ y.ev = .windowEnd p := by
  unfold State.windowed at hy
  rcases List.mem_append.1 hy with hy | hy
  · exact .inl (List.mem_filter.1 hy).1
  · split at hy
    · exact .inr (by rw [List.mem_singleton.1 hy])
    · cases hy

/-- In `t` as in `u` stands what the Mark Unit has taken: its plies, the capture, DRIFT and MARK_LOST of ply p; and ply p's window,
where a job is RUNNING. -/
structure SameMarks (u t : State) (p : Ply) : Prop where
  marks : t.marks = u.marks
  capture : t.trk.capture = u.trk.capture
  drift : ∀ q, t.signals.pending q .drift = u.signals.pending q .drift
  held : t.signals.held (.markLost p) = u.signals.held (.markLost p)
  latched : t.signals.latched (.markLost p) = u.signals.latched (.markLost p)
  window : t.trk.schedule.filter (fun y => decide (y.ev = .windowEnd p)) =
    if t.running.isSome then u.trk.schedule.filter (fun y => decide (y.ev = .windowEnd p)) else []
  running : t.running.isSome = true → u.running.isSome = true

theorem SameMarks.refl {u : State} {p : Ply} (h : u.running.isSome = true) : SameMarks u u p :=
  ⟨rfl, rfl, fun _ => rfl, rfl, rfl, by rw [h]; rfl, fun _ => h⟩

theorem SameMarks.trans {u v t : State} {p : Ply} (h : SameMarks u v p) (k : SameMarks v t p) : SameMarks u t p := by
  refine ⟨k.marks.trans h.marks, k.capture.trans h.capture, fun q => (k.drift q).trans (h.drift q), k.held.trans h.held,
    k.latched.trans h.latched, ?_, fun ht => h.running (k.running ht)⟩
  rw [k.window]
  split <;> rename_i ht
  · rw [h.window, if_pos (k.running ht)]
  · rfl

/-- The cause set of a form report (R30, R31, R36). -/
def State.formCauses (s : State) (p : Ply) (c : Pos) : Assignment → CauseSet
  | .mark _ e => s.markCauses p c e
  | .flywheel _ => s.flywheelCauses p c
  | .none => 0

section
variable {s u t : State} {p : Ply} {ep : Epoch} {k : Nat} {c : Pos} {a : Assignment}

/-- What the Mark Unit has taken, and nothing has changed since, stands as `State.MarkTaken` says. -/
theorem Taken.markTaken (h : Taken s u p ep k c a) (ha : a ≠ .none)
    (hlost : ∀ x, a = .flywheel x → s.signals.held (.markLost p) = true → s.signals.latched (.markLost p) = true)
    (hsame : SameMarks u t p) : s.MarkTaken t p ep k c a := by
  have hmarks : t.marks = s.marks.set p (s.formMark p ep k a) := hsame.marks.trans (h.field State.marks fun _ => rfl)
  have hcap : t.trk.capture = s.trk.capture.withForm p k c a :=
    hsame.capture.trans (h.field (fun x => x.trk.capture) fun _ => rfl)
  have hrun : u.running = s.running := h.field State.running fun _ => rfl
  have hwindow : t.trk.schedule.filter (fun y => decide (y.ev = .windowEnd p)) = if t.running.isSome then
      [⟨posFwd (posShift c (rowDistance ep.repeatUm k)) (effectiveWindow (s.plies.get p).w ep.rtMin + 1), .windowEnd p⟩]
      else [] := by
    rw [hsame.window, h.field (fun x => x.trk.schedule) fun _ => rfl]
    split <;> rename_i ht
    · exact (s.windowed_windows p ep c k).trans (if_pos (hrun ▸ hsame.running ht))
    · rfl
  have hdrift := hsame.drift
  have hheld := hsame.held
  have hlatched := hsame.latched
  rw [h.signals] at hdrift hheld hlatched
  refine ⟨hmarks, ?_, fun q hq => ?_, ?_, ?_, hwindow⟩
  · rw [hcap]
    cases a with
    | none => exact absurd rfl ha
    | _ => rfl
  · refine (hdrift q).trans ?_
    cases a with
    | none => exact absurd rfl ha
    | mark c' e =>
      unfold State.formSignals
      dsimp only
      split <;> rename_i hd
      · simp [Signals.finish, Signals.raise, State.signals, hq, hd]
      · rw [Bool.not_eq_true] at hd
        simp [Signals.finish, State.signals, hd]
    | flywheel c' =>
      have hkept : (s.formMark p ep k (.flywheel c')).drift = (s.marks.get p).drift := rfl
      unfold State.formSignals
      dsimp only
      rw [hkept]
      split <;> simp [Signals.start, State.signals]
  · refine hheld.trans ?_
    cases a with
    | none => exact absurd rfl ha
    | mark c' e => simp [State.formSignals, Signals.finish]
    | flywheel c' =>
      unfold State.formSignals
      dsimp only
      split <;> rename_i h8 <;> simp [Signals.start, State.signals, h8]
  · refine hlatched.trans ?_
    cases a with
    | none => exact absurd rfl ha
    | mark c' e =>
      unfold State.formSignals
      dsimp only
      split <;> simp [Signals.finish, Signals.raise, State.signals]
    | flywheel c' =>
      have hl := hlost c' rfl
      unfold State.formSignals
      dsimp only
      split <;> rename_i h8
      · cases hh : s.signals.held (.markLost p) with
        | false =>
          simp [Signals.start, hh, h8]
        | true =>
          have hlat : StopSet.has s.stop.latched (.markLost p) = true := hl hh
          simp [Signals.start, hl hh, hlat]
      · simp [h8]
        rfl

theorem State.isSpurious_of_spacing (hs : ∀ g, (s.marks.get p).spacing = some g → g.dist ≤ 2 * posDiff c g.pos) :
    s.isSpurious p c = false := by
  unfold State.isSpurious
  cases hg : (s.marks.get p).spacing with
  | none => rfl
  | some g =>
    have := hs g hg
    simp only [Spacing.fails, decide_eq_false_iff_not]
    omega

/-- A command that reports a form has the Mark Unit take the form, and the Row Pipeline its report. -/
theorem State.Reports.exec {cmd : Instr} {o0 : Pos} (h : s.Reports cmd p ep o0 k c a) :
    ∃ u, exec cmd s = .next (u.formReport p k a c (s.formCauses p c a)).startSending ∧ Taken s u p ep k c a ∧
      a ≠ .none := by
  obtain ⟨hep, ho0, hmask, ⟨e, rfl, rfl, rfl, htravel, hspacing, hmap, hlast⟩ | ⟨w, x, rfl, hdue, hexp, hrow, rfl, rfl⟩⟩ := h
  · refine ⟨s.markOwn p ep s.trk.h k e, ?_, State.markOwn_taken ⟨ep, hep, hmask⟩ _ _ _ _, by simp⟩
    have htracked : s.trackedMark p ep o0 s.trk.h = s.markForRow p ep s.trk.h k e := by
      have hmapped : mapMark o0 ep.repeatUm (s.pipe.nextIndex.getD (lastRowIndex + 1)) (posFwd s.trk.h (s.plies.get p).d) =
        ((k : Int), e) := hmap
      unfold State.trackedMark
      simp only [hmapped, Int.toNat_natCast]
      rw [if_neg (by omega)]
      cases hi : (s.marks.get p).lastRow with
      | none => rfl
      | some i =>
        have := hlast i hi
        exact if_neg (by omega)
    have htake : s.takeMark p = s.trackedMark p ep o0 s.trk.h := by
      simp [State.takeMark, htravel, hep, hmask, State.isSpurious_of_spacing hspacing, ho0]
    show finish (s.takeMark p) = _
    rw [htake, htracked, State.markForRow_eq]
    rfl
  · have hw : w.ev = .windowEnd p := by
      have := List.find?_some hdue
      simp only [Bool.and_eq_true, decide_eq_true_eq] at this
      exact this.1
    have hrow' : x.row = (k : Int) - 1 := by omega
    let s' := s.setTrk { s.trk with schedule := s.trk.schedule.erase w }
    have hfly : s'.flywheel p = s'.flywheelForRow p ep x.pos k := by
      have hep' : s'.trk.epoch = some ep := hep
      have hexp' : (s'.marks.get p).expected = some x := hexp
      unfold State.flywheel
      simp only [hep', hexp', hrow', sub_add_cancel, Int.toNat_natCast]
      exact if_neg (by omega)
    refine ⟨s'.flywheelOwn p ep x.pos k, ?_, ?_, by simp⟩
    · show finish (s.fireWindow p) = _
      unfold State.fireWindow State.fire
      rw [hdue]
      show finish (s'.flywheel p) = _
      rw [hfly, State.flywheelForRow_eq]
      rfl
    · obtain ⟨hcore, hsignals⟩ := s'.flywheelOwn_taken p ep x.pos k
      refine ⟨?_, hsignals⟩
      rw [hcore, State.windowed_erase hw]
      rfl

end

end Sys2Proof.Machine

namespace Sys2Proof.Machine

/-! ## Forms that are discarded (R77) -/

theorem openRows_of_not_running {s : State} (h : s.running = none) (n : Nat) : openRows n s = s := by
  cases n with
  | zero => rfl
  | succ n =>
    unfold openRows
    rw [h]
    cases s.pipe.nextIndex <;> cases s.trk.epoch <;> rfl

theorem State.assignReport_discards {s : State} {p : Ply} {k : Nat}
    (h : ∀ r x, s.row k = some r → r.plyRec p = some x → r.stage ≠ .opened ∨ x.assign ≠ .none) (a : Assignment) (c : Pos)
    (causes : CauseSet) : s.assignReport p k a c causes = s.discardForm := by
  unfold State.assignReport
  cases hr : s.row k with
  | none => rfl
  | some r =>
    dsimp only
    cases hx : r.plyRec p with
    | none => rfl
    | some x => exact if_neg (not_and_or.2 (h r x hr hx))

theorem State.formReport_discards {s : State} {p : Ply} {k : Nat}
    (h : s.audit.condition ≠ .normal ∨
      ((∀ n, s.pipe.nextIndex = some n → k < n ∨ s.running = none) ∧
       (∀ r x, s.row k = some r → r.plyRec p = some x → r.stage ≠ .opened ∨ x.assign ≠ .none))) (a : Assignment) (c : Pos)
    (causes : CauseSet) : s.formReport p k a c causes = s.discardForm := by
  unfold State.formReport
  rcases h with h | ⟨hnext, hrow⟩
  · exact if_pos h
  · have hassign := s.assignReport_discards hrow a c causes
    split
    · rfl
    · cases hn : s.pipe.nextIndex with
      | none => exact hassign
      | some n =>
        dsimp only
        split
        · rw [openRows_of_not_running ((hnext n hn).resolve_left (by omega))]
          exact hassign
        · exact hassign

/-- A form that no row is given is counted in FORMS_DISCARDED alone (R77); the Mark Unit takes it all the same. -/
theorem form_discarded {s : State} {cmd : Instr} {p : Ply} {ep : Epoch} {o0 : Pos} {k : Nat} {c : Pos} {a : Assignment}
    (h : s.Reports cmd p ep o0 k c a) (hcons : s.stop.Consistent)
    (hdiscard : s.audit.condition ≠ .normal ∨
      ((∀ n, s.pipe.nextIndex = some n → k < n ∨ s.running = none) ∧
       (∀ r x, s.row k = some r → r.plyRec p = some x → r.stage ≠ .opened ∨ x.assign ≠ .none))) :
    ∃ t, exec cmd s = .next t ∧
      t.pipe = { s.pipe with formsDiscarded := satAdd s.pipe.formsDiscarded 1 } ∧ t.requests = s.requests ∧
      t.readers = s.readers ∧ t.gen = s.gen ∧ t.jobs = s.jobs ∧ t.audit = s.audit ∧ t.drivers = s.drivers ∧
      t.zones = s.zones ∧ s.MarkTaken t p ep k c a := by
  obtain ⟨u, hexec, htaken, ha⟩ := h.exec
  have hcond : u.audit = s.audit := htaken.field State.audit fun _ => rfl
  have hpipe : u.pipe = s.pipe := htaken.field State.pipe fun _ => rfl
  have hrun : u.running = s.running := htaken.field State.running fun _ => rfl
  have hrow : u.row k = s.row k := htaken.field (fun x => x.row k) fun _ => rfl
  rw [← hcond, ← hpipe, ← hrun, ← hrow] at hdiscard
  rw [State.formReport_discards hdiscard] at hexec
  refine ⟨_, hexec, ?_, htaken.field State.requests fun _ => rfl, htaken.field State.readers fun _ => rfl,
    htaken.field State.gen fun _ => rfl, htaken.field State.jobs fun _ => rfl, hcond,
    htaken.field State.drivers fun _ => rfl, htaken.field State.zones fun _ => rfl, ?_⟩
  · rw [← hpipe]
    rfl
  · refine htaken.markTaken ha (fun _ _ => hcons.latched_of_held) ?_
    have hsignals : u.discardForm.startSending.signals = u.signals := signals_startSending _
    refine ⟨rfl, rfl, fun q => by rw [hsignals], by rw [hsignals], by rw [hsignals], ?_, fun hr => hr⟩
    show _ = if u.running.isSome then _ else _
    cases hr : u.running with
    | some j => rfl
    | none =>
      refine (congrArg _ (htaken.field (fun x => x.trk.schedule) fun _ => rfl)).trans ?_
      exact (s.windowed_windows p ep c k).trans (if_neg (by rw [← hrun, hr]; simp))

end Sys2Proof.Machine

namespace Sys2Proof.Machine

/-! ## Draws (R58 to R61, R65, R66, R69) -/

/-- The draw is made from the feed, of a draw that is not complete (R65). -/
def State.drawsList (s : State) (j : Job) : Bool :=
  decide (s.gen.phase = .sequence ∧ s.gen.complete = false ∧ j.plan.source = .list)

/-- The draw numbers a lane in the SEQUENCE phase: it takes a draw count (R59, R65). -/
def State.drawsNow (s : State) (j : Job) : Bool := decide (s.gen.phase = .sequence ∧ 0 < s.drawQuestion j)

/-- The list count after the draw (R65). -/
def State.listCountAfter (s : State) (j : Job) : Nat :=
  if s.drawsList j then s.gen.listCount + s.drawQuestion j else s.gen.listCount

/-- The feed after the draw (R65). -/
def State.feedAfter (s : State) (j : Job) : List Nat :=
  if s.drawsList j then s.gen.feed.drop (s.drawQuestion j) else s.gen.feed

/-- The draw count after the draw (R59, R65). -/
def State.drawCountAfter (s : State) (j : Job) : Nat := if s.drawsNow j then s.gen.r + 1 else s.gen.r

/-- The draw makes the plan's draw complete (R61). -/
def State.doneAfter (s : State) (j : Job) : Bool :=
  s.drawsNow j && (match j.plan.source with
    | .sequence => j.plan.sequenceDone (s.drawCountAfter j)
    | .list => decide (s.listCountAfter j = j.plan.count))

/-- The draw leaves a lane starved of feed numbers (R66). -/
def State.starvedAfter (s : State) (j : Job) : Bool :=
  s.drawsList j && decide (s.drawQuestion j < j.plan.lanes) && decide (s.listCountAfter j ≠ j.plan.count)

/-- The Generator after the draw (R59, R61, R65). -/
def State.genAfter (s : State) (j : Job) : Generator :=
  { s.gen with
    r := s.drawCountAfter j
    listCount := s.listCountAfter j
    feed := s.feedAfter j
    complete := s.gen.complete || s.doneAfter j
    phase := if s.doneAfter j = true ∧ j.plan.accounting = .strict then .makeUp else s.gen.phase }

/-- The job's tallies after the draw (R59, R65, R69). -/
def State.talliesAfter (s : State) (j : Job) (t : JobTallies) : JobTallies :=
  { t with
    drawn := if 0 < s.drawQuestion j then satAdd t.drawn (s.drawQuestion j) else t.drawn
    makeUpDrawn := if s.gen.phase = .makeUp ∧ 0 < s.drawQuestion j then satAdd t.makeUpDrawn (s.drawQuestion j)
      else t.makeUpDrawn }

/-- The WAITING entries of the job, oldest first. -/
def State.waitingOf (s : State) (j : Job) : List MakeUpEntry := s.audit.queue.filter (fun e => e.isWaiting j.id)

/-- The numbers the draw gives its lanes (R59, R60, R65, R69). -/
def State.numbersDrawn (s : State) (j : Job) : List (Option LaneNumber) :=
  let plan := j.plan
  let padded := fun (given : List (Option LaneNumber)) => given ++ List.replicate (plan.lanes - given.length) none
  let numbered := fun (n : Nat) (source : LaneSource) =>
    some { n := n, str := plan.printed n, checked := decide (plan.check ≠ .none), source := source : LaneNumber }
  match s.gen.phase with
  | .makeUp => padded (((s.waitingOf j).take (s.drawQuestion j)).map (fun e => numbered e.number (.makeUp e.attempts)))
  | .sequence => if s.gen.complete then padded [] else (match plan.source with
    | .sequence => plan.numbersAt s.gen.r
    | .list => padded ((s.gen.feed.take (s.drawQuestion j)).map (fun x => numbered x .list)))

/-- The blank cause of the draw where it does not fill the row (Table 5-1). -/
def State.causeDrawn (s : State) (j : Job) : BlankCause :=
  match s.gen.phase with
  | .makeUp => .waitMakeUp
  | .sequence => (match j.plan.source with
    | .sequence => j.plan.endCause
    | .list => if s.starvedAfter j then .feedStarved else .countEnd)

/-- What a draw for job `j` makes of `u`: the Generator, the job's tallies, the queue and the OPEN recovery record follow, and the
feed's reports are made; and the lanes drawn. -/
structure Drew (u v : State) (j : Job) (d : Drawn) : Prop where
  frame : DrawFrame u v
  gen : v.gen = u.genAfter j
  jobs : v.jobs = u.jobs.map (fun x => if x.id = j.id then { x with tallies := u.talliesAfter j x.tallies } else x)
  queue : v.audit.queue = u.audit.queue.map (fun e =>
    if u.gen.phase = .makeUp ∧ e ∈ (u.waitingOf j).take (u.drawQuestion j) then { e with state := .issued } else e)
  records : v.audit.records = u.audit.records.map (fun z => if 0 < u.drawQuestion j ∧ z.job = j.id ∧ z.state = .opened then
    { z with r := u.drawCountAfter j, listCount := u.listCountAfter j, drawn := z.drawn + u.drawQuestion j } else z)
  signals : v.signals =
    let fed := if u.gen.lowMark ≤ u.gen.feed.length ∧ (u.feedAfter j).length < u.gen.lowMark then
      u.signals.raise u.portAbsent .feedLow else u.signals
    if u.starvedAfter j then fed.latch .feedStarved else fed
  numbers : d.lanes.map LaneRec.number = u.numbersDrawn j
  fresh : ∀ l ∈ d.lanes, l.marked = false ∧ l.causes = 0
  blank : d.blank = if u.drawQuestion j = j.plan.lanes then none else some (u.causeDrawn j)

/-! ### Lanes -/

theorem countNumbered_eq (ls : List LaneRec) : countNumbered ls = ((ls.map LaneRec.number).filter Option.isSome).length := by
  rw [List.filter_map, List.length_map]
  rfl

theorem sequenceLanes_numbers (plan : Plan) (r : Nat) : (plan.sequenceLanes r).map LaneRec.number = plan.numbersAt r := by
  unfold Plan.sequenceLanes Plan.numbersAt
  rw [List.map_map]
  refine List.map_congr_left fun l _ => ?_
  simp only [Function.comp]
  cases plan.setIndex r l <;> rfl

theorem padLanes_numbers (lanes : Nat) (given : List LaneRec) :
    (padLanes lanes given).map LaneRec.number = given.map LaneRec.number ++ List.replicate (lanes - given.length) none := by
  simp [padLanes, blankLane]

theorem sequenceLanes_fresh {plan : Plan} {r : Nat} {l : LaneRec} (h : l ∈ plan.sequenceLanes r) :
    l.marked = false ∧ l.causes = 0 := by
  obtain ⟨i, -, rfl⟩ := List.mem_map.1 h
  cases plan.setIndex r i <;> exact ⟨rfl, rfl⟩

theorem padLanes_fresh {α : Type} {plan : Plan} {given : List α} {n : α → Nat} {source : α → LaneSource} {l : LaneRec}
    (h : l ∈ padLanes plan.lanes (given.map (fun x => plan.laneOf (n x) (source x)))) : l.marked = false ∧ l.causes = 0 := by
  rcases List.mem_append.1 h with h | h
  · obtain ⟨x, -, rfl⟩ := List.mem_map.1 h
    exact ⟨rfl, rfl⟩
  · rw [List.eq_of_mem_replicate h]
    exact ⟨rfl, rfl⟩

/-- A row is full exactly where the draw numbered every lane. -/
theorem blankUnlessFull_eq {lanes : List LaneRec} {n : Nat} (hn : countNumbered lanes = n) (cause : BlankCause) :
    blankUnlessFull lanes cause = if n = lanes.length then none else some cause := by
  unfold blankUnlessFull
  refine if_congr ?_ rfl rfl
  rw [← hn, List.all_eq_true]
  exact List.length_filter_eq_length_iff.symm

theorem countNumbered_padLanes {α : Type} (plan : Plan) (given : List α) (n : α → Nat) (source : α → LaneSource) :
    countNumbered (padLanes plan.lanes (given.map (fun x => plan.laneOf (n x) (source x)))) = given.length := by
  unfold padLanes
  rw [countNumbered_append, countNumbered_blank, countNumbered, List.filter_map]
  simp [Function.comp_def, Plan.laneOf, freshLane, LaneRec.isNumbered]

theorem length_padLanes {lanes : Nat} {given : List LaneRec} (h : given.length ≤ lanes) :
    (padLanes lanes given).length = lanes := by
  simp [padLanes]
  omega

/-- A lane number that a sequence gives a row: some where the row has a set index (R55, R56). -/
theorem numbersAt_eq_replicate {plan : Plan} {r : Nat}
    (h : ((List.range plan.lanes).filter (fun l => (plan.setIndex r l).isSome)).length = 0) :
    plan.numbersAt r = List.replicate plan.lanes none := by
  have hnone : ∀ l ∈ List.range plan.lanes, plan.setIndex r l = none := by
    intro l hl
    have := List.filter_eq_nil_iff.1 (List.eq_nil_of_length_eq_zero h) l hl
    simpa using this
  refine List.eq_replicate_iff.2 ⟨by simp [Plan.numbersAt], fun x hx => ?_⟩
  obtain ⟨l, hl, rfl⟩ := List.mem_map.1 hx
  rw [hnone l hl]
  rfl

/-! ### The make-up queue -/

/-- The first WAITING entries issued, in a queue with no entry twice (R69). -/
theorem issueEntries_eq (job : Nat) {q : List MakeUpEntry} (hq : q.Nodup) (n : Nat) :
    issueEntries job n q =
      q.map (fun e => if e ∈ (q.filter (fun e => e.isWaiting job)).take n then { e with state := .issued } else e) := by
  induction q generalizing n with
  | nil => cases n <;> rfl
  | cons e q ih =>
    obtain ⟨he, hq⟩ := List.nodup_cons.1 hq
    cases n with
    | zero => simp [issueEntries]
    | succ n =>
      unfold issueEntries
      split <;> rename_i hw
      · have hfilter : (e :: q).filter (fun e => e.isWaiting job) = e :: q.filter (fun e => e.isWaiting job) :=
          List.filter_cons_of_pos hw
        rw [ih hq n, hfilter, List.take_succ_cons, List.map_cons, if_pos List.mem_cons_self]
        refine congrArg _ (List.map_congr_left fun x hx => ?_)
        have hxe : x ≠ e := fun h => he (h ▸ hx)
        simp [hxe]
      · have hfilter : (e :: q).filter (fun e => e.isWaiting job) = q.filter (fun e => e.isWaiting job) :=
          List.filter_cons_of_neg hw
        rw [ih hq (n + 1), hfilter, List.map_cons, if_neg]
        exact fun h => he (List.mem_filter.1 (List.mem_of_mem_take h)).1

theorem QueueOk.nodup {q : List MakeUpEntry} (h : QueueOk q) : q.Nodup := h.2.of_map

/-! ### The draws one by one -/

section
variable {s : State} {j : Job}

theorem map_id_of_forall {α : Type} {f : α → α} {l : List α} (h : ∀ x ∈ l, f x = x) : l.map f = l := by
  conv_rhs => rw [← List.map_id l]
  exact List.map_congr_left h

/-- A draw that numbers no lane and is none from the feed leaves the Generator as it was. -/
theorem State.genAfter_idle (hq : s.drawQuestion j = 0) (hl : s.drawsList j = false) : s.genAfter j = s.gen := by
  simp [State.genAfter, State.drawCountAfter, State.drawsNow, State.listCountAfter, State.feedAfter, State.doneAfter, hq, hl]

theorem State.talliesAfter_idle (hq : s.drawQuestion j = 0) (t : JobTallies) : s.talliesAfter j t = t := by
  simp [State.talliesAfter, hq]

/-- A draw that numbers no lane and is none from the feed changes nothing (R60). -/
theorem Drew.idle (hq : s.drawQuestion j = 0) (hl : s.drawsList j = false) {d : Drawn}
    (hnumbers : d.lanes.map LaneRec.number = s.numbersDrawn j) (hfresh : ∀ l ∈ d.lanes, l.marked = false ∧ l.causes = 0)
    (hblank : d.blank = if s.drawQuestion j = j.plan.lanes then none else some (s.causeDrawn j)) : Drew s s j d where
  frame := .refl s
  gen := (s.genAfter_idle hq hl).symm
  jobs := (map_id_of_forall fun x _ => by
    rw [State.talliesAfter_idle hq]
    exact ite_self _).symm
  queue := (map_id_of_forall fun e _ => if_neg (by simp [hq])).symm
  records := (map_id_of_forall fun z _ => if_neg (by simp [hq])).symm
  signals := by
    have hfeed : s.feedAfter j = s.gen.feed := by simp [State.feedAfter, hl]
    have hlow : ¬(s.gen.lowMark ≤ s.gen.feed.length ∧ s.gen.feed.length < s.gen.lowMark) := by omega
    simp [hfeed, hlow, State.starvedAfter, hl]
  numbers := hnumbers
  fresh := hfresh
  blank := hblank

theorem State.drawNone_drew (hp : s.gen.phase = .sequence) (hlanes : 0 < j.plan.lanes) (hq : s.drawQuestion j = 0)
    (hidle : s.gen.complete = true ∨ j.plan.source = .sequence) : Drew s (s.drawNone j).2 j (s.drawNone j).1 := by
  have hl : s.drawsList j = false := by
    rcases hidle with h | h <;> simp [State.drawsList, h]
  refine Drew.idle hq hl ?_ ?_ ?_
  · have hblank : (s.drawNone j).1.lanes.map LaneRec.number = List.replicate j.plan.lanes none := by
      simp [State.drawNone, blankLane]
    rw [hblank]
    unfold State.numbersDrawn
    simp only [hp]
    split
    · simp
    · rename_i hc
      have hs := hidle.resolve_left hc
      have hnone : ((List.range j.plan.lanes).filter (fun l => (j.plan.setIndex s.gen.r l).isSome)).length = 0 := by
        simpa [State.drawQuestion, hp, hc, hs] using hq
      simp only [hs]
      exact (numbersAt_eq_replicate hnone).symm
  · intro l h
    rw [List.eq_of_mem_replicate h]
    exact ⟨rfl, rfl⟩
  · rw [if_neg (by omega)]
    have hstarved : s.starvedAfter j = false := by simp [State.starvedAfter, hl]
    unfold State.causeDrawn
    rw [hp, hstarved]
    unfold State.drawNone
    cases j.plan.source <;> rfl

theorem State.drawQuestion_sequence (hp : s.gen.phase = .sequence) (hc : s.gen.complete = false)
    (hs : j.plan.source = .sequence) : s.drawQuestion j = countNumbered (j.plan.sequenceLanes s.gen.r) := by
  rw [Plan.sequenceLanes_count]
  simp [State.drawQuestion, hp, hc, hs]

theorem State.completionTest_gen (u : State) (j : Job) : (u.completionTest j).gen = { u.gen with
    complete := u.gen.complete || u.drawDone j
    phase := if u.drawDone j = true ∧ j.plan.accounting = .strict then .makeUp else u.gen.phase } := by
  unfold State.completionTest
  cases h : u.drawDone j <;> simp

theorem State.drawSequence_drew (hp : s.gen.phase = .sequence) (hc : s.gen.complete = false)
    (hs : j.plan.source = .sequence) (hq : 0 < s.drawQuestion j) :
    Drew s (s.drawSequence j).2 j (s.drawSequence j).1 := by
  have hcount := s.drawQuestion_sequence hp hc hs
  have hlist : s.drawsList j = false := by simp [State.drawsList, hs]
  have hnow : s.drawsNow j = true := by simp [State.drawsNow, hp, hq]
  have hr : s.drawCountAfter j = s.gen.r + 1 := by simp [State.drawCountAfter, hnow]
  have hfeed : s.feedAfter j = s.gen.feed := by simp [State.feedAfter, hlist]
  have hlc : s.listCountAfter j = s.gen.listCount := by simp [State.listCountAfter, hlist]
  have hdone : s.doneAfter j = j.plan.sequenceDone (s.gen.r + 1) := by simp [State.doneAfter, hnow, hs, hr]
  let u := (s.setGen { s.gen with r := s.gen.r + 1 }).countDraw j.id (countNumbered (j.plan.sequenceLanes s.gen.r))
  have hgen : u.gen = { s.gen with r := s.gen.r + 1 } := rfl
  obtain ⟨g, hg⟩ := u.completionTest_eq j
  have hfinal : (s.drawSequence j).2 = u.completionTest j := rfl
  refine ⟨s.drawSequence_frame j, ?_, ?_, ?_, ?_, ?_, ?_, fun l => sequenceLanes_fresh, ?_⟩
  · have hu : u.drawDone j = j.plan.sequenceDone (s.gen.r + 1) := by
      unfold State.drawDone
      rw [hs]
      rfl
    rw [hfinal, u.completionTest_gen, hu, hgen]
    simp only [State.genAfter, hr, hlc, hfeed, hdone]
  · rw [hfinal, hg]
    refine List.map_congr_left fun x _ => ?_
    rw [← hcount]
    simp [State.talliesAfter, hq, hp]
  · rw [hfinal, hg]
    exact (map_id_of_forall fun e _ => if_neg (by simp [hp])).symm
  · rw [hfinal, hg, hr, hlc]
    refine List.map_congr_left fun z _ => ?_
    rw [← hcount]
    simp only [hq, true_and]
    rfl
  · rw [hfinal, hg]
    have hlow : ¬(s.gen.lowMark ≤ s.gen.feed.length ∧ s.gen.feed.length < s.gen.lowMark) := by omega
    simp only [hfeed, hlow, if_false, State.starvedAfter, hlist, Bool.false_and, Bool.false_eq_true]
    rfl
  · show (j.plan.sequenceLanes s.gen.r).map LaneRec.number = _
    rw [sequenceLanes_numbers]
    simp [State.numbersDrawn, hp, hc, hs]
  · have hlen : (j.plan.sequenceLanes s.gen.r).length = j.plan.lanes := by simp [Plan.sequenceLanes]
    show blankUnlessFull _ _ = _
    rw [blankUnlessFull_eq hcount.symm, hlen]
    simp only [State.causeDrawn, hp, hs]

theorem core_feedReports (u : State) (before : Nat) (starved : Bool) : (u.feedReports before starved).core = u.core := by
  unfold State.feedReports
  dsimp only
  split_ifs <;> simp

theorem signals_feedReports (u : State) (before : Nat) (starved : Bool) : (u.feedReports before starved).signals =
    let fed := if u.gen.lowMark ≤ before ∧ u.gen.feed.length < u.gen.lowMark then u.signals.raise u.portAbsent .feedLow
      else u.signals
    if starved then fed.latch .feedStarved else fed := by
  have hlow : Attention.feedLow ≠ .stop := by decide
  unfold State.feedReports
  dsimp only
  split_ifs <;> simp [signals_raiseBoth _ hlow]

theorem State.drawList_drew (hp : s.gen.phase = .sequence) (hc : s.gen.complete = false) (hs : j.plan.source = .list) :
    Drew s (s.drawList j).2 j (s.drawList j).1 := by
  have hlist : s.drawsList j = true := by simp [State.drawsList, hp, hc, hs]
  have hnow : s.drawsNow j = decide (0 < s.drawQuestion j) := by simp [State.drawsNow, hp]
  have hfeed : s.feedAfter j = s.gen.feed.drop (s.drawQuestion j) := by simp [State.feedAfter, hlist]
  have hlc : s.listCountAfter j = s.gen.listCount + s.drawQuestion j := by simp [State.listCountAfter, hlist]
  have hr : s.drawCountAfter j = if s.drawQuestion j = 0 then s.gen.r else s.gen.r + 1 := by
    simp only [State.drawCountAfter, hnow, decide_eq_true_eq, Nat.pos_iff_ne_zero, ite_not]
  have hle : s.drawQuestion j ≤ j.plan.lanes ∧ s.drawQuestion j ≤ s.gen.feed.length := by
    simp only [State.drawQuestion, hp, hc, hs]
    simp
  have hstarved : s.starvedAfter j = (decide (s.drawQuestion j < j.plan.lanes) &&
      !decide (s.gen.listCount + s.drawQuestion j = j.plan.count)) := by simp [State.starvedAfter, hlist, hlc]
  have hdone : s.doneAfter j = (decide (0 < s.drawQuestion j) && decide (s.gen.listCount + s.drawQuestion j = j.plan.count)) := by
    simp [State.doneAfter, hnow, hs, hlc]
  let u1 := s.setGen { s.gen with
    feed := s.gen.feed.drop (s.drawQuestion j)
    listCount := s.gen.listCount + s.drawQuestion j
    r := if s.drawQuestion j = 0 then s.gen.r else s.gen.r + 1 }
  let u2 := if s.drawQuestion j = 0 then u1 else u1.countDraw j.id (s.drawQuestion j)
  let u3 := u2.feedReports s.gen.feed.length (decide (s.drawQuestion j < j.plan.lanes) &&
    !decide (s.gen.listCount + s.drawQuestion j = j.plan.count))
  have hfinal : (s.drawList j).2 = if s.drawQuestion j = 0 then u3 else u3.completionTest j := rfl
  have h2gen : u2.gen = u1.gen := by
    show (if s.drawQuestion j = 0 then u1 else u1.countDraw j.id (s.drawQuestion j)).gen = _
    split <;> rfl
  have h3gen : u3.gen = u1.gen := (core_field State.gen (fun _ => rfl) (core_feedReports _ _ _)).trans h2gen
  have h3jobs : u3.jobs = u2.jobs := core_field State.jobs (fun _ => rfl) (core_feedReports _ _ _)
  have h3audit : u3.audit = u2.audit := core_field State.audit (fun _ => rfl) (core_feedReports _ _ _)
  have hrest : (s.drawList j).2.jobs = u3.jobs ∧ (s.drawList j).2.audit = u3.audit ∧ (s.drawList j).2.signals = u3.signals := by
    obtain ⟨g, hg⟩ := u3.completionTest_eq j
    rw [hfinal, hg]
    split <;> exact ⟨rfl, rfl, rfl⟩
  obtain ⟨hjobs, haudit, hsignals⟩ := hrest
  refine ⟨s.drawList_frame j, ?_, ?_, ?_, ?_, ?_, ?_, fun l => padLanes_fresh, ?_⟩
  · have h3done : u3.drawDone j = decide (s.gen.listCount + s.drawQuestion j = j.plan.count) := by
      unfold State.drawDone
      rw [hs, h3gen]
      rfl
    rw [hfinal]
    simp only [State.genAfter, hr, hlc, hfeed, hdone]
    by_cases hz : s.drawQuestion j = 0
    · simp only [hz, if_true, h3gen, u1]
      simp
    · rw [if_neg hz, u3.completionTest_gen, h3done, h3gen]
      simp only [u1, hz, Nat.pos_of_ne_zero hz, State.setGen_gen, if_false, decide_true, Bool.true_and]
  · rw [hjobs, h3jobs]
    show (if s.drawQuestion j = 0 then u1 else u1.countDraw j.id (s.drawQuestion j)).jobs = _
    split <;> rename_i hz
    · refine (map_id_of_forall fun x _ => ?_).symm
      rw [State.talliesAfter_idle hz]
      exact ite_self _
    · refine List.map_congr_left fun x _ => ?_
      simp [State.talliesAfter, Nat.pos_of_ne_zero hz, hp]
  · rw [haudit, h3audit]
    have hqueue : u2.audit.queue = s.audit.queue := by
      show (if s.drawQuestion j = 0 then u1 else u1.countDraw j.id (s.drawQuestion j)).audit.queue = _
      split <;> rfl
    rw [hqueue]
    exact (map_id_of_forall fun e _ => if_neg (by simp [hp])).symm
  · rw [haudit, h3audit]
    show (if s.drawQuestion j = 0 then u1 else u1.countDraw j.id (s.drawQuestion j)).audit.records = _
    split <;> rename_i hz
    · exact (map_id_of_forall fun z _ => if_neg (by simp [hz])).symm
    · rw [hr, hlc, if_neg hz]
      refine List.map_congr_left fun z _ => ?_
      simp only [Nat.pos_of_ne_zero hz, true_and, u1, hz, if_false]
      rfl
  · have h2signals : u2.signals = s.signals := by
      show (if s.drawQuestion j = 0 then u1 else u1.countDraw j.id (s.drawQuestion j)).signals = _
      split <;> rfl
    have h2absent : u2.portAbsent = s.portAbsent := by
      show (if s.drawQuestion j = 0 then u1 else u1.countDraw j.id (s.drawQuestion j)).portAbsent = _
      split <;> rfl
    rw [hsignals, signals_feedReports, h2signals, h2absent, h2gen, hstarved, hfeed]
    rfl
  · show (padLanes j.plan.lanes _).map LaneRec.number = _
    rw [padLanes_numbers, List.map_map]
    simp only [State.numbersDrawn, hp, hc, hs, List.length_map]
    rfl
  · have hlen : (s.gen.feed.take (s.drawQuestion j)).length = s.drawQuestion j := by simp [hle.2]
    show blankUnlessFull (padLanes j.plan.lanes _) _ = _
    rw [blankUnlessFull_eq (countNumbered_padLanes j.plan _ _ (fun _ => .list)), length_padLanes (by simp; omega), hlen]
    by_cases hfull : s.drawQuestion j = j.plan.lanes
    · rw [if_pos hfull, if_pos hfull]
    · rw [if_neg hfull, if_neg hfull]
      have hlt : s.drawQuestion j < j.plan.lanes := by omega
      simp only [State.causeDrawn, hp, hs, hstarved, hlt, decide_true, Bool.true_and]
      cases decide (s.gen.listCount + s.drawQuestion j = j.plan.count) <;> rfl

theorem State.drawMakeUp_drew (hp : s.gen.phase = .makeUp) (hqueue : QueueOk s.audit.queue) :
    Drew s (s.drawMakeUp j).2 j (s.drawMakeUp j).1 := by
  have hlist : s.drawsList j = false := by simp [State.drawsList, hp]
  have hle : s.drawQuestion j ≤ j.plan.lanes ∧ s.drawQuestion j ≤ (s.waitingOf j).length := by
    have hq : s.drawQuestion j = min j.plan.lanes (s.waitingOf j).length := by
      simp only [State.drawQuestion, hp]
      rfl
    omega
  have hnumbers : (s.drawMakeUp j).1.lanes.map LaneRec.number = s.numbersDrawn j := by
    show (padLanes j.plan.lanes _).map LaneRec.number = _
    rw [padLanes_numbers, List.map_map]
    simp only [State.numbersDrawn, hp, List.length_map]
    rfl
  have hblank : (s.drawMakeUp j).1.blank = if s.drawQuestion j = j.plan.lanes then none else some (s.causeDrawn j) := by
    have hlen : ((s.waitingOf j).take (s.drawQuestion j)).length = s.drawQuestion j := by simp [hle.2]
    show blankUnlessFull (padLanes j.plan.lanes (((s.waitingOf j).take (s.drawQuestion j)).map _)) _ = _
    rw [blankUnlessFull_eq (countNumbered_padLanes j.plan _ MakeUpEntry.number (fun e => .makeUp e.attempts)),
      length_padLanes (by simp; omega), hlen]
    simp only [State.causeDrawn, hp]
  by_cases hz : s.drawQuestion j = 0
  · have hsame : (s.drawMakeUp j).2 = s := by simp [State.drawMakeUp, hz]
    rw [hsame]
    exact Drew.idle hz hlist hnumbers (fun l => padLanes_fresh) hblank
  · have hnow : s.drawsNow j = false := by simp [State.drawsNow, hp]
    have hpos := Nat.pos_of_ne_zero hz
    have hfinal : (s.drawMakeUp j).2 = ((s.setAudit { s.audit with
        queue := issueEntries j.id (s.drawQuestion j) s.audit.queue }).updTallies j.id
      (fun t => { t with makeUpDrawn := satAdd t.makeUpDrawn (s.drawQuestion j) })).countDraw j.id (s.drawQuestion j) := by
      simp [State.drawMakeUp, hz]
    have hr : s.drawCountAfter j = s.gen.r := by simp [State.drawCountAfter, hnow]
    have hlc : s.listCountAfter j = s.gen.listCount := by simp [State.listCountAfter, hlist]
    have hfeed : s.feedAfter j = s.gen.feed := by simp [State.feedAfter, hlist]
    have hdone : s.doneAfter j = false := by simp [State.doneAfter, hnow]
    refine ⟨s.drawMakeUp_frame j, ?_, ?_, ?_, ?_, ?_, hnumbers, fun l => padLanes_fresh, hblank⟩
    · rw [hfinal]
      simp only [State.genAfter, hr, hlc, hfeed, hdone, Bool.or_false, Bool.false_eq_true, false_and, if_false]
      rfl
    · rw [hfinal]
      show (s.jobs.map _).map _ = _
      rw [List.map_map]
      refine List.map_congr_left fun x _ => ?_
      by_cases hx : x.id = j.id <;> simp [hx, State.talliesAfter, hpos, hp]
    · rw [hfinal]
      show issueEntries j.id (s.drawQuestion j) s.audit.queue = _
      rw [issueEntries_eq j.id hqueue.nodup]
      simp only [hp, true_and]
      rfl
    · rw [hfinal, hr, hlc]
      refine List.map_congr_left fun z _ => ?_
      simp only [hpos, true_and]
      rfl
    · have hlow : ¬(s.gen.lowMark ≤ s.gen.feed.length ∧ s.gen.feed.length < s.gen.lowMark) := by omega
      rw [hfinal]
      simp only [hfeed, hlow, if_false, State.starvedAfter, hlist, Bool.false_and, Bool.false_eq_true]
      rfl

/-- A draw for a job with a lane, and in the MAKEUP phase a queue that holds no entry twice. -/
theorem State.draw_drew (hlanes : 0 < j.plan.lanes) (hqueue : s.gen.phase = .makeUp → QueueOk s.audit.queue) :
    Drew s (s.draw j).2 j (s.draw j).1 := by
  unfold State.draw
  split
  · rename_i hp
    exact State.drawMakeUp_drew hp (hqueue hp)
  · rename_i hp
    split
    · rename_i hc
      exact State.drawNone_drew hp hlanes (by simp [State.drawQuestion, hp, hc]) (.inl hc)
    · rename_i hc
      split
      · rename_i hs
        split
        · rename_i hz
          exact State.drawNone_drew hp hlanes hz (.inr hs)
        · rename_i hz
          exact State.drawSequence_drew hp (by simpa using hc) hs (Nat.pos_of_ne_zero hz)
      · rename_i hs
        exact State.drawList_drew hp (by simpa using hc) hs

end

end Sys2Proof.Machine

namespace Sys2Proof.Machine

/-! ## The Job Table while a job drains -/

section
variable {s : State} {j : Job}

theorem State.running_mem (h : s.running = some j) : j ∈ s.jobs ∧ j.state = .running :=
  ⟨List.mem_of_find?_eq_some h, by simpa using List.find?_some h⟩

theorem eq_of_length_le_one {α : Type} {l : List α} (h : l.length ≤ 1) {x y : α} (hx : x ∈ l) (hy : y ∈ l) : x = y := by
  match l, h with
  | [a], _ => rw [List.mem_singleton.1 hx, List.mem_singleton.1 hy]

/-- At most one job is RUNNING (R125). -/
theorem JobsOk.running_unique {js : List Job} (h : JobsOk js) {x y : Job} (hx : x ∈ js) (hy : y ∈ js)
    (hxs : x.state = .running) (hys : y.state = .running) : x = y := by
  exact eq_of_length_le_one h.2.2 (List.mem_filter.2 ⟨hx, by simp [hxs]⟩) (List.mem_filter.2 ⟨hy, by simp [hys]⟩)

/-- A record is found by its id (R124). -/
theorem JobsOk.find_id {js : List Job} (h : JobsOk js) {x : Job} (hx : x ∈ js) :
    js.find? (fun y => decide (y.id = x.id)) = some x := by
  have hle := nodup_filter_id js h.2.1 x.id
  cases hf : js.find? (fun y => decide (y.id = x.id)) with
  | none => exact absurd (by simp) (List.find?_eq_none.1 hf x hx)
  | some y =>
    have hy := List.mem_of_find?_eq_some hf
    have hid : y.id = x.id := by simpa using List.find?_some hf
    exact congrArg some (eq_of_length_le_one hle (List.mem_filter.2 ⟨hy, by simp [hid]⟩) (List.mem_filter.2 ⟨hx, by simp⟩))

theorem State.job_of_running (hjobs : JobsOk s.jobs) (h : s.running = some j) : s.job j.id = some j :=
  hjobs.find_id (State.running_mem h).1

theorem find_id_map (js : List Job) (f : Job → Job) (hf : ∀ x, (f x).id = x.id) (id : Nat) :
    (js.map f).find? (fun x => decide (x.id = id)) = (js.find? (fun x => decide (x.id = id))).map f := by
  rw [List.find?_map]
  simp only [Function.comp_def, hf]

theorem find_state_map (js : List Job) (f : Job → Job) (hf : ∀ x, (f x).state = x.state) (st : JobState) :
    (js.map f).find? (fun x => decide (x.state = st)) = (js.find? (fun x => decide (x.state = st))).map f := by
  rw [List.find?_map]
  simp only [Function.comp_def, hf]

/-- The feed is the RUNNING job's where its plan takes its numbers from a list (R63). -/
theorem State.feedJob_of_running (h : s.running = some j) : s.feedJob = if j.plan.source = .list then some j else none := by
  unfold State.feedJob
  rw [h]

/-- What the Generator hands back of the RUNNING job (R54). -/
def State.handedValues (s : State) (j : Job) : DrawValues :=
  { r := s.gen.r
    listCount := s.gen.listCount
    discarded := if j.plan.source = .list then s.gen.feed.length else 0 }

theorem State.handBack_of_running (h : s.running = some j) : s.handBack j.id = s.handedValues j := by
  unfold State.handBack State.feedOf State.handedValues
  rw [State.feedJob_of_running h]
  by_cases hl : j.plan.source = .list <;> simp [hl]

/-- The state once the RUNNING job has been handed back and made DRAINING, the follow-on test to come (R133). -/
def State.leaving (s : State) (j : Job) : State :=
  (s.setGen { s.gen with feed := if j.plan.source = .list then [] else s.gen.feed }).setJobs
    (s.jobs.map (fun x => if x.id = j.id then
      { x with draw := some (s.handedValues j), state := .draining, drain := some .complete } else x))

theorem State.handedBack_of_running (h : s.running = some j) :
    s.handedBack j.id = (s.setGen { s.gen with feed := if j.plan.source = .list then [] else s.gen.feed }).setJobs
      (s.jobs.map (fun x => if x.id = j.id then { x with draw := some (s.handedValues j) } else x)) := by
  unfold State.handedBack
  rw [State.handBack_of_running h]
  have hrun : (s.updJob j.id (fun x => { x with draw := some (s.handedValues j) })).running =
      some { j with draw := some (s.handedValues j) } := by
    refine (find_state_map s.jobs _ (fun x => by split <;> rfl) .running).trans ?_
    have hj : s.jobs.find? (fun x => decide (x.state = .running)) = some j := h
    rw [hj]
    simp
  unfold State.emptyFeedOf
  rw [State.feedJob_of_running hrun]
  by_cases hl : j.plan.source = .list
  · simp only [hl, if_true]
    rfl
  · simp only [hl, if_false]
    rfl

theorem State.drainJob_of_running (hjobs : JobsOk s.jobs) (h : s.running = some j) :
    s.drainJob j.id .complete =
      if ((s.leaving j).afterRunning j.plan).jobHasRow j.id then (s.leaving j).afterRunning j.plan
      else ((s.leaving j).afterRunning j.plan).endJob j.id := by
  have hleaving : (s.handedBack j.id).updJob j.id (fun x => { x with state := .draining, drain := some .complete }) =
      s.leaving j := by
    rw [State.handedBack_of_running h]
    show (s.setGen _).setJobs ((s.jobs.map _).map _) = _
    rw [List.map_map]
    refine congrArg _ (List.map_congr_left fun x _ => ?_)
    by_cases hx : x.id = j.id <;> simp [hx]
  unfold State.drainJob
  rw [State.job_of_running hjobs h]
  dsimp only
  rw [if_pos (State.running_mem h).2, hleaving]

/-- Once the RUNNING job has left, none is RUNNING (R125). -/
theorem State.leaving_running (hjobs : JobsOk s.jobs) (h : s.running = some j) : (s.leaving j).running = none := by
  refine List.find?_eq_none.2 fun y hy hrun => ?_
  obtain ⟨x, hx, rfl⟩ := List.mem_map.1 hy
  obtain ⟨hj, hjs⟩ := State.running_mem h
  by_cases hid : x.id = j.id
  · simp [hid] at hrun
  · simp only [hid, if_false, decide_eq_true_eq] at hrun
    exact hid (congrArg Job.id (hjobs.running_unique hx hj hrun hjs))

theorem State.leaving_job (hjobs : JobsOk s.jobs) (h : s.running = some j) : (s.leaving j).job j.id =
    some { j with draw := some (s.handedValues j), state := .draining, drain := some .complete } := by
  refine (find_id_map s.jobs _ (fun x => by split <;> rfl) j.id).trans ?_
  have hj : s.jobs.find? (fun x => decide (x.id = j.id)) = some j := State.job_of_running hjobs h
  rw [hj]
  simp

/-- The oldest LOADED job is none that is leaving. -/
theorem State.leaving_oldestLoaded {n : Job} (hn : (s.leaving j).oldestLoaded = some n) :
    n.id ≠ j.id := by
  have hmem := List.mem_of_find?_eq_some hn
  have hst : n.state = .loaded := by simpa using List.find?_some hn
  obtain ⟨x, hx, rfl⟩ := List.mem_map.1 hmem
  by_cases hid : x.id = j.id
  · simp [hid] at hst
  · simp [hid]

theorem State.leaving_oldestLoaded_none (hn : s.oldestLoaded = none) :
    (s.leaving j).oldestLoaded = none := by
  refine List.find?_eq_none.2 fun y hy hst => ?_
  obtain ⟨x, hx, rfl⟩ := List.mem_map.1 hy
  by_cases hid : x.id = j.id
  · simp [hid] at hst
  · simp only [hid, if_false] at hst
    exact List.find?_eq_none.1 hn x hx hst

end

/-! ### The follow-on test -/

/-- What the follow-on test keeps of the state in which it is made (R130, R131): it may start a job, whose record is opened, or
report a changeover. -/
structure Later (b c : State) : Prop where
  rest : c.core = (((b.setGen c.gen).setJobs c.jobs).setAudit { b.audit with records := c.audit.records }).core
  records : ∃ extra, c.audit.records = b.audit.records ++ extra
  pending : ∀ q a, a ≠ .changeover → c.signals.pending q a = b.signals.pending q a
  latched : ∀ d, d ≠ .changeover → c.signals.latched d = b.signals.latched d
  held : c.signals.held = b.signals.held
  job : ∀ id, (∀ n, b.oldestLoaded = some n → n.id ≠ id) → c.job id = b.job id

theorem Later.refl (b : State) : Later b b :=
  ⟨rfl, ⟨[], by simp⟩, fun _ _ _ => rfl, fun _ _ => rfl, rfl, fun _ _ => rfl⟩

theorem State.startRunning_later {b : State} {n : Job} (hn : b.oldestLoaded = some n) : Later b (b.startRunning n) := by
  refine ⟨rfl, ⟨_, rfl⟩, fun _ _ _ => rfl, fun _ _ => rfl, rfl, fun id hid => ?_⟩
  have hne : n.id ≠ id := hid n hn
  refine (find_id_map b.jobs _ (fun x => by split <;> rfl) id).trans ?_
  cases hf : b.jobs.find? (fun x => decide (x.id = id)) with
  | none => exact hf.symm
  | some x =>
    have hx : x.id = id := by simpa using List.find?_some hf
    have hb : b.job id = some x := hf
    rw [hb, Option.map_some, if_neg (by rw [hx]; exact hne.symm)]

theorem State.changeover_later (b : State) : Later b b.changeover := by
  have hsignals : b.changeover.signals = (b.signals.raise b.portAbsent .changeover).latch .changeover := by
    unfold State.changeover
    rw [signals_latchEvent, signals_raiseBoth _ (by decide)]
  have hcore : b.changeover.core = b.core := by simp [State.changeover]
  have hgen : b.changeover.gen = b.gen := core_field State.gen (fun _ => rfl) hcore
  have hjobs : b.changeover.jobs = b.jobs := core_field State.jobs (fun _ => rfl) hcore
  have haudit : b.changeover.audit = b.audit := core_field State.audit (fun _ => rfl) hcore
  refine ⟨by rw [hcore, hgen, hjobs, haudit]; rfl, ⟨[], by simp [haudit]⟩, fun q a ha => ?_, fun d hd => ?_, ?_,
    fun id _ => core_field (fun x => x.job id) (fun _ => rfl) hcore⟩
  · simp [hsignals, Signals.latch, Signals.raise, ha.symm]
  · simp [hsignals, Signals.latch, Signals.raise, hd.symm]
  · rw [hsignals]
    rfl

theorem State.followOn_later (b : State) (plan : Plan) : Later b (b.followOn plan) := by
  unfold State.followOn
  split
  · split
    · exact .refl b
    · rename_i n hn
      split
      · split
        · exact State.startRunning_later hn
        · exact b.changeover_later
      · exact .refl b
  · exact .refl b

theorem State.followOn_none {b : State} (h : b.oldestLoaded = none) (plan : Plan) : b.followOn plan = b := by
  unfold State.followOn
  split
  · rw [h]
  · rfl

/-! ### What the DRAINING test keeps of an opened row -/

/-- In `w` as in `v` stands what the DRAINING test keeps while a row of job `j` is held: the pipeline, the plies, the positions but
the window ends of no RUNNING job, and the job's plan and tallies. -/
structure Settled (v w : State) (j : Job) : Prop where
  rest : w.core = ((((v.setGen w.gen).setJobs w.jobs).setAudit { v.audit with records := w.audit.records }).setTrk
    { v.trk with schedule := w.trk.schedule }).core
  records : ∃ extra, w.audit.records = v.audit.records ++ extra
  pending : ∀ q a, a ≠ .changeover → w.signals.pending q a = v.signals.pending q a
  latched : ∀ d, d ≠ .changeover → w.signals.latched d = v.signals.latched d
  held : w.signals.held = v.signals.held
  schedule : w.trk.schedule = if w.running.isSome then v.trk.schedule else
    v.trk.schedule.filter (fun y => !(match y.ev with | .windowEnd _ => true | _ => false))
  job : ∃ x, w.job j.id = some x ∧ x.plan = j.plan ∧ x.tallies = j.tallies

theorem Settled.refl {v : State} {j : Job} (hjobs : JobsOk v.jobs) (h : v.running = some j) : Settled v v j :=
  ⟨rfl, ⟨[], by simp⟩, fun _ _ _ => rfl, fun _ _ => rfl, rfl, by simp [h], ⟨j, State.job_of_running hjobs h, rfl, rfl⟩⟩

theorem Settled.field {α : Type} {v w : State} {j : Job} (h : Settled v w j) (f : State → α) (hf : ∀ x : State, f x.core = f x) :
    f w = f ((((v.setGen w.gen).setJobs w.jobs).setAudit { v.audit with records := w.audit.records }).setTrk
      { v.trk with schedule := w.trk.schedule }) := core_field f hf h.rest

theorem State.testFree_of_rows {s : State} (h : s.pipe.rows ≠ []) : s.testFree = s := by
  unfold State.testFree
  rw [if_neg]
  simp [h]

section
variable {v c : State} {j : Job}

theorem State.leaving_over (v : State) (j : Job) (g : Generator) (js : List Job) :
    ((v.leaving j).setGen g).setJobs js = (v.setGen g).setJobs js := rfl

theorem Later.trk (h : Later (v.leaving j) c) : c.trk = v.trk := by
  simpa [State.leaving] using core_field State.trk (fun _ => rfl) h.rest

theorem Later.pipe (h : Later (v.leaving j) c) : c.pipe = v.pipe := by
  simpa [State.leaving] using core_field State.pipe (fun _ => rfl) h.rest

theorem Later.core_eq (h : Later (v.leaving j) c) :
    c.core = (((v.setGen c.gen).setJobs c.jobs).setAudit { v.audit with records := c.audit.records }).core := by
  rw [h.rest, State.leaving_over]
  rfl

/-- A follower runs: every window stands. -/
theorem Later.settled_running (h : Later (v.leaving j) c) {x : Job} (hjob : c.job j.id = some x) (hplan : x.plan = j.plan)
    (htallies : x.tallies = j.tallies) (hrun : c.running.isSome = true) : Settled v c j where
  rest := by
    have hs : c.trk.schedule = v.trk.schedule := by rw [h.trk]
    rw [h.core_eq, hs]
    rfl
  records := h.records
  pending := h.pending
  latched := h.latched
  held := h.held
  schedule := by rw [hrun, h.trk]; rfl
  job := ⟨x, hjob, hplan, htallies⟩

/-- No job runs any more: every window end is withdrawn. -/
theorem Later.settled_idle (h : Later (v.leaving j) c) {x : Job} (hjob : c.job j.id = some x) (hplan : x.plan = j.plan)
    (htallies : x.tallies = j.tallies) (hrun : c.running = none) : Settled v c.windowsOff j where
  rest := by
    have hoff : c.windowsOff.core = c.core.setTrk { c.trk with schedule := c.windowsOff.trk.schedule } := rfl
    rw [hoff, h.core_eq, h.trk]
    rfl
  records := h.records
  pending := h.pending
  latched := h.latched
  held := h.held
  schedule := by
    have hoff : c.windowsOff.running = none := hrun
    rw [hoff, ← h.trk]
    rfl
  job := ⟨x, hjob, hplan, htallies⟩

/-- With a row held, a job that leaves RUNNING does not return the Tracker to FREE (R7). -/
theorem State.afterRunning_leaving (hrows : v.pipe.rows ≠ []) :
    (v.leaving j).afterRunning j.plan =
      if ((v.leaving j).followOn j.plan).running.isNone then ((v.leaving j).followOn j.plan).windowsOff
      else (v.leaving j).followOn j.plan := by
  have hpipe := ((v.leaving j).followOn_later j.plan).pipe
  unfold State.afterRunning
  dsimp only
  rw [State.testFree_of_rows]
  show ((v.leaving j).followOn j.plan).pipe.rows ≠ []
  rw [hpipe]
  exact hrows

theorem State.drainJob_of_row (hjobs : JobsOk v.jobs) (h : v.running = some j) (hrow : v.jobHasRow j.id = true) :
    v.drainJob j.id .complete =
      if ((v.leaving j).followOn j.plan).running.isNone then ((v.leaving j).followOn j.plan).windowsOff
      else (v.leaving j).followOn j.plan := by
  have hrows : v.pipe.rows ≠ [] := by
    intro hnil
    simp [State.jobHasRow, hnil] at hrow
  have hpipe := ((v.leaving j).followOn_later j.plan).pipe
  have hheld : ((v.leaving j).afterRunning j.plan).jobHasRow j.id = true := by
    have hsame : ((v.leaving j).afterRunning j.plan).pipe = v.pipe := by
      rw [State.afterRunning_leaving hrows]
      split
      · exact hpipe
      · exact hpipe
    unfold State.jobHasRow at hrow ⊢
    rw [hsame]
    exact hrow
  rw [State.drainJob_of_running hjobs h, if_pos hheld, State.afterRunning_leaving hrows]

/-- The job leaves RUNNING with a row of it held: it is DRAINING, and what else stands. -/
theorem State.drainJob_settled (hjobs : JobsOk v.jobs) (h : v.running = some j) (hrow : v.jobHasRow j.id = true) :
    Settled v (v.drainJob j.id .complete) j ∧
    (v.drainJob j.id .complete).job j.id =
      some { j with draw := some (v.handedValues j), state := .draining, drain := some .complete } ∧
    (v.oldestLoaded = none → (v.drainJob j.id .complete).running = none ∧
      (v.drainJob j.id .complete).gen.feed = if j.plan.source = .list then [] else v.gen.feed) := by
  have hlater := (v.leaving j).followOn_later j.plan
  have hnone : v.oldestLoaded = none → (v.leaving j).followOn j.plan = v.leaving j := fun hn =>
    State.followOn_none (State.leaving_oldestLoaded_none hn) _
  have hjob := (hlater.job j.id fun n hn => State.leaving_oldestLoaded hn).trans (State.leaving_job hjobs h)
  have hleft := State.leaving_running hjobs h
  rw [State.drainJob_of_row hjobs h hrow]
  generalize (v.leaving j).followOn j.plan = c at hlater hnone hjob
  cases hrun : c.running with
  | none =>
    refine ⟨hlater.settled_idle hjob rfl rfl hrun, hjob, fun hn => ⟨hrun, ?_⟩⟩
    show c.gen.feed = _
    rw [hnone hn]
    rfl
  | some x =>
    refine ⟨hlater.settled_running hjob rfl rfl (by rw [hrun]; rfl), hjob, fun hn => ?_⟩
    rw [hnone hn, hleft] at hrun
    cases hrun

end

end Sys2Proof.Machine

namespace Sys2Proof.Machine

/-! ## A row as it opens, and a form assigned to it -/

theorem find_ply_map (ps : List Ply) (f : Ply → PlyRec) (hf : ∀ p, (f p).ply = p) (q : Ply) :
    (ps.map f).find? (fun x => decide (x.ply = q)) = if q ∈ ps then some (f q) else none := by
  induction ps with
  | nil => rfl
  | cons p ps ih =>
    rw [List.map_cons, List.find?_cons, hf]
    by_cases hpq : p = q
    · simp [hpq]
    · rw [decide_eq_false hpq, ih]
      simp [Ne.symm hpq]

theorem newRow_plyRec (k : Nat) (origin : Pos) (job : Nat) (mask : PlyMask) (d : Drawn) (q : Ply) :
    (newRow k origin job mask d).plyRec q = if inMask mask q then
      some { ply := q, assign := .none, order := .notDue, reads := PerLane.all .noneExpected } else none := by
  refine (find_ply_map (maskPlies mask) _ (fun p => rfl) q).trans ?_
  simp only [mem_maskPlies]

theorem Row.assigned_plyRec (r : Row) (p : Ply) (a : Assignment) (causes : CauseSet) (expect : Bool) (q : Ply) :
    (r.assigned p a causes expect).plyRec q = (r.plyRec q).map (fun x => if x.ply = p then
      { x with
        assign := a
        order := if 0 < r.numbered then .scheduled else x.order
        reads := if expect then r.awaitedReads else x.reads } else x) := by
  refine (List.find?_map ..).trans ?_
  unfold Row.plyRec
  congr 2
  funext x
  simp only [Function.comp]
  split <;> rfl

theorem Row.assigned_numberedSet (r : Row) (p : Ply) (a : Assignment) (causes : CauseSet) (expect : Bool) :
    (r.assigned p a causes expect).numberedSet = r.numberedSet := by
  have hlanes : (r.assigned p a causes expect).lanes = r.lanes.map (fun l => l.addCauses causes) := rfl
  unfold Row.numberedSet
  rw [hlanes]
  simp only [List.getElem?_map]
  congr 1
  funext m l
  cases r.lanes[l.index]? <;> simp

theorem Row.assigned_awaitedReads (r : Row) (p : Ply) (a : Assignment) (causes : CauseSet) (expect : Bool) :
    (r.assigned p a causes expect).awaitedReads = r.awaitedReads := by
  unfold Row.awaitedReads
  rw [r.assigned_numberedSet]

theorem LaneRec.addCauses_number (l : LaneRec) (cs : CauseSet) : (l.addCauses cs).number = l.number := by
  unfold LaneRec.addCauses
  split <;> rfl

theorem Row.assigned_numbers (r : Row) (p : Ply) (a : Assignment) (causes : CauseSet) (expect : Bool) :
    (r.assigned p a causes expect).lanes.map LaneRec.number = r.lanes.map LaneRec.number := by
  show (r.lanes.map (fun l => l.addCauses causes)).map _ = _
  rw [List.map_map]
  exact List.map_congr_left fun l _ => l.addCauses_number causes

/-- The lanes of a row as it opens carry the causes of its first form, where they are numbered (R81). -/
theorem Row.assigned_fresh {r : Row} (h : ∀ l ∈ r.lanes, l.marked = false ∧ l.causes = 0) (p : Ply) (a : Assignment)
    (causes : CauseSet) (expect : Bool) :
    ∀ l ∈ (r.assigned p a causes expect).lanes, l.marked = false ∧ l.causes = if l.isNumbered then causes else 0 := by
  intro l hl
  obtain ⟨x, hx, rfl⟩ := List.mem_map.1 hl
  obtain ⟨hmarked, hcauses⟩ := h x hx
  unfold LaneRec.addCauses
  split <;> rename_i hn
  · have hnum : ({ x with causes := x.causes ||| causes } : LaneRec).isNumbered = true := hn
    rw [hnum, hcauses]
    exact ⟨hmarked, by simp⟩
  · exact ⟨hmarked, by simp [hcauses]⟩

/-- Blank lanes take no cause (R74). -/
theorem Row.assigned_blank {r : Row} {n : Nat} (h : r.lanes = List.replicate n blankLane) (p : Ply) (a : Assignment)
    (causes : CauseSet) (expect : Bool) : (r.assigned p a causes expect).lanes = List.replicate n blankLane := by
  show r.lanes.map (fun l => l.addCauses causes) = _
  rw [h, List.map_replicate]
  rfl

/-- No cause added leaves the lanes as they are. -/
theorem Row.assigned_lanes_of_no_cause (r : Row) (p : Ply) (a : Assignment) (expect : Bool) :
    (r.assigned p a 0 expect).lanes = r.lanes := by
  refine map_id_of_forall fun l _ => ?_
  unfold LaneRec.addCauses
  split
  · simp
  · rfl

/-! ### Positions that are not due -/

/-- A position that lies ahead of H is not due, and not taken (R2). -/
theorem State.fire_of_ahead {s : State} {ev : PosEvent} (h : ∀ y ∈ s.trk.schedule, y.ev = ev → isAhead y.pos s.trk.h = true)
    (f : Pos → State → State) : s.fire ev f = s := by
  have hnone : s.trk.dueEntry ev = none := by
    refine List.find?_eq_none.2 fun y hy => ?_
    simp only [Bool.and_eq_true, decide_eq_true_eq, Tracker.isDue, Bool.not_eq_true']
    rintro ⟨hev, hdue⟩
    rw [h y hy hev] at hdue
    cases hdue
  unfold State.fire
  rw [hnone]

/-- A send request whose send position lies ahead of H is kept, and its position scheduled (R101). -/
theorem State.handSend_of_ahead {s : State} {q : SendRequest} (hsend : ∀ y ∈ s.trk.schedule, y.ev ≠ .send q.ply q.row)
    (hahead : isAhead q.send s.trk.h = true) :
    s.handSend q = (s.setRequests (s.requests ++ [q])).setTrk
      { s.trk with schedule := s.trk.schedule ++ [⟨q.send, .send q.ply q.row⟩] } := by
  unfold State.handSend State.fireSend
  rw [State.fire_of_ahead]
  · rfl
  · intro y hy hev
    rcases List.mem_append.1 hy with hy | hy
    · exact absurd hev (hsend y hy)
    · rw [List.mem_singleton.1 hy]
      exact hahead

/-! ### The assignment (R81) -/

section
variable {s : State} {r : Row} {rows : List Row} {p : Ply} {k : Nat} {a : Assignment} {c : Pos} {causes : CauseSet}

theorem State.row_of_last (hrows : s.pipe.rows = rows ++ [r]) (hold : ∀ x ∈ rows, x.k ≠ r.k) : s.row r.k = some r := by
  unfold State.row
  rw [hrows, List.find?_append, List.find?_eq_none.2]
  · simp
  · intro x hx
    simpa using hold x hx

theorem map_last (hold : ∀ x ∈ rows, x.k ≠ r.k) (f : Row → Row) :
    (rows ++ [r]).map (fun x => if x.k = r.k then f x else x) = rows ++ [f r] := by
  rw [List.map_append, map_id_of_forall fun x hx => if_neg (hold x hx)]
  simp

/-- The form of ply p assigned to the last row, its send position ahead of H: what becomes of the rows, the expectations, the send
requests and the schedule, and nothing else (R81). -/
theorem State.assignReport_last (hrows : s.pipe.rows = rows ++ [r]) (hold : ∀ x ∈ rows, x.k ≠ r.k) {x : PlyRec}
    (hply : r.plyRec p = some x) (hopen : r.stage = .opened) (hnone : x.assign = .none)
    (hsend : ∀ y ∈ s.trk.schedule, y.ev ≠ .send p r.k) (hahead : isAhead (s.sendPos p c) s.trk.h = true) :
    s.assignReport p r.k a c causes =
      (((s.setRows (rows ++ [r.assigned p a causes (s.expectsRead r p)])).setReaders (if s.expectsRead r p then
          s.readers.set p { s.readers.get p with
            expectations := (s.readers.get p).expectations ++ [s.expectationFor r p c] } else s.readers)).setRequests
        (s.requests ++ if 0 < r.numbered then [⟨p, r.k, s.sendPos p c, posFwd c (s.plies.get p).l⟩] else [])).setTrk
        { s.trk with schedule := s.trk.schedule ++ if 0 < r.numbered then [⟨s.sendPos p c, .send p r.k⟩] else [] } := by
  have hassign : s.assignReport p r.k a c causes = s.assignForm r p a c causes := by
    unfold State.assignReport
    rw [State.row_of_last hrows hold]
    simp only [hply]
    exact if_pos ⟨hopen, hnone⟩
  have hupd : s.updRow r.k (fun y => y.assigned p a causes (s.expectsRead y p)) =
      s.setRows (rows ++ [r.assigned p a causes (s.expectsRead r p)]) := by
    unfold State.updRow
    rw [hrows, map_last hold]
  have hreaders : (if s.expectsRead r p = true then
        (s.setRows (rows ++ [r.assigned p a causes (s.expectsRead r p)])).updReader p (fun x =>
          { x with expectations := x.expectations ++ [s.expectationFor r p c] })
      else s.setRows (rows ++ [r.assigned p a causes (s.expectsRead r p)])) =
      (s.setRows (rows ++ [r.assigned p a causes (s.expectsRead r p)])).setReaders (if s.expectsRead r p then
          s.readers.set p { s.readers.get p with
            expectations := (s.readers.get p).expectations ++ [s.expectationFor r p c] } else s.readers) := by
    split <;> rfl
  rw [hassign]
  unfold State.assignForm
  dsimp only
  simp only [hupd, hreaders]
  split <;> rename_i hn
  · exact State.handSend_of_ahead (q := s.sendRequestFor r p c) hsend hahead
  · simp only [List.append_nil]
    rfl

/-- The expectations of the row once the form is assigned, as `State.expecting` gives them. -/
theorem State.readers_assigned {j : Job} (hjob : s.job r.job = some j) (e : Bool) :
    (if s.expectsRead r p then
      s.readers.set p { s.readers.get p with
        expectations := (s.readers.get p).expectations ++ [s.expectationFor r p c] } else s.readers) =
      s.expecting p c (r.assigned p a causes e) j.plan.policy := by
  have hpolicy : s.policyOf r.job = j.plan.policy := by
    unfold State.policyOf
    rw [hjob]
  unfold State.expecting State.expectsRead State.expectationFor
  rw [hpolicy, Row.assigned_numbered, Row.assigned_numberedSet]
  by_cases hc : 0 < r.numbered ∧ j.plan.policy ≠ .off ∧ (s.plies.get p).reader = true
  · rw [if_pos hc, if_pos (by simpa [and_assoc] using hc)]
    rfl
  · rw [if_neg hc, if_neg (by simpa [and_assoc] using hc)]

end

end Sys2Proof.Machine

namespace Sys2Proof.Machine

/-! ## The opening of a row (R78) -/

section
variable {s : State} {j : Job}

theorem core_clearReserve (s : State) : s.clearReserve.core = (s.setPipe { s.pipe with reserve := false }).core := by
  unfold State.clearReserve
  cases hr : s.pipe.reserve with
  | true => simp
  | false =>
    have hsame : ({ s.pipe with reserve := false } : Pipeline) = s.pipe := by rw [← hr]
    rw [hsame]
    rfl

theorem signals_clearReserve (s : State) :
    s.clearReserve.signals = if s.pipe.reserve then s.signals.finish .voidReserve else s.signals := by
  unfold State.clearReserve
  split <;> simp

theorem core_setReserve (s : State) : s.setReserve.core = (s.setPipe { s.pipe with reserve := true }).core := by
  unfold State.setReserve
  cases hr : s.pipe.reserve with
  | false => simp
  | true =>
    have hsame : ({ s.pipe with reserve := true } : Pipeline) = s.pipe := by rw [← hr]
    rw [hsame]
    rfl

theorem signals_setReserve (s : State) :
    s.setReserve.signals = if s.pipe.reserve then s.signals else s.signals.start .voidReserve := by
  unfold State.setReserve
  split <;> simp

/-- A field that the pipeline is no part of, where nothing but the pipeline and the signals differ. -/
theorem core_setPipe_field {α : Type} {u v : State} {x : Pipeline} (h : v.core = (u.setPipe x).core) (f : State → α)
    (hcore : ∀ s : State, f s.core = f s) (hpipe : ∀ s y, f (State.setPipe s y) = f s) : f v = f u :=
  (core_field f hcore h).trans (hpipe u x)

/-- What the draw for a row leaves as it was, whichever way it goes: all but the reserve condition, the Generator, the tallies of the
job, the make-up queue and the recovery records, and the signals of the reserve and the feed. The lanes drawn carry no cause. -/
structure Prepared (u v : State) (j : Job) (d : Drawn) : Prop where
  trk : v.trk = u.trk
  plies : v.plies = u.plies
  marks : v.marks = u.marks
  zones : v.zones = u.zones
  drivers : v.drivers = u.drivers
  requests : v.requests = u.requests
  readers : v.readers = u.readers
  shift : v.shift = u.shift
  monitors : v.monitors = u.monitors
  pipe : v.pipe = { u.pipe with reserve := v.pipe.reserve }
  condition : v.audit.condition = u.audit.condition
  voids : v.audit.voids = u.audit.voids
  inFlight : v.audit.inFlight = u.audit.inFlight
  jobs : ∃ f : JobTallies → JobTallies,
    v.jobs = u.jobs.map (fun x => if x.id = j.id then { x with tallies := f x.tallies } else x)
  pending : ∀ q a, a ≠ .feedLow → v.signals.pending q a = u.signals.pending q a
  latched : ∀ d, d ≠ .voidReserve → d ≠ .feedStarved → v.signals.latched d = u.signals.latched d
  held : ∀ d, d ≠ .voidReserve → v.signals.held d = u.signals.held d
  fresh : ∀ l ∈ d.lanes, l.marked = false ∧ l.causes = 0

theorem blankDrawn_fresh {n : Nat} {cause : BlankCause} : ∀ l ∈ (blankDrawn n cause).lanes, l.marked = false ∧ l.causes = 0 := by
  intro l h
  rw [List.eq_of_mem_replicate h]
  exact ⟨rfl, rfl⟩

theorem tallies_same (js : List Job) (id : Nat) :
    js = js.map (fun x => if x.id = id then { x with tallies := x.tallies } else x) :=
  (map_id_of_forall fun _ _ => ite_self _).symm

/-- Where the reserve condition and its signals alone may differ, and the lanes drawn are fresh. -/
theorem Prepared.of_core {u v : State} {d : Drawn}
    (hcore : v.core = (u.setPipe { u.pipe with reserve := v.pipe.reserve }).core)
    (hpending : v.signals.pending = u.signals.pending)
    (hlatched : ∀ c, c ≠ .voidReserve → v.signals.latched c = u.signals.latched c)
    (hheld : ∀ c, c ≠ .voidReserve → v.signals.held c = u.signals.held c)
    (hfresh : ∀ l ∈ d.lanes, l.marked = false ∧ l.causes = 0) : Prepared u v j d := by
  have haudit : v.audit = u.audit := core_setPipe_field hcore State.audit (fun _ => rfl) (fun _ _ => rfl)
  have hjobs : v.jobs = u.jobs := core_setPipe_field hcore State.jobs (fun _ => rfl) (fun _ _ => rfl)
  exact {
    trk := core_setPipe_field hcore State.trk (fun _ => rfl) (fun _ _ => rfl)
    plies := core_setPipe_field hcore State.plies (fun _ => rfl) (fun _ _ => rfl)
    marks := core_setPipe_field hcore State.marks (fun _ => rfl) (fun _ _ => rfl)
    zones := core_setPipe_field hcore State.zones (fun _ => rfl) (fun _ _ => rfl)
    drivers := core_setPipe_field hcore State.drivers (fun _ => rfl) (fun _ _ => rfl)
    requests := core_setPipe_field hcore State.requests (fun _ => rfl) (fun _ _ => rfl)
    readers := core_setPipe_field hcore State.readers (fun _ => rfl) (fun _ _ => rfl)
    shift := core_setPipe_field hcore State.shift (fun _ => rfl) (fun _ _ => rfl)
    monitors := core_setPipe_field hcore State.monitors (fun _ => rfl) (fun _ _ => rfl)
    pipe := core_field State.pipe (fun _ => rfl) hcore
    condition := by rw [haudit]
    voids := by rw [haudit]
    inFlight := by rw [haudit]
    jobs := ⟨id, by rw [hjobs]; exact tallies_same _ _⟩
    pending := fun q a _ => by rw [hpending]
    latched := fun c hc _ => hlatched c hc
    held := hheld
    fresh := hfresh }

theorem Prepared.blank (u : State) (j : Job) (n : Nat) (cause : BlankCause) : Prepared u u j (blankDrawn n cause) :=
  .of_core rfl rfl (fun _ _ => rfl) (fun _ _ => rfl) blankDrawn_fresh

theorem Prepared.held_back (u : State) (j : Job) (n : Nat) (cause : BlankCause) :
    Prepared u u.setReserve j (blankDrawn n cause) := by
  have hr : u.setReserve.pipe.reserve = true := by
    rw [core_field State.pipe (fun _ => rfl) (core_setReserve u)]
    rfl
  have hsignals := signals_setReserve u
  refine .of_core (by rw [core_setReserve, hr]) ?_ (fun c hc => ?_) (fun c hc => ?_) blankDrawn_fresh
  · rw [hsignals]
    split <;> rfl
  · rw [hsignals]
    split <;> simp [Signals.start, hc.symm]
  · rw [hsignals]
    split <;> simp [Signals.start, hc.symm]

theorem Prepared.cleared (u : State) (j : Job) {d : Drawn} (hfresh : ∀ l ∈ d.lanes, l.marked = false ∧ l.causes = 0) :
    Prepared u u.clearReserve j d := by
  have hr : u.clearReserve.pipe.reserve = false := by
    rw [core_field State.pipe (fun _ => rfl) (core_clearReserve u)]
    rfl
  have hsignals := signals_clearReserve u
  refine .of_core (by rw [core_clearReserve, hr]) ?_ (fun c _ => ?_) (fun c hc => ?_) hfresh
  · rw [hsignals]
    split <;> rfl
  · rw [hsignals]
    split <;> rfl
  · rw [hsignals]
    split <;> simp [Signals.finish, hc.symm]

/-- What was done before the draw, and the draw. -/
theorem Prepared.drew {u v w : State} {d : Drawn} (h : Prepared u v j d) (hjobs : v.jobs = u.jobs) (hdrew : Drew v w j d) :
    Prepared u w j d where
  trk := hdrew.frame.trk.trans h.trk
  plies := hdrew.frame.plies.trans h.plies
  marks := hdrew.frame.marks.trans h.marks
  zones := hdrew.frame.zones.trans h.zones
  drivers := hdrew.frame.drivers.trans h.drivers
  requests := hdrew.frame.requests.trans h.requests
  readers := hdrew.frame.readers.trans h.readers
  shift := hdrew.frame.shift.trans h.shift
  monitors := hdrew.frame.monitors.trans h.monitors
  pipe := by rw [hdrew.frame.pipe]; exact h.pipe
  condition := hdrew.frame.condition.trans h.condition
  voids := hdrew.frame.voids.trans h.voids
  inFlight := hdrew.frame.inFlight.trans h.inFlight
  jobs := ⟨v.talliesAfter j, by rw [hdrew.jobs, hjobs]⟩
  pending := fun q a ha => by
    rw [hdrew.signals, ← h.pending q a ha]
    dsimp only
    split_ifs <;> simp [Signals.latch, Signals.raise, ha.symm]
  latched := fun c hr hf => by
    rw [hdrew.signals, ← h.latched c hr hf]
    dsimp only
    split_ifs <;> simp [Signals.latch, Signals.raise, hf.symm]
  held := fun c hc => by
    rw [hdrew.signals, ← h.held c hc]
    dsimp only
    split_ifs <;> rfl
  fresh := hdrew.fresh

/-! ### Steps 1 to 4 of R78, case by case -/

theorem State.drawForRow_idle (hq : s.drawQuestion j = 0) : s.drawForRow j false = s.draw j := by
  simp [State.drawForRow, hq]

theorem State.drawForRow_drawn (hq : 0 < s.drawQuestion j) (hroom : s.reservationOk (s.drawQuestion j) = true) :
    s.drawForRow j false = s.clearReserve.draw j := by
  simp [State.drawForRow, Nat.pos_iff_ne_zero.1 hq, hroom]

theorem State.drawForRow_held (hq : 0 < s.drawQuestion j) (hroom : s.reservationOk (s.drawQuestion j) = false) :
    s.drawForRow j false = (blankDrawn j.plan.lanes .held, s.setReserve) := by
  simp [State.drawForRow, Nat.pos_iff_ne_zero.1 hq, hroom]

end

end Sys2Proof.Machine

namespace Sys2Proof.Machine

/-! ## The row recorded, and what is reported of its draw (R61, R78, R132) -/

/-- The state with row r at the young end and its positions scheduled (R78). -/
def State.withRow (v : State) (r : Row) : State := (v.addRow r).schedulePositions r

/-- The three positions of a row (R12). -/
def State.positionsOf (s : State) (r : Row) : List Scheduled :=
  [⟨r.origin, .merge r.k⟩, ⟨posFwd r.origin s.trk.v, .marker r.k⟩, ⟨posFwd r.origin s.trk.x, .delivery r.k⟩]

theorem State.withRow_trk (v : State) (r : Row) :
    (v.withRow r).trk = { v.trk with schedule := v.trk.schedule ++ v.positionsOf r } := by
  simp [State.withRow, State.schedulePositions, State.addRow, State.scheduleAt, State.positionsOf]

theorem State.withRow_pipe (v : State) (r : Row) : (v.withRow r).pipe = { v.pipe with
    rows := v.pipe.rows ++ [r]
    nextIndex := if r.k = lastRowIndex then none else some (r.k + 1) } := rfl

theorem State.withRow_same (v : State) (r : Row) :
    (v.withRow r).gen = v.gen ∧ (v.withRow r).jobs = v.jobs ∧ (v.withRow r).audit = v.audit := ⟨rfl, rfl, rfl⟩

theorem State.openRow_eq {u v : State} {j : Job} {ep : Epoch} {o0 : Pos} {k : Nat} {d : Drawn}
    (h : u.drawForRow j (u.openingSpoiled ep (rowOrigin o0 ep.repeatUm k)) = (d, v)) :
    u.openRow j ep o0 k =
      let r := newRow k (rowOrigin o0 ep.repeatUm k) j.id ep.mask d
      let w := if v.gen.complete && !u.gen.complete then (v.withRow r).testDrain j.id else v.withRow r
      ((w.fireMerge k).fireMarker k).fireDelivery k := by
  unfold State.openRow
  dsimp only
  rw [h]
  rfl

/-- A job with a numbered lane in flight and strict accounting does not drain; one of LOG_ONLY accounting does (R132). -/
theorem State.testDrain_of_running {v : State} {j : Job} (hjobs : JobsOk v.jobs) (hrun : v.running = some j)
    (hcond : v.audit.condition = .normal) (hcomplete : v.gen.complete = true) (hflight : 0 < v.jobInFlight j.id) :
    v.testDrain j.id = if j.plan.accounting = .logOnly then v.drainJob j.id .complete else v := by
  unfold State.testDrain
  rw [State.job_of_running hjobs hrun]
  simp only [hcond, (State.running_mem hrun).2, State.drainCondition, hcomplete, Bool.true_and, true_and]
  cases j.plan.accounting with
  | logOnly => rfl
  | strict => simp [Nat.pos_iff_ne_zero.1 hflight]

theorem State.jobInFlight_withRow (v : State) (r : Row) : r.numbered ≤ (v.withRow r).jobInFlight r.job := by
  unfold State.jobInFlight
  rw [State.withRow_pipe, List.filter_append, inFlightOfRows_append]
  simp [inFlightOfRows]

theorem State.jobHasRow_withRow (v : State) (r : Row) : (v.withRow r).jobHasRow r.job = true := by
  unfold State.jobHasRow
  rw [State.withRow_pipe]
  simp

section
variable {u v : State} {j : Job} {d : Drawn}

/-- The RUNNING job after the draw, its tallies apart. -/
theorem Prepared.running (h : Prepared u v j d) (hrun : u.running = some j) :
    ∃ t, v.running = some { j with tallies := t } := by
  obtain ⟨f, hf⟩ := h.jobs
  refine ⟨f j.tallies, ?_⟩
  unfold State.running at hrun ⊢
  rw [hf, find_state_map _ _ (fun x => by split <;> rfl), hrun]
  simp

theorem Prepared.jobsOk (h : Prepared u v j d) (hjobs : JobsOk u.jobs) : JobsOk v.jobs := by
  obtain ⟨f, hf⟩ := h.jobs
  rw [hf]
  exact hjobs.map _ (fun x => by split <;> rfl) (fun x => by split <;> rfl)

variable {ep : Epoch} {o0 : Pos} {k : Nat} {p : Ply} {c : Pos} {j' : Job}

/-- The opened row's positions lie ahead, and nothing else of the row is scheduled. -/
theorem State.RowAhead.positions {r : Row} (h : u.RowAhead r.k r.origin p c) (hv : v.trk = u.trk) {y : Scheduled}
    (hy : y ∈ (v.withRow r).trk.schedule) (hev : y.ev = .merge r.k ∨ y.ev = .marker r.k ∨ y.ev = .delivery r.k) :
    isAhead y.pos u.trk.h = true := by
  obtain ⟨hnone, horigin, hmarker, hdelivery, -⟩ := h
  rw [State.withRow_trk, hv] at hy
  rcases List.mem_append.1 hy with hy | hy
  · obtain ⟨h1, h2, h3, -⟩ := hnone y hy
    rcases hev with h | h | h
    · exact absurd h h1
    · exact absurd h h2
    · exact absurd h h3
  · simp only [State.positionsOf, hv, List.mem_cons, List.not_mem_nil, or_false] at hy
    rcases hy with rfl | rfl | rfl
    · exact horigin
    · exact hmarker
    · exact hdelivery

theorem Settled.h {v w : State} {j : Job} (h : Settled v w j) : w.trk.h = v.trk.h := h.field (fun x => x.trk.h) fun _ => rfl

theorem Settled.mem_schedule {v w : State} {j : Job} (h : Settled v w j) {y : Scheduled} (hy : y ∈ w.trk.schedule) :
    y ∈ v.trk.schedule := by
  rw [h.schedule] at hy
  split at hy
  · exact hy
  · exact (List.mem_filter.1 hy).1

/-- No position of the opened row is due: none is taken with the opening (R80). -/
theorem Settled.no_position_taken {w : State} {r : Row} (h : Settled (v.withRow r) w j') (hv : v.trk = u.trk)
    (hahead : u.RowAhead r.k r.origin p c) : ((w.fireMerge r.k).fireMarker r.k).fireDelivery r.k = w := by
  have hh : w.trk.h = u.trk.h := by rw [h.h, State.withRow_trk, hv]
  have hpos : ∀ y ∈ w.trk.schedule, y.ev = .merge r.k ∨ y.ev = .marker r.k ∨ y.ev = .delivery r.k →
      isAhead y.pos w.trk.h = true := fun y hy hev => hh ▸ hahead.positions hv (h.mem_schedule hy) hev
  have hmerge : w.fireMerge r.k = w := State.fire_of_ahead (fun y hy hev => hpos y hy (.inl hev)) _
  have hmarker : w.fireMarker r.k = w := State.fire_of_ahead (fun y hy hev => hpos y hy (.inr (.inl hev))) _
  have hdelivery : w.fireDelivery r.k = w := State.fire_of_ahead (fun y hy hev => hpos y hy (.inr (.inr hev))) _
  rw [hmerge, hmarker, hdelivery]

/-- Row k opened (R78): recorded and scheduled; and where the draw became complete, a LOG_ONLY job is made DRAINING (R61, R132). -/
theorem State.openRow_settled (hdraw : u.drawForRow j (u.openingSpoiled ep (rowOrigin o0 ep.repeatUm k)) = (d, v))
    (hprep : Prepared u v j d) (hnum : v.gen.complete = true → u.gen.complete = false → 0 < countNumbered d.lanes)
    (hahead : u.RowAhead k (rowOrigin o0 ep.repeatUm k) p c) (hjobs : JobsOk u.jobs) (hcond : u.audit.condition = .normal)
    (hrun : v.running = some j') (hid : j'.id = j.id) (hplan : j'.plan = j.plan) :
    let r := newRow k (rowOrigin o0 ep.repeatUm k) j.id ep.mask d
    let w := u.openRow j ep o0 k
    Settled (v.withRow r) w j' ∧
    (¬(v.gen.complete = true ∧ u.gen.complete = false ∧ j.plan.accounting = .logOnly) → w = v.withRow r) ∧
    (v.gen.complete = true → u.gen.complete = false → j.plan.accounting = .logOnly →
      w.job j.id = some { j' with draw := some (v.handedValues j'), state := .draining, drain := some .complete } ∧
      (v.oldestLoaded = none → w.running = none ∧ w.gen.feed = if j.plan.source = .list then [] else v.gen.feed)) := by
  intro r w
  have hvjobs : JobsOk (v.withRow r).jobs := hprep.jobsOk hjobs
  have hvrun : (v.withRow r).running = some j' := hrun
  have hvcond : (v.withRow r).audit.condition = .normal := hprep.condition.trans hcond
  have hw : w = (((if v.gen.complete && !u.gen.complete then (v.withRow r).testDrain j.id else v.withRow r).fireMerge
      r.k).fireMarker r.k).fireDelivery r.k := State.openRow_eq hdraw
  by_cases hnew : v.gen.complete = true ∧ u.gen.complete = false
  · obtain ⟨hc, hu⟩ := hnew
    have hflight : 0 < (v.withRow r).jobInFlight j'.id := by
      rw [hid]
      exact Nat.lt_of_lt_of_le (hnum hc hu) (v.jobInFlight_withRow r)
    have htest := State.testDrain_of_running hvjobs hvrun hvcond hc hflight
    rw [hid, hplan] at htest
    rw [hc, hu, Bool.not_false, Bool.and_true, if_pos rfl, htest] at hw
    by_cases hlog : j.plan.accounting = .logOnly
    · have hdrain := State.drainJob_settled hvjobs hvrun (hid ▸ v.jobHasRow_withRow r)
      rw [hid, hplan] at hdrain
      obtain ⟨hsettled, hrecord, hidle⟩ := hdrain
      rw [if_pos hlog, hsettled.no_position_taken hprep.trk hahead] at hw
      rw [hw]
      exact ⟨hsettled, fun h => absurd ⟨hc, hu, hlog⟩ h, fun _ _ _ => ⟨by rw [hrecord, hid, hplan]; rfl, hidle⟩⟩
    · have hsettled := Settled.refl hvjobs hvrun
      rw [if_neg hlog, hsettled.no_position_taken hprep.trk hahead] at hw
      rw [hw]
      exact ⟨hsettled, fun _ => rfl, fun _ _ h => absurd h hlog⟩
  · have hsettled := Settled.refl hvjobs hvrun
    rw [if_neg (by simpa using hnew), hsettled.no_position_taken hprep.trk hahead] at hw
    rw [hw]
    exact ⟨hsettled, fun _ => rfl, fun hc hu _ => absurd ⟨hc, hu⟩ hnew⟩

end

end Sys2Proof.Machine

namespace Sys2Proof.Machine

/-! ## The form given to the row just opened (R80, R81) -/

/-- Reads are expected of ply p's form on the row under the policy (R81 step 4, R116). -/
def State.readsFor (s : State) (p : Ply) (policy : ReadPolicy) (r : Row) : Bool :=
  decide (0 < r.numbered) && decide (policy ≠ .off) && (s.plies.get p).reader

/-- The send request of ply p's form at cue position `c` on the row, where it has a numbered lane (R81 step 3). -/
def State.sendsFor (s : State) (p : Ply) (c : Pos) (r : Row) : List SendRequest :=
  if 0 < r.numbered then [⟨p, r.k, s.sendPos p c, posFwd c (s.plies.get p).l⟩] else []

/-- The entry of that request in the position schedule. -/
def State.sendEntries (s : State) (p : Ply) (c : Pos) (r : Row) : List Scheduled :=
  if 0 < r.numbered then [⟨s.sendPos p c, .send p r.k⟩] else []

/-- `t` is `v`, the state `u` once the draw of the RUNNING job `j` was made, with the row opened as `r` and given ply p's form, and
the DRAINING test made; the job stands in `v` as `j'`. -/
structure RowGiven (u v t : State) (j j' : Job) (p : Ply) (c : Pos) (a : Assignment) (causes : CauseSet) (r : Row) : Prop where
  pipe : t.pipe = { v.pipe with
    rows := u.pipe.rows ++ [r.assigned p a causes (u.readsFor p j.plan.policy r)]
    nextIndex := if r.k = lastRowIndex then none else some (r.k + 1) }
  requests : t.requests = u.requests ++ u.sendsFor p c r
  readers : t.readers = u.expecting p c (r.assigned p a causes (u.readsFor p j.plan.policy r)) j.plan.policy
  marks : t.marks = u.marks
  zones : t.zones = u.zones
  drivers : t.drivers = u.drivers
  shift : t.shift = u.shift
  monitors : t.monitors = u.monitors
  trk : t.trk = { u.trk with schedule := t.trk.schedule }
  schedule : t.trk.schedule = (if t.running.isSome then u.trk.schedule ++ u.positionsOf r else
    (u.trk.schedule ++ u.positionsOf r).filter (fun y => !(match y.ev with | .windowEnd _ => true | _ => false))) ++
    u.sendEntries p c r
  audit : t.audit = { v.audit with records := t.audit.records }
  records : ∃ extra, t.audit.records = v.audit.records ++ extra
  pending : ∀ q x, x ≠ .changeover → t.signals.pending q x = v.signals.pending q x
  latched : ∀ x, x ≠ .changeover → t.signals.latched x = v.signals.latched x
  held : t.signals.held = v.signals.held
  job : ∃ x, t.job j.id = some x ∧ x.tallies = j'.tallies
  stays : ¬(v.gen.complete = true ∧ u.gen.complete = false ∧ j.plan.accounting = .logOnly) →
    t.gen = v.gen ∧ t.jobs = v.jobs ∧ t.audit = v.audit
  drains : v.gen.complete = true → u.gen.complete = false → j.plan.accounting = .logOnly →
    t.job j.id = some { j' with draw := some (v.handedValues j'), state := .draining, drain := some .complete } ∧
    (v.oldestLoaded = none → t.running = none ∧ t.gen.feed = if j.plan.source = .list then [] else v.gen.feed)

section
variable {u v w : State} {j j' : Job} {d : Drawn} {p : Ply} {c : Pos} {a : Assignment} {r : Row}

theorem State.sendPos_congr {s t : State} (hp : t.plies = s.plies) (hd : t.drivers = s.drivers) (p : Ply) (c : Pos) :
    t.sendPos p c = s.sendPos p c := by
  unfold State.sendPos
  rw [hp, hd]

theorem State.expecting_congr {s t : State} (hp : t.plies = s.plies) (hr : t.readers = s.readers) (p : Ply) (c : Pos)
    (r : Row) (policy : ReadPolicy) : t.expecting p c r policy = s.expecting p c r policy := by
  unfold State.expecting
  rw [hp, hr]

/-- What the opening keeps of the draw's state: the fields that the DRAINING test does not touch. -/
theorem Settled.opened_field {α : Type} (h : Settled (v.withRow r) w j') (f : State → α) (hf : ∀ x : State, f x.core = f x)
    (hsets : ∀ (x : State) g js au tr, f ((((x.setGen g).setJobs js).setAudit au).setTrk tr) = f x)
    (hrow : f (v.withRow r) = f v) : f w = f v :=
  (h.field f hf).trans ((hsets _ _ _ _ _).trans hrow)

theorem Settled.rows (h : Settled (v.withRow r) w j') (hprep : Prepared u v j d) : w.pipe = { v.pipe with
    rows := u.pipe.rows ++ [r]
    nextIndex := if r.k = lastRowIndex then none else some (r.k + 1) } := by
  have hrows : v.pipe.rows = u.pipe.rows := by rw [hprep.pipe]
  rw [← hrows]
  exact h.field State.pipe fun _ => rfl

theorem Settled.trk (h : Settled (v.withRow r) w j') (hprep : Prepared u v j d) :
    w.trk = { u.trk with schedule := w.trk.schedule } := by
  have hw : w.trk = { (v.withRow r).trk with schedule := w.trk.schedule } := h.field State.trk fun _ => rfl
  have hv : ({ (v.withRow r).trk with schedule := w.trk.schedule } : Tracker) = { v.trk with schedule := w.trk.schedule } :=
    congrArg (fun z : Tracker => { z with schedule := w.trk.schedule }) (v.withRow_trk r)
  exact (hw.trans hv).trans (congrArg (fun z : Tracker => { z with schedule := w.trk.schedule }) hprep.trk)

/-- The form given to the row just opened. -/
theorem Settled.given (h : Settled (v.withRow r) w j') (hprep : Prepared u v j d) (hid : j'.id = j.id)
    (hplan : j'.plan = j.plan) (hjob : r.job = j.id) (hstage : r.stage = .opened) {x : PlyRec} (hply : r.plyRec p = some x)
    (hnone : x.assign = .none) (hold : ∀ y ∈ u.pipe.rows, y.k ≠ r.k) (hahead : u.RowAhead r.k r.origin p c)
    (causes : CauseSet)
    (hstays : ¬(v.gen.complete = true ∧ u.gen.complete = false ∧ j.plan.accounting = .logOnly) → w = v.withRow r)
    (hdrains : v.gen.complete = true → u.gen.complete = false → j.plan.accounting = .logOnly →
      w.job j.id = some { j' with draw := some (v.handedValues j'), state := .draining, drain := some .complete } ∧
      (v.oldestLoaded = none → w.running = none ∧ w.gen.feed = if j.plan.source = .list then [] else v.gen.feed)) :
    RowGiven u v (w.assignReport p r.k a c causes).startSending j j' p c a causes r := by
  have hplies : w.plies = u.plies := (h.opened_field State.plies (fun _ => rfl) (fun _ _ _ _ _ => rfl) rfl).trans hprep.plies
  have hdrivers : w.drivers = u.drivers :=
    (h.opened_field State.drivers (fun _ => rfl) (fun _ _ _ _ _ => rfl) rfl).trans hprep.drivers
  have hreaders : w.readers = u.readers :=
    (h.opened_field State.readers (fun _ => rfl) (fun _ _ _ _ _ => rfl) rfl).trans hprep.readers
  have hrequests : w.requests = u.requests :=
    (h.opened_field State.requests (fun _ => rfl) (fun _ _ _ _ _ => rfl) rfl).trans hprep.requests
  have hpipe := h.rows hprep
  have hh : w.trk.h = u.trk.h := by rw [h.h, State.withRow_trk, hprep.trk]
  have hsendPos := State.sendPos_congr hplies hdrivers p c
  have hwr : (v.withRow r).trk.schedule = u.trk.schedule ++ u.positionsOf r := by
    rw [State.withRow_trk, State.positionsOf, hprep.trk]
    rfl
  have hsend : ∀ y ∈ w.trk.schedule, y.ev ≠ .send p r.k := by
    intro y hy
    have hy := h.mem_schedule hy
    rw [hwr] at hy
    rcases List.mem_append.1 hy with hy | hy
    · obtain ⟨-, -, -, hs⟩ := hahead.1 y hy
      exact hs
    · simp only [State.positionsOf, List.mem_cons, List.not_mem_nil, or_false] at hy
      rcases hy with rfl | rfl | rfl <;> simp
  have hsendAhead : isAhead (w.sendPos p c) w.trk.h = true := by
    rw [hsendPos, hh]
    exact hahead.2.2.2.2
  obtain ⟨x', hx', hx'plan, hx'tallies⟩ := h.job
  rw [hid] at hx'
  have hwjob : w.job r.job = some x' := hjob ▸ hx'
  have hreads : w.expectsRead r p = u.readsFor p j.plan.policy r := by
    unfold State.expectsRead State.readsFor State.policyOf
    rw [hwjob, hplies]
    simp only [hx'plan, hplan]
  have hassigned := State.assignReport_last (a := a) (causes := causes) (by rw [hpipe]) hold hply hstage hnone hsend hsendAhead
  have hread := State.readers_assigned (s := w) (r := r) (p := p) (c := c) (a := a) (causes := causes) hwjob
    (u.readsFor p j.plan.policy r)
  rw [hread, hreads, hx'plan, hplan, State.expecting_congr hplies hreaders, hrequests, hsendPos, hplies] at hassigned
  have hsched := h.schedule
  rw [hwr] at hsched
  rw [hassigned]
  refine ⟨?_, rfl, rfl, ?_, ?_, hdrivers, ?_, ?_, ?_, ?_, ?_, h.records, fun q y hy => ?_, fun y hy => ?_, ?_,
    ⟨x', hx', hx'tallies⟩, fun hn => ?_, hdrains⟩
  · exact congrArg (fun z : Pipeline =>
      { z with rows := u.pipe.rows ++ [r.assigned p a causes (u.readsFor p j.plan.policy r)] }) hpipe
  · exact (h.opened_field State.marks (fun _ => rfl) (fun _ _ _ _ _ => rfl) rfl).trans hprep.marks
  · exact (h.opened_field State.zones (fun _ => rfl) (fun _ _ _ _ _ => rfl) rfl).trans hprep.zones
  · exact (h.opened_field State.shift (fun _ => rfl) (fun _ _ _ _ _ => rfl) rfl).trans hprep.shift
  · exact (h.opened_field State.monitors (fun _ => rfl) (fun _ _ _ _ _ => rfl) rfl).trans hprep.monitors
  · exact congrArg (fun z : Tracker => { z with schedule := w.trk.schedule ++ u.sendEntries p c r }) (h.trk hprep)
  · show w.trk.schedule ++ _ = (if w.running.isSome then _ else _) ++ _
    rw [hsched]
    rfl
  · exact h.field State.audit fun _ => rfl
  · rw [signals_startSending]
    exact h.pending q y hy
  · rw [signals_startSending]
    exact h.latched y hy
  · rw [signals_startSending]
    exact h.held
  · obtain ⟨hgen, hjobs, haudit⟩ : w.gen = v.gen ∧ w.jobs = v.jobs ∧ w.audit = v.audit := by
      rw [hstays hn]
      exact v.withRow_same r
    exact ⟨hgen, hjobs, haudit⟩

end

end Sys2Proof.Machine

namespace Sys2Proof.Machine

/-! ## The draw of a row, seen from before the reservation test -/

/-- What the draw for job `j` makes of `u`, the reserve condition apart. -/
structure DrawMade (u v : State) (j : Job) (d : Drawn) : Prop where
  gen : v.gen = u.genAfter j
  jobs : v.jobs = u.jobs.map (fun x => if x.id = j.id then { x with tallies := u.talliesAfter j x.tallies } else x)
  queue : v.audit.queue = u.audit.queue.map (fun e =>
    if u.gen.phase = .makeUp ∧ e ∈ (u.waitingOf j).take (u.drawQuestion j) then { e with state := .issued } else e)
  records : v.audit.records = u.audit.records.map (fun z => if 0 < u.drawQuestion j ∧ z.job = j.id ∧ z.state = .opened then
    { z with r := u.drawCountAfter j, listCount := u.listCountAfter j, drawn := z.drawn + u.drawQuestion j } else z)
  starved : v.signals.latched .feedStarved = (u.signals.latched .feedStarved || u.starvedAfter j)
  low : ∀ q, u.portAbsent q = false → v.signals.pending q .feedLow = (u.signals.pending q .feedLow ||
    decide (u.gen.lowMark ≤ u.gen.feed.length ∧ (u.feedAfter j).length < u.gen.lowMark))
  numbers : d.lanes.map LaneRec.number = u.numbersDrawn j
  blank : d.blank = if u.drawQuestion j = j.plan.lanes then none else some (u.causeDrawn j)

section
variable {u v w : State} {j : Job} {d : Drawn}

theorem Drew.made_of_same (h : Drew u w j d) : DrawMade u w j d where
  gen := h.gen
  jobs := h.jobs
  queue := h.queue
  records := h.records
  starved := by
    rw [h.signals]
    dsimp only
    split_ifs <;> simp_all [Signals.latch, Signals.raise]
  low q hq := by
    rw [h.signals]
    dsimp only
    split_ifs <;> simp_all [Signals.latch, Signals.raise]
  numbers := h.numbers
  blank := h.blank

/-- What depends on the Generator and the Audit Store alone is equal where these are. -/
theorem gen_audit_field {α : Type} (f : State → α) (hf : ∀ s x : State, f ((x.setGen s.gen).setAudit s.audit) = f s)
    (hgen : v.gen = u.gen) (haudit : v.audit = u.audit) : f v = f u := by
  rw [← hf v u, ← hf u u, hgen, haudit]

/-- What a draw makes of a state depends on its Generator, its Audit Store and its jobs, and on its feed signals. -/
theorem DrawMade.congr (h : DrawMade v w j d) (hgen : v.gen = u.gen) (haudit : v.audit = u.audit) (hjobs : v.jobs = u.jobs)
    (habsent : v.portAbsent = u.portAbsent) (hlatched : v.signals.latched .feedStarved = u.signals.latched .feedStarved)
    (hpending : ∀ q, v.signals.pending q .feedLow = u.signals.pending q .feedLow) : DrawMade u w j d := by
  have hafter := gen_audit_field (fun s => s.genAfter j) (fun _ _ => rfl) hgen haudit
  have htallies := gen_audit_field (fun s => s.talliesAfter j) (fun _ _ => rfl) hgen haudit
  have hwaiting := gen_audit_field (fun s => s.waitingOf j) (fun _ _ => rfl) hgen haudit
  have hwant := gen_audit_field (fun s => s.drawQuestion j) (fun _ _ => rfl) hgen haudit
  have hcount := gen_audit_field (fun s => s.drawCountAfter j) (fun _ _ => rfl) hgen haudit
  have hlist := gen_audit_field (fun s => s.listCountAfter j) (fun _ _ => rfl) hgen haudit
  have hstarved := gen_audit_field (fun s => s.starvedAfter j) (fun _ _ => rfl) hgen haudit
  have hfeed := gen_audit_field (fun s => s.feedAfter j) (fun _ _ => rfl) hgen haudit
  have hnumbers := gen_audit_field (fun s => s.numbersDrawn j) (fun _ _ => rfl) hgen haudit
  have hcause := gen_audit_field (fun s => s.causeDrawn j) (fun _ _ => rfl) hgen haudit
  exact {
    gen := h.gen.trans hafter
    jobs := by rw [h.jobs, hjobs, htallies]
    queue := by rw [h.queue, haudit, hgen, hwaiting, hwant]
    records := by rw [h.records, haudit, hwant, hcount, hlist]
    starved := by rw [h.starved, hlatched, hstarved]
    low := fun q hq => by rw [h.low q (habsent ▸ hq), hpending, hgen, hfeed]
    numbers := h.numbers.trans hnumbers
    blank := by rw [h.blank, hwant, hcause] }

/-- The draw after the reserve condition was cleared is that of the state before. -/
theorem Drew.made_of_clear (h : Drew u.clearReserve w j d) : DrawMade u w j d := by
  have hcore := core_clearReserve u
  refine h.made_of_same.congr (core_setPipe_field hcore State.gen (fun _ => rfl) (fun _ _ => rfl))
    (core_setPipe_field hcore State.audit (fun _ => rfl) (fun _ _ => rfl))
    (core_setPipe_field hcore State.jobs (fun _ => rfl) (fun _ _ => rfl))
    (core_setPipe_field hcore State.portAbsent (fun _ => rfl) (fun _ _ => rfl)) ?_ fun q => ?_
  all_goals rw [signals_clearReserve]; split <;> rfl

/-- The lanes a draw numbers are as many as the draw question said (R58). -/
theorem State.numbersDrawn_count :
    ((u.numbersDrawn j).filter Option.isSome).length = u.drawQuestion j := by
  have hpad : ∀ n (xs : List (Option LaneNumber)), (∀ x ∈ xs, x.isSome = true) →
      ((xs ++ List.replicate n none).filter Option.isSome).length = xs.length := by
    intro n xs hx
    rw [List.filter_append, List.filter_eq_self.2 hx]
    simp
  unfold State.numbersDrawn
  dsimp only
  cases hp : u.gen.phase with
  | makeUp =>
    have hq : u.drawQuestion j = min j.plan.lanes (u.waitingOf j).length := by
      simp only [State.drawQuestion, hp]
      rfl
    dsimp only
    rw [hpad]
    · simp [hq]
    · intro x hx
      obtain ⟨e, -, rfl⟩ := List.mem_map.1 hx
      rfl
  | sequence =>
    cases hc : u.gen.complete with
    | true => simp [State.drawQuestion, hp, hc]
    | false =>
      cases hs : j.plan.source with
      | sequence =>
        have hcount := u.drawQuestion_sequence hp hc hs
        rw [hcount, countNumbered_eq, sequenceLanes_numbers]
        rfl
      | list =>
        have hq : u.drawQuestion j = min j.plan.lanes (min u.gen.feed.length (j.plan.count - u.gen.listCount)) := by
          simp only [State.drawQuestion, hp, hc, hs, Bool.false_eq_true, if_false]
        simp only [Bool.false_eq_true, if_false]
        rw [hpad]
        · simp [hq]
        · intro x hx
          obtain ⟨e, -, rfl⟩ := List.mem_map.1 hx
          rfl

theorem DrawMade.count (h : DrawMade u v j d) : countNumbered d.lanes = u.drawQuestion j := by
  rw [countNumbered_eq, h.numbers, State.numbersDrawn_count]

/-- A draw that completes was not complete before, and numbers a lane (R61). -/
theorem State.doneAfter_true (h : u.doneAfter j = true) :
    u.gen.complete = false ∧ u.gen.phase = .sequence ∧ 0 < u.drawQuestion j := by
  simp only [State.doneAfter, State.drawsNow, Bool.and_eq_true, decide_eq_true_eq] at h
  obtain ⟨⟨hp, hq⟩, -⟩ := h
  refine ⟨?_, hp, hq⟩
  by_contra hc
  have hc : u.gen.complete = true := by simpa using hc
  simp [State.drawQuestion, hp, hc] at hq

theorem DrawMade.complete_iff (h : DrawMade u v j d) :
    (v.gen.complete = true ∧ u.gen.complete = false) ↔ u.doneAfter j = true := by
  rw [h.gen]
  constructor
  · rintro ⟨hc, hu⟩
    simpa [State.genAfter, hu] using hc
  · intro hd
    exact ⟨by simp [State.genAfter, hd], (State.doneAfter_true hd).1⟩

theorem DrawMade.running (h : DrawMade u v j d) (hrun : u.running = some j) :
    v.running = some { j with tallies := u.talliesAfter j j.tallies } := by
  unfold State.running at hrun ⊢
  rw [h.jobs, find_state_map _ _ (fun x => by split <;> rfl), hrun]
  simp

theorem DrawMade.oldestLoaded (h : DrawMade u v j d) (hnone : u.oldestLoaded = none) : v.oldestLoaded = none := by
  unfold State.oldestLoaded at hnone ⊢
  rw [h.jobs, find_state_map _ _ (fun x => by split <;> rfl), hnone]
  rfl

/-! ### The ways of steps 1 to 4 of R78 -/

/-- What the draw for a row does where the row is not spoiled, case by case (R78, R79). -/
inductive DrawWay (u v : State) (j : Job) (d : Drawn) : Prop
  /-- No lane to number: no reservation test. -/
  | idle : u.drawQuestion j = 0 → DrawMade u v j d → v.pipe = u.pipe → DrawWay u v j d
  /-- The reservation passes: the condition is cleared, and the draw made. -/
  | drawn : 0 < u.drawQuestion j → u.reservationOk (u.drawQuestion j) = true → DrawMade u v j d →
      v.pipe.reserve = false → (u.pipe.reserve = true → v.signals.held .voidReserve = false) → DrawWay u v j d
  /-- The reservation fails: the row is BLANK with HELD, and the condition set. -/
  | kept : 0 < u.drawQuestion j → u.reservationOk (u.drawQuestion j) = false → d = blankDrawn j.plan.lanes .held →
      v = u.setReserve → DrawWay u v j d

theorem Drew.held (h : Drew u w j d) : w.signals.held = u.signals.held := by
  rw [h.signals]
  dsimp only
  split_ifs <;> rfl

theorem State.drawForRow_way (hlanes : 0 < j.plan.lanes) (hqueue : u.gen.phase = .makeUp → QueueOk u.audit.queue)
    (hdraw : u.drawForRow j false = (d, v)) : Prepared u v j d ∧ DrawWay u v j d := by
  rcases Nat.eq_zero_or_pos (u.drawQuestion j) with hq | hq
  · have hdrew := State.draw_drew (s := u) (j := j) hlanes hqueue
    rw [← State.drawForRow_idle hq, hdraw] at hdrew
    have hprep : Prepared u u j d := .of_core rfl rfl (fun _ _ => rfl) (fun _ _ => rfl) hdrew.fresh
    exact ⟨hprep.drew rfl hdrew, .idle hq hdrew.made_of_same hdrew.frame.pipe⟩
  · cases hroom : u.reservationOk (u.drawQuestion j) with
    | true =>
      have hcore := core_clearReserve u
      have hpipe : u.clearReserve.pipe = { u.pipe with reserve := false } := core_field State.pipe (fun _ => rfl) hcore
      have haudit : u.clearReserve.audit = u.audit :=
        core_setPipe_field hcore State.audit (fun _ => rfl) (fun _ _ => rfl)
      have hjobs : u.clearReserve.jobs = u.jobs := core_setPipe_field hcore State.jobs (fun _ => rfl) (fun _ _ => rfl)
      have hgen : u.clearReserve.gen = u.gen := core_setPipe_field hcore State.gen (fun _ => rfl) (fun _ _ => rfl)
      have hdrew := State.draw_drew (s := u.clearReserve) (j := j) hlanes (by rw [hgen, haudit]; exact hqueue)
      rw [← State.drawForRow_drawn hq hroom, hdraw] at hdrew
      refine ⟨(Prepared.cleared u j hdrew.fresh).drew hjobs hdrew, .drawn hq hroom hdrew.made_of_clear ?_ fun hr => ?_⟩
      · rw [hdrew.frame.pipe, hpipe]
      · rw [hdrew.held, signals_clearReserve, if_pos hr]
        simp [Signals.finish]
    | false =>
      rw [State.drawForRow_held hq hroom] at hdraw
      obtain ⟨rfl, rfl⟩ := Prod.mk.injEq .. ▸ hdraw
      exact ⟨Prepared.held_back u j _ _, .kept hq hroom rfl rfl⟩

/-- Whatever way the draw goes, a draw that becomes complete numbers a lane. -/
theorem DrawWay.count (h : DrawWay u v j d) (hc : v.gen.complete = true)
    (hu : u.gen.complete = false) : 0 < countNumbered d.lanes := by
  have hmade : ∀ h : DrawMade u v j d, 0 < countNumbered d.lanes := fun h => by
    rw [h.count]
    exact (State.doneAfter_true (h.complete_iff.1 ⟨hc, hu⟩)).2.2
  cases h with
  | idle hq h => exact hmade h
  | drawn hq hr h => exact hmade h
  | kept hq hr hd hv =>
    have hgen : u.setReserve.gen = u.gen := core_setPipe_field (core_setReserve u) State.gen (fun _ => rfl) (fun _ _ => rfl)
    rw [hv, hgen, hu] at hc
    cases hc

end

end Sys2Proof.Machine

namespace Sys2Proof.Machine

/-! ## A form reported for the row at the next index (R77, R78) -/

section
variable {u v t : State} {j j' : Job} {d : Drawn} {p : Ply} {c : Pos} {a : Assignment} {causes : CauseSet} {ep : Epoch}
  {o0 : Pos} {n : Nat}

theorem openRows_succ (hnext : u.pipe.nextIndex = some n) (hrun : u.running = some j) (hep : u.trk.epoch = some ep)
    (ho0 : ep.o0 = some o0) (m : Nat) : openRows (m + 1) u = openRows m (u.openRow j ep o0 n) := by
  unfold openRows
  rw [hnext, hrun, hep]
  dsimp only
  rw [ho0]
  cases m <;> rfl

theorem State.formReport_opens (hcond : u.audit.condition = .normal) (hnext : u.pipe.nextIndex = some n) (m : Nat) :
    u.formReport p (n + m) a c causes = (openRows (m + 1) u).assignReport p (n + m) a c causes := by
  have hm : n + m + 1 - n = m + 1 := by omega
  unfold State.formReport
  rw [if_neg (by simp [hcond]), hnext]
  dsimp only
  rw [if_pos (Nat.le_add_right n m), hm]

/-- A form reported for the row at the next index is given to the row that opens. -/
theorem State.formReport_next (hcond : u.audit.condition = .normal) (hnext : u.pipe.nextIndex = some n)
    (hrun : u.running = some j) (hep : u.trk.epoch = some ep) (ho0 : ep.o0 = some o0) :
    u.formReport p n a c causes = (u.openRow j ep o0 n).assignReport p n a c causes :=
  (State.formReport_opens hcond hnext 0).trans
    (congrArg (fun x => x.assignReport p n a c causes) (openRows_succ hnext hrun hep ho0 0))

/-- The way steps 1 to 4 of R78 take for a row, spoiled or not. -/
def DrawStep (u v : State) (j : Job) (d : Drawn) (spoiled : Bool) : Prop :=
  if spoiled then d = blankDrawn j.plan.lanes .spliceAhead ∧ v = u else DrawWay u v j d

theorem State.drawForRow_step (hlanes : 0 < j.plan.lanes) (hqueue : u.gen.phase = .makeUp → QueueOk u.audit.queue)
    (spoiled : Bool) :
    ∃ d v, u.drawForRow j spoiled = (d, v) ∧ Prepared u v j d ∧ DrawStep u v j d spoiled := by
  cases spoiled with
  | true => exact ⟨_, _, rfl, Prepared.blank u j _ _, rfl, rfl⟩
  | false =>
    obtain ⟨hprep, hway⟩ := State.drawForRow_way (d := (u.drawForRow j false).1) (v := (u.drawForRow j false).2) hlanes hqueue rfl
    exact ⟨_, _, rfl, hprep, hway⟩

theorem DrawStep.count {spoiled : Bool} (h : DrawStep u v j d spoiled) (hc : v.gen.complete = true)
    (hu : u.gen.complete = false) : 0 < countNumbered d.lanes := by
  cases spoiled with
  | true =>
    obtain ⟨-, rfl⟩ := h
    rw [hu] at hc
    cases hc
  | false => exact DrawWay.count h hc hu

/-- The form given to the row that it opens. -/
theorem State.row_given (hlanes : 0 < j.plan.lanes) (hqueue : u.gen.phase = .makeUp → QueueOk u.audit.queue)
    (hjobs : JobsOk u.jobs) (hcond : u.audit.condition = .normal) (hrun : u.running = some j) (hmask : inMask ep.mask p = true)
    (hold : ∀ r ∈ u.pipe.rows, r.k < n) (hahead : u.RowAhead n (rowOrigin o0 ep.repeatUm n) p c) :
    ∃ d v y, DrawStep u v j d (u.openingSpoiled ep (rowOrigin o0 ep.repeatUm n)) ∧ Prepared u v j d ∧
      v.running = some { j with tallies := y } ∧
      RowGiven u v ((u.openRow j ep o0 n).assignReport p n a c causes).startSending j { j with tallies := y } p c a causes
        (newRow n (rowOrigin o0 ep.repeatUm n) j.id ep.mask d) := by
  obtain ⟨d, v, hdraw, hprep, hstep⟩ := State.drawForRow_step hlanes hqueue
    (u.openingSpoiled ep (rowOrigin o0 ep.repeatUm n))
  obtain ⟨y, hy⟩ := hprep.running hrun
  obtain ⟨hsettled, hstays, hdrains⟩ := State.openRow_settled hdraw hprep hstep.count hahead hjobs hcond hy rfl rfl
  have hply := fun d => (newRow_plyRec n (rowOrigin o0 ep.repeatUm n) j.id ep.mask d p).trans (if_pos hmask)
  exact ⟨d, v, y, hstep, hprep, hy, hsettled.given hprep rfl rfl rfl rfl (hply _) rfl (fun x hx => Nat.ne_of_lt (hold x hx))
    hahead causes hstays hdrains⟩

/-! ### What stands once the form is given -/

variable {r : Row}

theorem State.positionsOf_windows (u : State) (r : Row) (p : Ply) :
    (u.positionsOf r).filter (fun y => decide (y.ev = .windowEnd p)) = [] := by
  simp [State.positionsOf]

theorem State.sendEntries_windows (u : State) (p q : Ply) (c : Pos) (r : Row) :
    (u.sendEntries p c r).filter (fun y => decide (y.ev = .windowEnd q)) = [] := by
  unfold State.sendEntries
  split <;> simp

theorem RowGiven.sameMarks (h : RowGiven u v t j j' p c a causes r) (hprep : Prepared u v j d)
    (hrun : u.running = some j) (q : Ply) : SameMarks u t q := by
  refine ⟨h.marks, by rw [h.trk], fun x => ?_, ?_, ?_, ?_, fun _ => by rw [hrun]; rfl⟩
  · rw [h.pending _ _ (by decide), hprep.pending _ _ (by decide)]
  · rw [h.held, hprep.held _ (by simp)]
  · rw [h.latched _ (by simp), hprep.latched _ (by simp) (by simp)]
  · rw [h.schedule, List.filter_append, State.sendEntries_windows, List.append_nil]
    split
    · rw [List.filter_append, State.positionsOf_windows, List.append_nil]
    · rw [List.filter_filter, List.filter_eq_nil_iff]
      intro y _
      cases hev : y.ev <;> simp

/-- A position that is no window end stands in the schedule. -/
theorem RowGiven.mem_schedule (h : RowGiven u v t j j' p c a causes r) {y : Scheduled}
    (hy : y ∈ u.trk.schedule ++ u.positionsOf r) (hev : ∀ q, y.ev ≠ .windowEnd q) : y ∈ t.trk.schedule := by
  rw [h.schedule]
  refine List.mem_append_left _ ?_
  split
  · exact hy
  · refine List.mem_filter.2 ⟨hy, ?_⟩
    cases hx : y.ev with
    | windowEnd q => exact absurd hx (hev q)
    | _ => rfl

theorem RowGiven.positions (h : RowGiven u v t j j' p c a causes r) :
    ⟨r.origin, .merge r.k⟩ ∈ t.trk.schedule ∧ ⟨r.origin + BitVec.ofNat 40 u.trk.v, .marker r.k⟩ ∈ t.trk.schedule ∧
    ⟨r.origin + BitVec.ofNat 40 u.trk.x, .delivery r.k⟩ ∈ t.trk.schedule ∧
    (0 < r.numbered → ⟨u.sendPos p c, .send p r.k⟩ ∈ t.trk.schedule) := by
  have hpos : ∀ y ∈ u.positionsOf r, y ∈ u.trk.schedule ++ u.positionsOf r := fun y => List.mem_append_right _
  refine ⟨h.mem_schedule (hpos _ ?_) (by simp), h.mem_schedule (hpos _ ?_) (by simp), h.mem_schedule (hpos _ ?_) (by simp),
    fun hn => ?_⟩
  · simp [State.positionsOf]
  · simp [State.positionsOf, posFwd]
  · simp [State.positionsOf, posFwd]
  · rw [h.schedule]
    exact List.mem_append_right _ (by simp [State.sendEntries, hn])

/-- No window end stands where no job runs on (R38). -/
theorem RowGiven.no_window (h : RowGiven u v t j j' p c a causes r) (hrun : t.running = none) (q : Ply) :
    ∀ y ∈ t.trk.schedule, y.ev ≠ .windowEnd q := by
  intro y hy hev
  rw [h.schedule, hrun] at hy
  rcases List.mem_append.1 hy with hy | hy
  · have := (List.mem_filter.1 hy).2
    rw [hev] at this
    cases this
  · unfold State.sendEntries at hy
    split at hy
    · rw [List.mem_singleton.1 hy] at hev
      cases hev
    · cases hy

/-- The plies' records of the row opened, the form given to ply p (R78, R81). -/
theorem newRow_assigned_plyRec (k : Nat) (origin : Pos) (id : Nat) (d : Drawn) (hexp : Bool) (q : Ply) :
    let r := newRow k origin id ep.mask d
    (r.assigned p a causes hexp).plyRec q = if inMask ep.mask q then
      some { ply := q
             assign := if q = p then a else .none
             order := if q = p ∧ 0 < r.numbered then .scheduled else .notDue
             reads := if q = p ∧ hexp = true then r.awaitedReads else PerLane.all .noneExpected }
      else none := by
  intro r
  rw [Row.assigned_plyRec, newRow_plyRec]
  by_cases hq : inMask ep.mask q = true
  · rw [if_pos hq, if_pos hq]
    by_cases hqp : q = p
    · simp [hqp]
    · simp [hqp]
  · rw [if_neg hq, if_neg hq]
    rfl

end

end Sys2Proof.Machine

namespace Sys2Proof.Machine

/-! ## From the report to the row: what the Mark Unit has not touched -/

section
variable {s u v t : State} {j j' : Job} {d : Drawn} {p : Ply} {c : Pos} {a : Assignment} {ep : Epoch} {o0 : Pos} {k n : Nat}

theorem Taken.rowAhead (h : Taken s u p ep k c a) {origin : Pos} (hahead : s.RowAhead n origin p c) :
    u.RowAhead n origin p c := by
  obtain ⟨hnone, hrest⟩ := hahead
  have htrk : u.trk = { s.trk with
      capture := s.trk.capture.withForm p k c a
      schedule := s.windowed p ep c k } := h.field State.trk fun _ => rfl
  have hsend : u.sendPos p c = s.sendPos p c := h.field (fun x => x.sendPos p c) fun _ => rfl
  refine ⟨fun y hy => ?_, by rw [hsend, htrk]; exact hrest⟩
  rw [htrk] at hy
  rcases State.mem_windowed hy with hy | hy
  · exact hnone y hy
  · rw [hy]
    simp

theorem State.formSignals_latched (s : State) (p : Ply) (ep : Epoch) (k : Nat) (a : Assignment) {x : StopCause}
    (hx : ∀ q, x ≠ .markLost q) : (s.formSignals p ep k a).latched x = s.signals.latched x := by
  have hne := (hx p).symm
  unfold State.formSignals
  split
  · split <;> rfl
  · split <;> simp [Signals.start, hne]

theorem State.formSignals_held (s : State) (p : Ply) (ep : Epoch) (k : Nat) (a : Assignment) {x : StopCause}
    (hx : ∀ q, x ≠ .markLost q) : (s.formSignals p ep k a).held x = s.signals.held x := by
  have hne := (hx p).symm
  unfold State.formSignals
  split
  · split <;> simp [Signals.finish, Signals.raise, hne]
  · split <;> simp [Signals.start, hne]

theorem State.formSignals_pending (s : State) (p : Ply) (ep : Epoch) (k : Nat) (a : Assignment) {x : Attention}
    (hx : x ≠ .drift) (q : Port) : (s.formSignals p ep k a).pending q x = s.signals.pending q x := by
  unfold State.formSignals
  split
  · split <;> simp [Signals.finish, Signals.raise, hx.symm]
  · split <;> rfl

/-- A draw made after the Mark Unit took the form is a draw of the state before. -/
theorem Taken.drawMade (h : Taken s u p ep k c a) (hmade : DrawMade u v j d) : DrawMade s v j d := by
  refine hmade.congr (h.field State.gen fun _ => rfl) (h.field State.audit fun _ => rfl) (h.field State.jobs fun _ => rfl)
    (h.field State.portAbsent fun _ => rfl) ?_ fun q => ?_
  · rw [h.signals]
    exact s.formSignals_latched p ep k a (by simp)
  · rw [h.signals]
    exact s.formSignals_pending p ep k a (by decide) q

/-- The causes of ply p's form at cue position `c` by its kind (R30, R31, R36). -/
def State.causesOf (s : State) (p : Ply) (c : Pos) (a : Assignment) : CauseSet :=
  (if s.isSpoiled p c then CauseSet.ofList [.splice] else 0) ||| (match a with
    | .mark _ e => if |e| ≤ ((s.plies.get p).t : Int) then 0 else CauseSet.ofList [.register]
    | .flywheel _ => if 1 ≤ (s.marks.get p).missed then CauseSet.ofList [.noMark] else 0
    | .none => 0)

theorem State.formCauses_eq (s : State) (p : Ply) (c : Pos) (ha : a ≠ .none) : s.formCauses p c a = s.causesOf p c a := by
  cases a with
  | none => exact absurd rfl ha
  | mark c' e => rfl
  | flywheel c' =>
    have hiff : 2 ≤ min ((s.marks.get p).missed + 1) 255 ↔ 1 ≤ (s.marks.get p).missed := by omega
    show s.flywheelCauses p c = _
    unfold State.flywheelCauses State.causesOf
    simp only [hiff]
    rfl

theorem State.openingSpoiled_iff (s : State) (ep : Epoch) (origin : Pos) : s.openingSpoiled ep origin = true ↔
    ∃ q, inMask ep.mask q = true ∧ s.isSpoiled q (origin - BitVec.ofNat 40 (s.plies.get q).d) = true := by
  unfold State.openingSpoiled
  rw [List.any_eq_true]
  refine exists_congr fun q => and_congr_left' mem_maskPlies

/-! ## The draw's outcome, once the row stands -/

variable {causes : CauseSet} {r : Row}

theorem DrawMade.tallies (h : DrawMade s v j d) (hrun : s.running = some j) (hv : v.running = some j') :
    j' = { j with tallies := s.talliesAfter j j.tallies } := by
  have := h.running hrun
  rw [hv] at this
  exact Option.some.inj this

/-- A job that does not drain runs on, and its Generator holds what the draw made of it. -/
theorem RowGiven.runs (h : RowGiven u v t j j' p c a causes r) (hmade : DrawMade s v j d) (hgen : u.gen = s.gen)
    (hjobs : JobsOk v.jobs) (hrun : v.running = some j') (hid : j'.id = j.id)
    (hdone : ¬(s.doneAfter j = true ∧ j.plan.accounting = .logOnly)) :
    (t.job j.id).map Job.state = some .running ∧ t.gen =
      { s.gen with
        r := s.drawCountAfter j
        listCount := s.listCountAfter j
        feed := s.feedAfter j
        complete := s.gen.complete || s.doneAfter j
        phase := if s.doneAfter j then .makeUp else s.gen.phase } := by
  have hnew : ¬(v.gen.complete = true ∧ u.gen.complete = false ∧ j.plan.accounting = .logOnly) := by
    rintro ⟨hv, hu, hlog⟩
    exact hdone ⟨hmade.complete_iff.1 ⟨hv, hgen ▸ hu⟩, hlog⟩
  obtain ⟨htgen, htjobs, -⟩ := h.stays hnew
  constructor
  · have hjob : t.job j.id = v.job j.id := by
      unfold State.job
      rw [htjobs]
    rw [hjob, ← hid, State.job_of_running hjobs hrun, Option.map_some, (State.running_mem hrun).2]
  · have hstrict : (s.doneAfter j = true ∧ j.plan.accounting = .strict) ↔ s.doneAfter j = true := by
      refine ⟨And.left, fun hd => ⟨hd, ?_⟩⟩
      cases hacc : j.plan.accounting with
      | strict => rfl
      | logOnly => exact absurd ⟨hd, hacc⟩ hdone
    rw [htgen, hmade.gen]
    simp only [State.genAfter, hstrict]

/-- A LOG_ONLY job whose draw is complete is DRAINING, its draw values handed back (R54, R61, R132). -/
theorem RowGiven.drained (h : RowGiven u v t j j' p c a causes r) (hmade : DrawMade s v j d) (hgen : u.gen = s.gen)
    (hplan : j'.plan = j.plan) (hdone : s.doneAfter j = true) (hlog : j.plan.accounting = .logOnly) :
    (t.job j.id).map (fun z => (z.state, z.drain, z.draw)) = some (.draining, some .complete,
      some { r := s.drawCountAfter j
             listCount := s.listCountAfter j
             discarded := if j.plan.source = .list then (s.feedAfter j).length else 0 }) ∧
    (s.oldestLoaded = none → t.running = none ∧ (∀ q, ∀ y ∈ t.trk.schedule, y.ev ≠ .windowEnd q) ∧
      t.gen.feed = if j.plan.source = .list then [] else s.gen.feed) := by
  obtain ⟨hv, hu⟩ := hmade.complete_iff.2 hdone
  obtain ⟨hjob, hidle⟩ := h.drains hv (hgen ▸ hu) hlog
  refine ⟨?_, fun hnone => ?_⟩
  · rw [hjob, Option.map_some]
    unfold State.handedValues
    rw [hplan, hmade.gen]
    rfl
  · obtain ⟨hrun, hfeed⟩ := hidle (hmade.oldestLoaded hnone)
    refine ⟨hrun, h.no_window hrun, ?_⟩
    rw [hfeed]
    split <;> rename_i hl
    · rfl
    · have hlist : s.drawsList j = false := by simp [State.drawsList, hl]
      rw [hmade.gen]
      simp [State.genAfter, State.feedAfter, hlist]

theorem RowGiven.recorded (h : RowGiven u v t j j' p c a causes r) (hmade : DrawMade s v j d) (hq : 0 < s.drawQuestion j)
    {z : RecoveryRecord} (hz : z ∈ s.audit.records) (hjob : z.job = j.id) (hopen : z.state = .opened) :
    { z with r := s.drawCountAfter j, listCount := s.listCountAfter j, drawn := z.drawn + s.drawQuestion j } ∈
      t.audit.records := by
  obtain ⟨extra, hextra⟩ := h.records
  rw [hextra, hmade.records]
  refine List.mem_append_left _ (List.mem_map.2 ⟨z, hz, if_pos ⟨hq, hjob, hopen⟩⟩)

end

end Sys2Proof.Machine

namespace Sys2Proof.Machine

/-! ## A form reported for the row at the next index opens it (R77, R78) -/

section
variable {s u v t : State} {cmd : Instr} {j j' : Job} {d : Drawn} {p : Ply} {c : Pos} {a : Assignment} {ep : Epoch} {o0 : Pos}
  {n : Nat}

theorem State.Reports.opens (hrep : s.Reports cmd p ep o0 n c a) (hahead : s.RowAhead n (rowOrigin o0 ep.repeatUm n) p c)
    (hlanes : 0 < j.plan.lanes) (hcond : s.audit.condition = .normal) (hjobs : JobsOk s.jobs)
    (hqueue : s.gen.phase = .makeUp → QueueOk s.audit.queue) (hrun : s.running = some j) (hnext : s.pipe.nextIndex = some n)
    (hold : ∀ r ∈ s.pipe.rows, r.k < n) :
    ∃ u d v y t, Machine.exec cmd s = .next t ∧ Taken s u p ep n c a ∧ a ≠ .none ∧
      DrawStep u v j d (s.openingSpoiled ep (rowOrigin o0 ep.repeatUm n)) ∧ Prepared u v j d ∧
      v.running = some { j with tallies := y } ∧
      RowGiven u v t j { j with tallies := y } p c a (s.formCauses p c a)
        (newRow n (rowOrigin o0 ep.repeatUm n) j.id ep.mask d) := by
  obtain ⟨u, hexec, htaken, ha⟩ := hrep.exec
  obtain ⟨hep, ho0, hmask, -⟩ := hrep
  have hgen : u.gen = s.gen := htaken.field State.gen fun _ => rfl
  have haudit : u.audit = s.audit := htaken.field State.audit fun _ => rfl
  have hpipe : u.pipe = s.pipe := htaken.field State.pipe fun _ => rfl
  have hurun : u.running = some j := (htaken.field State.running fun _ => rfl).trans hrun
  have huep : u.trk.epoch = some ep := (htaken.field (fun x => x.trk.epoch) fun _ => rfl).trans hep
  have hspoiled : u.openingSpoiled ep (rowOrigin o0 ep.repeatUm n) = s.openingSpoiled ep (rowOrigin o0 ep.repeatUm n) :=
    htaken.field (fun x => x.openingSpoiled ep (rowOrigin o0 ep.repeatUm n)) fun _ => rfl
  have hucond : u.audit.condition = .normal := by rw [haudit, hcond]
  have hunext : u.pipe.nextIndex = some n := by rw [hpipe, hnext]
  obtain ⟨d, v, y, hstep, hprep, hv, hgiven⟩ := State.row_given (u := u) (a := a) (causes := s.formCauses p c a) hlanes
    (by rw [haudit, hgen]; exact hqueue) ((htaken.field State.jobs fun _ => rfl) ▸ hjobs) hucond hurun hmask
    (by rw [hpipe]; exact hold) (htaken.rowAhead hahead)
  rw [State.formReport_next hucond hunext hurun huep ho0] at hexec
  exact ⟨u, d, v, y, _, hexec, htaken, ha, hspoiled ▸ hstep, hprep, hv, hgiven⟩

variable {causes : CauseSet} {cause : BlankCause} {origin : Pos}

/-- A row opened BLANK with nothing drawn: what stands (R46, R79). -/
theorem RowGiven.blank_row (h : RowGiven u v t j j' p c a causes
      (newRow n origin j.id ep.mask (blankDrawn j.plan.lanes cause)))
    (hgen : v.gen = u.gen) :
    (newRow n origin j.id ep.mask (blankDrawn j.plan.lanes cause)).numbered = 0 ∧
    t.gen = u.gen ∧ t.jobs = v.jobs ∧ t.audit = v.audit ∧ t.pipe.reserve = v.pipe.reserve := by
  have hnew : ¬(v.gen.complete = true ∧ u.gen.complete = false ∧ j.plan.accounting = .logOnly) := by
    rintro ⟨hc, hu, -⟩
    rw [hgen, hu] at hc
    cases hc
  obtain ⟨htgen, htjobs, htaudit⟩ := h.stays hnew
  exact ⟨countNumbered_blank _, htgen.trans hgen, htjobs, htaudit, by rw [h.pipe]⟩

/-- The draw was made where the row is not spoiled and its lanes, if any, have room (R78, R79). -/
theorem DrawWay.made (h : DrawWay u v j d) (hq : u.drawQuestion j = 0 ∨ u.reservationOk (u.drawQuestion j) = true) :
    DrawMade u v j d := by
  cases h with
  | idle _ h => exact h
  | drawn _ _ h => exact h
  | kept hpos hroom =>
    rcases hq with hq | hq
    · omega
    · rw [hroom] at hq
      cases hq

theorem DrawWay.reserve_idle (h : DrawWay u v j d) (hq : u.drawQuestion j = 0) : v.pipe = u.pipe := by
  cases h with
  | idle _ _ h => exact h
  | drawn hpos => omega
  | kept hpos => omega

theorem DrawWay.reserve_drawn (h : DrawWay u v j d) (hpos : 0 < u.drawQuestion j)
    (hroom : u.reservationOk (u.drawQuestion j) = true) :
    v.pipe.reserve = false ∧ (u.pipe.reserve = true → v.signals.held .voidReserve = false) := by
  cases h with
  | idle hq => omega
  | drawn _ _ _ hr hh => exact ⟨hr, hh⟩
  | kept _ hno =>
    rw [hroom] at hno
    cases hno

theorem DrawWay.reserve_kept (h : DrawWay u v j d) (hpos : 0 < u.drawQuestion j)
    (hroom : u.reservationOk (u.drawQuestion j) = false) : d = blankDrawn j.plan.lanes .held ∧ v = u.setReserve := by
  cases h with
  | idle hq => omega
  | drawn _ hyes =>
    rw [hroom] at hyes
    cases hyes
  | kept _ _ hd hv => exact ⟨hd, hv⟩

theorem State.setReserve_same (u : State) : u.setReserve.gen = u.gen ∧ u.setReserve.jobs = u.jobs ∧
    u.setReserve.audit = u.audit ∧ u.setReserve.pipe.reserve = true := by
  have hcore := core_setReserve u
  refine ⟨core_setPipe_field hcore State.gen (fun _ => rfl) (fun _ _ => rfl),
    core_setPipe_field hcore State.jobs (fun _ => rfl) (fun _ _ => rfl),
    core_setPipe_field hcore State.audit (fun _ => rfl) (fun _ _ => rfl), ?_⟩
  rw [core_field State.pipe (fun _ => rfl) hcore]
  rfl

/-- The reserve condition that starts is held, and latched where what is held is latched (R79, R166). -/
theorem State.setReserve_latches (u : State) (hr : u.pipe.reserve = false)
    (hheld : u.signals.held .voidReserve = true → u.signals.latched .voidReserve = true) :
    u.setReserve.signals.latched .voidReserve = true ∧ u.setReserve.signals.held .voidReserve = true := by
  rw [signals_setReserve, hr]
  cases hh : u.signals.held .voidReserve with
  | true => simp [Signals.start, hheld hh]
  | false => simp [Signals.start, hh]

end

end Sys2Proof.Machine

namespace Sys2Proof.Machine

/-! ## The row that stands, whatever was drawn -/

/-- In `t` row n stands, opened at its origin for the RUNNING job and given ply p's form, its positions scheduled and its send
request and expectation handed; the next index follows, and the other blocks are those of `s`. -/
structure RowStands (s t : State) (p : Ply) (ep : Epoch) (j : Job) (n : Nat) (origin c : Pos) (a : Assignment)
    (causes : CauseSet) (r : Row) : Prop where
  rows : t.pipe.rows = s.pipe.rows ++ [r]
  nextIndex : t.pipe.nextIndex = if n = 4294967295 then none else some (n + 1)
  discarded : t.pipe.formsDiscarded = s.pipe.formsDiscarded
  k : r.k = n
  atOrigin : r.origin = origin
  job : r.job = j.id
  stage : r.stage = .opened
  lanes : ∀ l ∈ r.lanes, l.marked = false ∧ l.causes = if l.isNumbered then causes else 0
  plies : ∀ q, r.plyRec q = if inMask ep.mask q then
      some { ply := q
             assign := if q = p then a else .none
             order := if q = p ∧ 0 < r.numbered then .scheduled else .notDue
             reads := if q = p ∧ 0 < r.numbered ∧ j.plan.policy ≠ .off ∧ (s.plies.get p).reader = true then r.awaitedReads
               else PerLane.all .noneExpected }
    else none
  merge : ⟨origin, .merge n⟩ ∈ t.trk.schedule
  marker : ⟨origin + BitVec.ofNat 40 s.trk.v, .marker n⟩ ∈ t.trk.schedule
  delivery : ⟨origin + BitVec.ofNat 40 s.trk.x, .delivery n⟩ ∈ t.trk.schedule
  send : 0 < r.numbered → ⟨s.sendPos p c, .send p n⟩ ∈ t.trk.schedule
  requests : t.requests = s.requests ++
    (if 0 < r.numbered then [⟨p, n, s.sendPos p c, c + BitVec.ofNat 40 (s.plies.get p).l⟩] else [])
  marks : s.MarkTaken t p ep n c a
  readers : t.readers = s.expecting p c r j.plan.policy
  zones : t.zones = s.zones
  drivers : t.drivers = s.drivers
  shift : t.shift = s.shift
  monitors : t.monitors = s.monitors
  voids : t.audit.voids = s.audit.voids
  inFlight : t.audit.inFlight = s.audit.inFlight
  epoch : t.trk.epoch = s.trk.epoch

section
variable {s u v t : State} {j j' : Job} {d : Drawn} {p : Ply} {c : Pos} {a : Assignment} {ep : Epoch} {n : Nat} {origin : Pos}
  {causes : CauseSet}

/-- The row as it stands with the form given to it. -/
def State.rowFor (s : State) (j : Job) (ep : Epoch) (n : Nat) (origin : Pos) (p : Ply) (a : Assignment) (causes : CauseSet)
    (d : Drawn) : Row :=
  let r := newRow n origin j.id ep.mask d
  r.assigned p a causes (s.readsFor p j.plan.policy r)

theorem State.rowFor_numbered : (s.rowFor j ep n origin p a causes d).numbered = countNumbered d.lanes :=
  Row.assigned_numbered ..

theorem State.readsFor_iff {policy : ReadPolicy} {r : Row} : s.readsFor p policy r = true ↔
    0 < r.numbered ∧ policy ≠ .off ∧ (s.plies.get p).reader = true := by
  simp [State.readsFor, and_assoc]

theorem State.rowFor_plyRec (q : Ply) :
    let r := s.rowFor j ep n origin p a causes d
    r.plyRec q = if inMask ep.mask q then
      some { ply := q
             assign := if q = p then a else .none
             order := if q = p ∧ 0 < r.numbered then .scheduled else .notDue
             reads := if q = p ∧ 0 < r.numbered ∧ j.plan.policy ≠ .off ∧ (s.plies.get p).reader = true then r.awaitedReads
               else PerLane.all .noneExpected }
    else none := by
  intro r
  have hnum : r.numbered = (newRow n origin j.id ep.mask d).numbered := Row.assigned_numbered ..
  have hawaited : r.awaitedReads = (newRow n origin j.id ep.mask d).awaitedReads := Row.assigned_awaitedReads ..
  simp only [hnum, hawaited, ← State.readsFor_iff]
  exact newRow_assigned_plyRec n origin j.id d _ q

theorem RowGiven.stands (h : RowGiven u v t j j' p c a causes (newRow n origin j.id ep.mask d)) (hprep : Prepared u v j d)
    (htaken : Taken s u p ep n c a) (ha : a ≠ .none) (hrun : s.running = some j)
    (hlost : ∀ x, a = .flywheel x → s.signals.held (.markLost p) = true → s.signals.latched (.markLost p) = true) :
    RowStands s t p ep j n origin c a causes (s.rowFor j ep n origin p a causes d) := by
  have hpipe : u.pipe = s.pipe := htaken.field State.pipe fun _ => rfl
  have hplies : u.plies = s.plies := htaken.field State.plies fun _ => rfl
  have hreads : u.readers = s.readers := htaken.field State.readers fun _ => rfl
  have haudit : u.audit = s.audit := htaken.field State.audit fun _ => rfl
  have hsend : u.sendPos p c = s.sendPos p c := htaken.field (fun x => x.sendPos p c) fun _ => rfl
  have hfor : ∀ r, u.readsFor p j.plan.policy r = s.readsFor p j.plan.policy r := fun r =>
    htaken.field (fun x => x.readsFor p j.plan.policy r) fun _ => rfl
  have hsends : ∀ r, u.sendsFor p c r = s.sendsFor p c r := fun r => htaken.field (fun x => x.sendsFor p c r) fun _ => rfl
  have hv : u.trk.v = s.trk.v := htaken.field (fun x => x.trk.v) fun _ => rfl
  have hx : u.trk.x = s.trk.x := htaken.field (fun x => x.trk.x) fun _ => rfl
  have hurun : u.running = some j := (htaken.field State.running fun _ => rfl).trans hrun
  obtain ⟨hmerge, hmarker, hdelivery, hsent⟩ := h.positions
  rw [hv] at hmarker
  rw [hx] at hdelivery
  rw [hsend] at hsent
  have htpipe := h.pipe
  rw [hfor] at htpipe
  have hreaders := h.readers
  rw [hfor, State.expecting_congr hplies hreads] at hreaders
  have hrequests := h.requests
  rw [hsends] at hrequests
  have hvpipe := hprep.pipe
  exact {
    rows := by rw [htpipe, hpipe]; rfl
    nextIndex := by rw [htpipe]; rfl
    discarded := by rw [htpipe, hvpipe, hpipe]
    k := rfl
    atOrigin := rfl
    job := rfl
    stage := rfl
    lanes := Row.assigned_fresh hprep.fresh _ _ _ _
    plies := State.rowFor_plyRec
    merge := hmerge
    marker := hmarker
    delivery := hdelivery
    send := by rw [State.rowFor_numbered]; exact hsent
    requests := by
      rw [hrequests, State.rowFor_numbered, htaken.field State.requests fun _ => rfl]
      rfl
    marks := htaken.markTaken ha hlost (h.sameMarks hprep hurun p)
    readers := hreaders
    zones := h.zones.trans (htaken.field State.zones fun _ => rfl)
    drivers := h.drivers.trans (htaken.field State.drivers fun _ => rfl)
    shift := h.shift.trans (htaken.field State.shift fun _ => rfl)
    monitors := h.monitors.trans (htaken.field State.monitors fun _ => rfl)
    voids := by rw [h.audit, hprep.voids, haudit]
    inFlight := by rw [h.audit, hprep.inFlight, haudit]
    epoch := by rw [h.trk]; exact htaken.field (fun x => x.trk.epoch) fun _ => rfl }

/-! ## What the draw left, in the state after the report -/

/-- The row was opened BLANK, and nothing drawn. -/
structure NothingDrawn (s t : State) (j : Job) (r : Row) (cause : BlankCause) : Prop where
  lanes : r.lanes = List.replicate j.plan.lanes blankLane
  blank : r.blank = some cause
  gen : t.gen = s.gen
  jobs : t.jobs = s.jobs
  audit : t.audit = s.audit

theorem RowGiven.nothingDrawn {cause : BlankCause} (h : RowGiven u v t j j' p c a causes
      (newRow n origin j.id ep.mask (blankDrawn j.plan.lanes cause))) (htaken : Taken s u p ep n c a)
    (hgen : v.gen = u.gen) (hjobs : v.jobs = u.jobs) (haudit : v.audit = u.audit) :
    NothingDrawn s t j (s.rowFor j ep n origin p a causes (blankDrawn j.plan.lanes cause)) cause ∧
    t.pipe.reserve = v.pipe.reserve := by
  obtain ⟨-, htgen, htjobs, htaudit, htreserve⟩ := h.blank_row hgen
  exact ⟨⟨Row.assigned_blank rfl _ _ _ _, rfl, htgen.trans (htaken.field State.gen fun _ => rfl),
    (htjobs.trans hjobs).trans (htaken.field State.jobs fun _ => rfl),
    (htaudit.trans haudit).trans (htaken.field State.audit fun _ => rfl)⟩, htreserve⟩

/-- The row was drawn: the numbers of its lanes, and what the Generator, the job, the queue and the records hold (R59 to R61, R65,
R66, R69, R132). -/
structure DrawOutcome (s t : State) (j : Job) (r : Row) : Prop where
  numbers : r.lanes.map LaneRec.number = s.numbersDrawn j
  blank : r.blank = if s.drawQuestion j = j.plan.lanes then none else some (s.causeDrawn j)
  queue : t.audit.queue = s.audit.queue.map (fun e =>
    if s.gen.phase = .makeUp ∧ e ∈ (s.waitingOf j).take (s.drawQuestion j) then { e with state := .issued } else e)
  tallies : (t.job j.id).map Job.tallies = some (s.talliesAfter j j.tallies)
  records : 0 < s.drawQuestion j → ∀ z ∈ s.audit.records, z.job = j.id → z.state = .opened →
    { z with r := s.drawCountAfter j, listCount := s.listCountAfter j, drawn := z.drawn + s.drawQuestion j } ∈ t.audit.records
  starved : t.signals.latched .feedStarved = (s.signals.latched .feedStarved || s.starvedAfter j)
  low : ∀ q, s.portAbsent q = false → t.signals.pending q .feedLow = (s.signals.pending q .feedLow ||
    decide (s.gen.lowMark ≤ s.gen.feed.length ∧ (s.feedAfter j).length < s.gen.lowMark))
  runs : ¬(s.doneAfter j = true ∧ j.plan.accounting = .logOnly) → (t.job j.id).map Job.state = some .running ∧ t.gen =
    { s.gen with
      r := s.drawCountAfter j
      listCount := s.listCountAfter j
      feed := s.feedAfter j
      complete := s.gen.complete || s.doneAfter j
      phase := if s.doneAfter j then .makeUp else s.gen.phase }
  drained : s.doneAfter j = true → j.plan.accounting = .logOnly →
    (t.job j.id).map (fun z => (z.state, z.drain, z.draw)) = some (.draining, some .complete,
      some { r := s.drawCountAfter j
             listCount := s.listCountAfter j
             discarded := if j.plan.source = .list then (s.feedAfter j).length else 0 }) ∧
    (s.oldestLoaded = none → t.running = none ∧ (∀ q, ∀ y ∈ t.trk.schedule, y.ev ≠ .windowEnd q) ∧
      t.gen.feed = if j.plan.source = .list then [] else s.gen.feed)

theorem RowGiven.drawOutcome (h : RowGiven u v t j j' p c a causes (newRow n origin j.id ep.mask d)) (hprep : Prepared u v j d)
    (htaken : Taken s u p ep n c a) (hmade : DrawMade s v j d) (hjobs : JobsOk s.jobs) (hrun : s.running = some j)
    (hv : v.running = some j') : DrawOutcome s t j (s.rowFor j ep n origin p a causes d) := by
  have hj' := hmade.tallies hrun hv
  have hgen : u.gen = s.gen := htaken.field State.gen fun _ => rfl
  have hvjobs : JobsOk v.jobs := hprep.jobsOk ((htaken.field State.jobs fun _ => rfl) ▸ hjobs)
  obtain ⟨x, hx, hxt⟩ := h.job
  exact {
    numbers := (Row.assigned_numbers ..).trans hmade.numbers
    blank := hmade.blank
    queue := by rw [h.audit]; exact hmade.queue
    tallies := by rw [hx, Option.map_some, hxt, hj']
    records := fun hq z hz hjob hopen => h.recorded hmade hq hz hjob hopen
    starved := by rw [h.latched _ (by decide), hmade.starved]
    low := fun q hq => by rw [h.pending _ _ (by decide), hmade.low q hq]
    runs := h.runs hmade hgen hvjobs hv (by rw [hj'])
    drained := h.drained hmade hgen (by rw [hj']) }

end

end Sys2Proof.Machine

namespace Sys2Proof.Machine

section
variable {s t : State} {cmd : Instr} {p : Ply} {ep : Epoch} {o0 c : Pos} {n : Nat} {a : Assignment} {j : Job}

/-- What was drawn for the row, case by case: spoiled; no room; no lane to number; room; and the draw made (R46, R79). -/
structure DrawnAs (s t : State) (j : Job) (r : Row) (inZone : Bool) : Prop where
  spoiled : inZone = true → NothingDrawn s t j r .spliceAhead ∧ t.pipe.reserve = s.pipe.reserve
  kept : inZone = false → 0 < s.drawQuestion j → s.reservationOk (s.drawQuestion j) = false →
    NothingDrawn s t j r .held ∧ t.pipe.reserve = true ∧ (s.pipe.reserve = false →
      t.signals.latched .voidReserve = true ∧ t.signals.held .voidReserve = true)
  idle : inZone = false → s.drawQuestion j = 0 → t.pipe.reserve = s.pipe.reserve
  room : inZone = false → 0 < s.drawQuestion j → s.reservationOk (s.drawQuestion j) = true →
    t.pipe.reserve = false ∧ (s.pipe.reserve = true → t.signals.held .voidReserve = false)
  drawn : inZone = false → s.drawQuestion j = 0 ∨ s.reservationOk (s.drawQuestion j) = true → DrawOutcome s t j r

/-- The lanes with a set index are those the row's numbers fill (R55, R56). -/
theorem Plan.numbersAt_count (plan : Plan) (r : Nat) : ((plan.numbersAt r).filter Option.isSome).length =
    ((List.range plan.lanes).filter (fun l => (plan.setIndex r l).isSome)).length := by
  rw [← plan.sequenceLanes_count, countNumbered_eq, sequenceLanes_numbers]

/-- A form report carries a mark or a flywheel. -/
theorem State.Reports.assigns (h : s.Reports cmd p ep o0 n c a) : a ≠ .none := by
  obtain ⟨-, -, -, ⟨e, -, -, rfl, -⟩ | ⟨w, x, -, -, -, -, -, rfl⟩⟩ := h <;> simp

theorem State.Reports.next_row (hrep : s.Reports cmd p ep o0 n c a) (hahead : s.RowAhead n (rowOrigin o0 ep.repeatUm n) p c)
    (hlanes : 0 < j.plan.lanes) (hcond : s.audit.condition = .normal) (hcons : s.stop.Consistent) (hjobs : JobsOk s.jobs)
    (hqueue : QueueOk s.audit.queue) (hrun : s.running = some j) (hnext : s.pipe.nextIndex = some n)
    (hold : ∀ r ∈ s.pipe.rows, r.k < n) :
    ∃ t r, Machine.exec cmd s = .next t ∧ RowStands s t p ep j n (rowOrigin o0 ep.repeatUm n) c a (s.formCauses p c a) r ∧
      DrawnAs s t j r (s.openingSpoiled ep (rowOrigin o0 ep.repeatUm n)) := by
  obtain ⟨u, d, v, y, t, hexec, htaken, ha, hstep, hprep, hv, hgiven⟩ :=
    hrep.opens hahead hlanes hcond hjobs (fun _ => hqueue) hrun hnext hold
  have hquestion : u.drawQuestion j = s.drawQuestion j := htaken.field (fun x => x.drawQuestion j) fun _ => rfl
  have hreservation : ∀ m, u.reservationOk m = s.reservationOk m := fun m =>
    htaken.field (fun x => x.reservationOk m) fun _ => rfl
  have hreserve : u.pipe.reserve = s.pipe.reserve := htaken.field (fun x => x.pipe.reserve) fun _ => rfl
  have htreserve : t.pipe.reserve = v.pipe.reserve := by rw [hgiven.pipe]
  have hway : ∀ {b}, DrawStep u v j d b → b = false → DrawWay u v j d := fun h hb => by
    subst hb
    exact h
  refine ⟨t, _, hexec, hgiven.stands hprep htaken ha hrun fun _ _ => hcons.latched_of_held, fun h => ?_,
    fun h hq hroom => ?_, fun h hq => ?_, fun h hq hroom => ?_, fun h hq => ?_⟩
  · rw [h] at hstep
    obtain ⟨rfl, rfl⟩ := hstep
    obtain ⟨hnothing, hr⟩ := hgiven.nothingDrawn htaken rfl rfl rfl
    exact ⟨hnothing, hr.trans hreserve⟩
  · obtain ⟨rfl, rfl⟩ := (hway hstep h).reserve_kept (by rw [hquestion]; exact hq)
      (by rw [hquestion, hreservation]; exact hroom)
    obtain ⟨hgen, hvjobs, haudit, hset⟩ := u.setReserve_same
    obtain ⟨hnothing, hr⟩ := hgiven.nothingDrawn htaken hgen hvjobs haudit
    refine ⟨hnothing, hr.trans hset, fun hclear => ?_⟩
    have hsignals := u.setReserve_latches (hreserve.trans hclear) fun hheld => by
      rw [htaken.signals, State.formSignals_held _ _ _ _ _ (by simp)] at hheld
      rw [htaken.signals, State.formSignals_latched _ _ _ _ _ (by simp)]
      exact hcons.latched_of_held hheld
    rw [hgiven.latched _ (by decide), hgiven.held]
    exact hsignals
  · rw [htreserve, (hway hstep h).reserve_idle (hquestion.trans hq), hreserve]
  · have hdrawn := (hway hstep h).reserve_drawn (by rw [hquestion]; exact hq) (by rw [hquestion, hreservation]; exact hroom)
    rw [htreserve, hgiven.held, ← hreserve]
    exact hdrawn
  · have hmade := (hway hstep h).made (by rw [hquestion, hreservation]; exact hq)
    exact hgiven.drawOutcome hprep htaken (htaken.drawMade hmade) hjobs hrun hv

end

end Sys2Proof.Machine

namespace Sys2Proof.Machine

/-! ## Rows drawn from a sequence that is not yet complete (R55, R56, R59, R61) -/

/-- While the draw of the row leaves the sequence incomplete, the first lane of the row has a set index. -/
theorem Plan.setIndex_zero {plan : Plan} {r : Nat} (hlanes : 0 < plan.lanes) (hmore : plan.sequenceDone (r + 1) = false) :
    (plan.setIndex r 0).isSome = true := by
  unfold Plan.sequenceDone at hmore
  unfold Plan.setIndex
  cases hm : plan.mode with
  | interleaved =>
    simp only [hm, decide_eq_false_iff_not, not_le] at hmore
    have : r * plan.lanes + 0 < plan.count := by
      have := Nat.le_succ r
      nlinarith
    simpa using this
  | banked =>
    simp only [hm, decide_eq_false_iff_not, not_le] at hmore
    have hbank : plan.bank ≤ plan.count := by
      unfold Plan.bank ceilDiv
      rw [Nat.div_le_iff_le_mul_add_pred hlanes]
      have := Nat.le_mul_of_pos_left plan.count hlanes
      omega
    have h1 : r < plan.bank := by omega
    have h2 : r < plan.count := by omega
    simp [h1, h2]

section
variable {s u v t : State} {j : Job} {d : Drawn} {p : Ply} {ep : Epoch} {o0 c : Pos} {n m : Nat} {a : Assignment}
  {causes : CauseSet}

/-- The RUNNING job draws from its sequence, and goes on to do so after the row to come. -/
structure State.DrawsOn (s : State) (j : Job) : Prop where
  phase : s.gen.phase = .sequence
  complete : s.gen.complete = false
  source : j.plan.source = .sequence
  lanes : 0 < j.plan.lanes
  more : j.plan.sequenceDone (s.gen.r + 1) = false

theorem State.DrawsOn.question (h : u.DrawsOn j) :
    u.drawQuestion j = ((List.range j.plan.lanes).filter (fun l => (j.plan.setIndex u.gen.r l).isSome)).length := by
  simp only [State.drawQuestion, h.phase, h.complete, h.source, Bool.false_eq_true, if_false]

theorem State.DrawsOn.pos (h : u.DrawsOn j) : 0 < u.drawQuestion j := by
  rw [h.question, List.length_pos_iff_exists_mem]
  exact ⟨0, List.mem_filter.2 ⟨List.mem_range.2 h.lanes, Plan.setIndex_zero h.lanes h.more⟩⟩

theorem State.DrawsOn.le (h : u.DrawsOn j) : u.drawQuestion j ≤ j.plan.lanes := by
  rw [h.question]
  exact (List.length_filter_le _ _).trans (by simp)

theorem State.DrawsOn.not_done (h : u.DrawsOn j) : u.doneAfter j = false := by
  simp [State.doneAfter, State.drawCountAfter, State.drawsNow, h.phase, h.pos, h.source, h.more]

theorem State.DrawsOn.gen (h : u.DrawsOn j) : u.genAfter j = { u.gen with r := u.gen.r + 1 } := by
  have hlist : u.drawsList j = false := by simp [State.drawsList, h.source]
  simp [State.genAfter, State.drawCountAfter, State.drawsNow, State.listCountAfter, State.feedAfter, h.not_done, h.phase,
    h.pos, hlist]

theorem State.DrawsOn.tallies (h : u.DrawsOn j) (x : JobTallies) :
    u.talliesAfter j x = { x with drawn := satAdd x.drawn (u.drawQuestion j) } := by
  simp [State.talliesAfter, h.pos, h.phase]

theorem State.DrawsOn.numbers (h : u.DrawsOn j) : u.numbersDrawn j = j.plan.numbersAt u.gen.r := by
  simp only [State.numbersDrawn, h.phase, h.complete, h.source, Bool.false_eq_true, if_false]

theorem State.openingSpoiled_of_no_zone (hzones : ∀ q, u.zones.get q = []) (ep : Epoch) (origin : Pos) :
    u.openingSpoiled ep origin = false := by
  unfold State.openingSpoiled State.isSpoiled
  simp [hzones]

/-- Where no zone lies on the web and the void list has room, the draw is made. -/
theorem State.DrawsOn.made (h : u.DrawsOn j) (hzones : ∀ q, u.zones.get q = [])
    (hroom : u.audit.voids.length + u.audit.inFlight.length + (u.pipe.rows.map Row.numbered).sum + j.plan.lanes ≤ 1024)
    {origin : Pos} (hstep : DrawStep u v j d (u.openingSpoiled ep origin)) : DrawMade u v j d := by
  rw [State.openingSpoiled_of_no_zone hzones] at hstep
  have hle := h.le
  have hok : u.reservationOk (u.drawQuestion j) = true := by
    refine decide_eq_true ?_
    show u.audit.voids.length + u.audit.inFlight.length + (u.pipe.rows.map Row.numbered).sum + u.drawQuestion j ≤ 1024
    omega
  exact DrawWay.made hstep (.inr hok)

/-! ### One row after the other (R80) -/

/-- In `u` the rows from n to n + m can be opened for the RUNNING job, with no event of them due, each drawn from the sequence. -/
structure RowsReady (u : State) (j : Job) (p : Ply) (ep : Epoch) (o0 c : Pos) (n m : Nat) : Prop where
  epoch : u.trk.epoch = some ep
  origin : ep.o0 = some o0
  mask : inMask ep.mask p = true
  ahead : ∀ i, i ≤ m → u.RowAhead (n + i) (rowOrigin o0 ep.repeatUm (n + i : Nat)) p c
  top : n + m ≤ 4294967295
  condition : u.audit.condition = .normal
  jobs : JobsOk u.jobs
  running : u.running = some j
  nextIndex : u.pipe.nextIndex = some n
  rows : ∀ r ∈ u.pipe.rows, r.k < n
  zones : ∀ q, u.zones.get q = []
  phase : u.gen.phase = .sequence
  complete : u.gen.complete = false
  source : j.plan.source = .sequence
  lanes : 0 < j.plan.lanes
  more : ∀ i, i ≤ m → j.plan.sequenceDone (u.gen.r + i + 1) = false
  room : u.audit.voids.length + u.audit.inFlight.length + (u.pipe.rows.map Row.numbered).sum + (m + 1) * j.plan.lanes ≤ 1024

/-- In `t` the rows from n to n + m stand, opened from `u` and ply p's form given to the last. -/
structure RowsGiven (u t : State) (j : Job) (p : Ply) (ep : Epoch) (o0 c : Pos) (n m : Nat) (a : Assignment)
    (opened : List Row) : Prop where
  rows : t.pipe.rows = u.pipe.rows ++ opened
  indices : opened.map Row.k = List.range' n (m + 1)
  nextIndex : t.pipe.nextIndex = if n + m = 4294967295 then none else some (n + m + 1)
  each : ∀ (i : Nat) (r : Row), opened[i]? = some r → r.origin = rowOrigin o0 ep.repeatUm (n + i : Nat) ∧ r.job = j.id ∧
    r.stage = .opened ∧ r.lanes.map LaneRec.number = j.plan.numbersAt (u.gen.r + i) ∧
    (∀ q x, r.plyRec q = some x → x.assign = if i = m ∧ q = p then a else .none) ∧
    (i = m → t.readers = u.expecting p c r j.plan.policy)
  marks : SameMarks u t p
  gen : t.gen = { u.gen with r := u.gen.r + m + 1 }
  tallies : (t.job j.id).map Job.tallies = some { j.tallies with
    drawn := satAdd j.tallies.drawn (opened.map Row.numbered).sum }

theorem RowsReady.drawsOn (h : RowsReady u j p ep o0 c n m) : u.DrawsOn j :=
  ⟨h.phase, h.complete, h.source, h.lanes, h.more 0 (Nat.zero_le m)⟩

theorem RowsReady.room_one (h : RowsReady u j p ep o0 c n m) :
    u.audit.voids.length + u.audit.inFlight.length + (u.pipe.rows.map Row.numbered).sum + j.plan.lanes ≤ 1024 := by
  have hroom := h.room
  rw [Nat.succ_mul] at hroom
  omega

theorem RowsReady.no_makeUp (h : RowsReady u j p ep o0 c n m) : u.gen.phase = .makeUp → QueueOk u.audit.queue := by
  intro hp
  rw [h.phase] at hp
  cases hp

/-- A job whose draw is not complete runs on, its Generator as the draw left it. -/
theorem RowGiven.gen_of_not_done {j' : Job} {r : Row} (h : RowGiven u v t j j' p c a causes r) (hmade : DrawMade u v j d)
    (hdone : u.doneAfter j = false) : t.gen = u.genAfter j ∧ t.jobs = v.jobs := by
  have hnew : ¬(v.gen.complete = true ∧ u.gen.complete = false ∧ j.plan.accounting = .logOnly) := by
    rintro ⟨hv, hu, -⟩
    rw [hmade.complete_iff.1 ⟨hv, hu⟩] at hdone
    cases hdone
  obtain ⟨hgen, hjobs, -⟩ := h.stays hnew
  exact ⟨hgen.trans hmade.gen, hjobs⟩

theorem State.rowFor_assign {origin : Pos} {q : Ply} {x : PlyRec}
    (hq : (u.rowFor j ep n origin p a causes d).plyRec q = some x) : x.assign = if q = p then a else .none := by
  rw [State.rowFor_plyRec] at hq
  split at hq
  · rw [← Option.some.inj hq]
  · cases hq

/-- The last row opened, and the form given to it. -/
theorem RowsReady.last (h : RowsReady u j p ep o0 c n 0) :
    ∃ r, RowsGiven u ((u.openRow j ep o0 n).assignReport p n a c causes).startSending j p ep o0 c n 0 a [r] := by
  obtain ⟨d, v, y, hstep, hprep, hv, hgiven⟩ := State.row_given (u := u) (a := a) (causes := causes) h.lanes h.no_makeUp h.jobs
    h.condition h.running h.mask h.rows (h.ahead 0 le_rfl)
  generalize ((u.openRow j ep o0 n).assignReport p n a c causes).startSending = t at hgiven
  have hmade := h.drawsOn.made h.zones h.room_one hstep
  have hy := hmade.tallies h.running hv
  obtain ⟨hgen, -⟩ := hgiven.gen_of_not_done hmade h.drawsOn.not_done
  obtain ⟨x, hx, hxt⟩ := hgiven.job
  have hpipe := hgiven.pipe
  let r := u.rowFor j ep n (rowOrigin o0 ep.repeatUm n) p a causes d
  have hrows : t.pipe.rows = u.pipe.rows ++ [r] := by rw [hpipe]; rfl
  have hnext : t.pipe.nextIndex = if n = lastRowIndex then none else some (n + 1) := by rw [hpipe]; rfl
  refine ⟨r, hrows, rfl, hnext, fun i x hi => ?_, hgiven.sameMarks hprep h.running p, hgen.trans h.drawsOn.gen, ?_⟩
  · obtain ⟨rfl, rfl⟩ : i = 0 ∧ r = x := by
      cases i with
      | zero => exact ⟨rfl, by simpa using hi⟩
      | succ i => simp at hi
    exact ⟨rfl, rfl, rfl, (Row.assigned_numbers ..).trans (hmade.numbers.trans h.drawsOn.numbers),
      fun q x hq => by simpa using State.rowFor_assign hq, fun _ => hgiven.readers⟩
  · have hnum : r.numbered = u.drawQuestion j := State.rowFor_numbered.trans hmade.count
    rw [hx, Option.map_some, hxt, hy]
    simp only [h.drawsOn.tallies, List.map_cons, List.map_nil, List.sum_cons, List.sum_nil, hnum, Nat.add_zero]

end

end Sys2Proof.Machine

namespace Sys2Proof.Machine

section
variable {s u v w t : State} {j : Job} {d : Drawn} {p : Ply} {ep : Epoch} {o0 c : Pos} {n m : Nat} {a : Assignment}
  {causes : CauseSet} {cmd : Instr}

/-- In `w` row n stands as `r`, opened from `u` and no form of it given yet; the RUNNING job's tally has the lanes it numbers. -/
structure OneOpened (u w : State) (j : Job) (p : Ply) (ep : Epoch) (o0 : Pos) (n : Nat) (r : Row) : Prop where
  rows : w.pipe.rows = u.pipe.rows ++ [r]
  nextIndex : w.pipe.nextIndex = if n = 4294967295 then none else some (n + 1)
  k : r.k = n
  origin : r.origin = rowOrigin o0 ep.repeatUm n
  job : r.job = j.id
  stage : r.stage = .opened
  numbers : r.lanes.map LaneRec.number = j.plan.numbersAt u.gen.r
  assign : ∀ q x, r.plyRec q = some x → x.assign = .none
  lanes : r.numbered ≤ j.plan.lanes
  gen : w.gen = { u.gen with r := u.gen.r + 1 }
  running : w.running = some { j with tallies := { j.tallies with drawn := satAdd j.tallies.drawn r.numbered } }
  jobs : JobsOk w.jobs
  trk : w.trk = { u.trk with schedule := u.trk.schedule ++ u.positionsOf r }
  plies : w.plies = u.plies
  drivers : w.drivers = u.drivers
  readers : w.readers = u.readers
  zones : w.zones = u.zones
  condition : w.audit.condition = u.audit.condition
  voids : w.audit.voids = u.audit.voids
  inFlight : w.audit.inFlight = u.audit.inFlight
  marks : SameMarks u w p

theorem Prepared.sameMarks (h : Prepared u v j d) (hrun : u.running = some j) (r : Row) (q : Ply) :
    SameMarks u (v.withRow r) q := by
  have htrk : (v.withRow r).trk = { u.trk with schedule := u.trk.schedule ++ u.positionsOf r } := by
    rw [State.withRow_trk, State.positionsOf, h.trk]
    rfl
  obtain ⟨y, hy⟩ := h.running hrun
  have hwrun : (v.withRow r).running.isSome = true := by
    show v.running.isSome = true
    rw [hy]
    rfl
  refine ⟨h.marks, by rw [htrk], fun x => h.pending _ _ (by decide), h.held _ (by simp), h.latched _ (by simp) (by simp), ?_,
    fun _ => by rw [hrun]; rfl⟩
  rw [hwrun, if_pos rfl, htrk]
  exact (List.filter_append ..).trans (by rw [State.positionsOf_windows, List.append_nil])

/-- A row opened, more to follow. -/
theorem RowsReady.opened (h : RowsReady u j p ep o0 c n m) : ∃ r, OneOpened u (u.openRow j ep o0 n) j p ep o0 n r := by
  obtain ⟨d, v, hdraw, hprep, hstep⟩ := State.drawForRow_step h.lanes h.no_makeUp
    (u.openingSpoiled ep (rowOrigin o0 ep.repeatUm n))
  have hmade := h.drawsOn.made h.zones h.room_one hstep
  have hv := hmade.running h.running
  obtain ⟨-, hstays, -⟩ := State.openRow_settled hdraw hprep hstep.count (h.ahead 0 (Nat.zero_le m)) h.jobs h.condition
    hv rfl rfl
  have hmore : ¬(v.gen.complete = true ∧ u.gen.complete = false ∧ j.plan.accounting = .logOnly) := by
    rintro ⟨hc, hu, -⟩
    have := hmade.complete_iff.1 ⟨hc, hu⟩
    rw [h.drawsOn.not_done] at this
    cases this
  rw [hstays hmore]
  generalize hr : newRow n (rowOrigin o0 ep.repeatUm n) j.id ep.mask d = r
  have hnum : r.numbered = u.drawQuestion j := by rw [← hr]; exact hmade.count
  have hrows : v.pipe.rows = u.pipe.rows := by rw [hprep.pipe]
  exact ⟨r, {
    rows := by rw [State.withRow_pipe, hrows]
    nextIndex := by rw [State.withRow_pipe, ← hr]; rfl
    k := by rw [← hr]; rfl
    origin := by rw [← hr]; rfl
    job := by rw [← hr]; rfl
    stage := by rw [← hr]; rfl
    numbers := by rw [← hr]; exact hmade.numbers.trans h.drawsOn.numbers
    assign := fun q x hq => by
      rw [← hr, newRow_plyRec] at hq
      split at hq
      · rw [← Option.some.inj hq]
      · cases hq
    lanes := hnum ▸ h.drawsOn.le
    gen := hmade.gen.trans h.drawsOn.gen
    running := by
      rw [hnum, ← h.drawsOn.tallies]
      exact hv
    jobs := hprep.jobsOk h.jobs
    trk := by
      rw [State.withRow_trk, State.positionsOf, hprep.trk]
      rfl
    plies := hprep.plies
    drivers := hprep.drivers
    readers := hprep.readers
    zones := hprep.zones
    condition := hprep.condition
    voids := hprep.voids
    inFlight := hprep.inFlight
    marks := hprep.sameMarks h.running r p }⟩

/-- The rows that are left can be opened after it. -/
theorem OneOpened.ready {r : Row} (h : OneOpened u w j p ep o0 n r) (hready : RowsReady u j p ep o0 c n (m + 1)) :
    RowsReady w { j with tallies := { j.tallies with drawn := satAdd j.tallies.drawn r.numbered } } p ep o0 c (n + 1) m where
  epoch := by rw [h.trk]; exact hready.epoch
  origin := hready.origin
  mask := hready.mask
  ahead := fun i hi => by
    have hindex : n + 1 + i = n + (i + 1) := by omega
    obtain ⟨hnone, hrest⟩ := hready.ahead (i + 1) (by omega)
    rw [hindex]
    unfold State.RowAhead
    rw [State.sendPos_congr h.plies h.drivers, h.trk]
    refine ⟨fun y hy => ?_, hrest⟩
    rcases List.mem_append.1 hy with hy | hy
    · exact hnone y hy
    · simp only [State.positionsOf, List.mem_cons, List.not_mem_nil, or_false, h.k] at hy
      rcases hy with rfl | rfl | rfl <;> simp
  top := by
    have := hready.top
    omega
  condition := h.condition.trans hready.condition
  jobs := h.jobs
  running := h.running
  nextIndex := by
    have := hready.top
    rw [h.nextIndex, if_neg (by omega)]
  rows := fun x hx => by
    rw [h.rows] at hx
    rcases List.mem_append.1 hx with hx | hx
    · exact Nat.lt_succ_of_lt (hready.rows x hx)
    · rw [List.mem_singleton.1 hx, h.k]
      exact Nat.lt_succ_self n
  zones := by rw [h.zones]; exact hready.zones
  phase := by rw [h.gen]; exact hready.phase
  complete := by rw [h.gen]; exact hready.complete
  source := hready.source
  lanes := hready.lanes
  more := fun i hi => by
    have := hready.more (i + 1) (by omega)
    rw [h.gen]
    rw [← this]
    congr 1
    show u.gen.r + 1 + i + 1 = _
    omega
  room := by
    have hroom := hready.room
    have hlanes := h.lanes
    rw [Nat.succ_mul] at hroom
    rw [h.voids, h.inFlight, h.rows]
    simp only [List.map_append, List.map_cons, List.map_nil, List.sum_append, List.sum_cons, List.sum_nil]
    omega

theorem satAdd_satAdd (x y z : Nat) : satAdd (satAdd x y) z = satAdd x (y + z) := by
  unfold satAdd
  omega

/-- The rows given from the second on are the rows given from the first on. -/
theorem OneOpened.given {r : Row} {opened : List Row} (h : OneOpened u w j p ep o0 n r)
    (hgiven : RowsGiven w t { j with tallies := { j.tallies with drawn := satAdd j.tallies.drawn r.numbered } } p ep o0 c
      (n + 1) m a opened) : RowsGiven u t j p ep o0 c n (m + 1) a (r :: opened) where
  rows := by rw [hgiven.rows, h.rows, List.append_assoc]; rfl
  indices := by rw [List.map_cons, hgiven.indices, h.k]; rfl
  nextIndex := by
    have hindex : n + 1 + m = n + (m + 1) := by omega
    rw [hgiven.nextIndex, hindex]
  each := fun i x hi => by
    cases i with
    | zero =>
      obtain rfl : r = x := by simpa using hi
      refine ⟨h.origin, h.job, h.stage, h.numbers, fun q x hq => ?_, fun hm => by omega⟩
      rw [h.assign q x hq, if_neg (by omega)]
    | succ i =>
      have hindex : n + 1 + i = n + (i + 1) := by omega
      have hcount : w.gen.r + i = u.gen.r + (i + 1) := by
        rw [h.gen]
        show u.gen.r + 1 + i = _
        omega
      obtain ⟨horigin, hjob, hstage, hnumbers, hassign, hreaders⟩ := hgiven.each i x (by simpa using hi)
      rw [hindex] at horigin
      refine ⟨horigin, hjob, hstage, hcount ▸ hnumbers, fun q x hq => ?_, fun hm => ?_⟩
      · simpa using hassign q x hq
      · rw [hreaders (by omega), State.expecting_congr h.plies h.readers]
  marks := h.marks.trans hgiven.marks
  gen := by
    have hcount : u.gen.r + 1 + m + 1 = u.gen.r + (m + 1) + 1 := by omega
    rw [hgiven.gen, h.gen, ← hcount]
  tallies := by
    rw [hgiven.tallies, List.map_cons, List.sum_cons, satAdd_satAdd]

/-- The rows opened in order, and the form given to the last (R80). -/
theorem RowsReady.given (h : RowsReady u j p ep o0 c n m) :
    ∃ opened, RowsGiven u ((openRows (m + 1) u).assignReport p (n + m) a c causes).startSending j p ep o0 c n m a opened := by
  induction m generalizing u j n with
  | zero =>
    obtain ⟨r, hr⟩ := h.last (a := a) (causes := causes)
    rw [openRows_succ h.nextIndex h.running h.epoch h.origin]
    exact ⟨[r], hr⟩
  | succ m ih =>
    obtain ⟨r, hr⟩ := h.opened
    obtain ⟨opened, hopened⟩ := ih (hr.ready h)
    rw [openRows_succ h.nextIndex h.running h.epoch h.origin, ← Nat.add_assoc n m 1, Nat.add_right_comm n m 1]
    exact ⟨r :: opened, hr.given hopened⟩

theorem Taken.rowsReady {k : Nat} (h : Taken s u p ep k c a) (hready : RowsReady s j p ep o0 c n m) :
    RowsReady u j p ep o0 c n m := by
  have hepoch : u.trk.epoch = s.trk.epoch := h.field (fun x => x.trk.epoch) fun _ => rfl
  have haudit : u.audit = s.audit := h.field State.audit fun _ => rfl
  have hjobs : u.jobs = s.jobs := h.field State.jobs fun _ => rfl
  have hrun : u.running = s.running := h.field State.running fun _ => rfl
  have hpipe : u.pipe = s.pipe := h.field State.pipe fun _ => rfl
  have hzones : u.zones = s.zones := h.field State.zones fun _ => rfl
  have hgen : u.gen = s.gen := h.field State.gen fun _ => rfl
  constructor
  case epoch => rw [hepoch, hready.epoch]
  case origin => exact hready.origin
  case mask => exact hready.mask
  case ahead => exact fun i hi => h.rowAhead (hready.ahead i hi)
  case top => exact hready.top
  case condition => rw [haudit, hready.condition]
  case jobs => rw [hjobs]; exact hready.jobs
  case running => rw [hrun, hready.running]
  case nextIndex => rw [hpipe, hready.nextIndex]
  case rows => rw [hpipe]; exact hready.rows
  case zones => rw [hzones]; exact hready.zones
  case phase => rw [hgen, hready.phase]
  case complete => rw [hgen, hready.complete]
  case source => exact hready.source
  case lanes => exact hready.lanes
  case more => rw [hgen]; exact hready.more
  case room => rw [haudit, hpipe]; exact hready.room

/-- A form reported beyond the next index opens the rows up to its own (R80). -/
theorem State.Reports.rows_to (hrep : s.Reports cmd p ep o0 (n + m) c a) (hready : RowsReady s j p ep o0 c n m) :
    ∃ u t opened, Machine.exec cmd s = .next t ∧ Taken s u p ep (n + m) c a ∧ RowsGiven u t j p ep o0 c n m a opened := by
  obtain ⟨u, hexec, htaken, -⟩ := hrep.exec
  have hu := htaken.rowsReady hready
  obtain ⟨opened, hgiven⟩ := hu.given (a := a) (causes := s.formCauses p c a)
  rw [State.formReport_opens hu.condition hu.nextIndex] at hexec
  exact ⟨u, _, opened, hexec, htaken, hgiven⟩

end

end Sys2Proof.Machine

namespace Sys2Proof.Machine

/-! ## The first marks of an epoch (R10, R27) -/

section
variable {s u v t : State} {j : Job} {d : Drawn} {p : Ply} {ep : Epoch} {c : Pos}

/-- A mark of a ply of the mask, in ORIGIN_PENDING, with no spacing reference yet (R27). -/
theorem State.takeMark_origin (htravel : s.trk.retravel = false) (hep : s.trk.epoch = some ep) (ho0 : ep.o0 = none)
    (hmask : inMask ep.mask p = true) (hspacing : (s.marks.get p).spacing = none) :
    s.takeMark p = s.originMark p ep s.trk.h := by
  have hspurious : s.isSpurious p s.trk.h = false := by
    refine State.isSpurious_of_spacing fun g hg => ?_
    rw [hspacing] at hg
    cases hg
  simp [State.takeMark, htravel, hep, hmask, hspurious, ho0]

/-- A mark of another ply than the reference ply sets the spacing reference alone (R27). -/
theorem exec_pending_mark (htravel : s.trk.retravel = false) (hep : s.trk.epoch = some ep) (ho0 : ep.o0 = none)
    (hmask : inMask ep.mask p = true) (hspacing : (s.marks.get p).spacing = none) (hp : p ≠ ep.refPly) :
    exec (.cueMarkDetection p) s = .next (((s.setMarks (s.marks.set p ((s.marks.get p).accepted s.trk.h none
      ((ep.repeatUm / 50 : Nat) : Int)))).offerCapture p ⟨none, s.trk.h⟩).startSending) := by
  have htake : s.takeMark p = s.acceptMark p s.trk.h none none ep.rtMin := by
    rw [State.takeMark_origin htravel hep ho0 hmask hspacing, State.originMark, if_neg hp]
  show finish (s.takeMark p) = _
  rw [htake, State.acceptMark_eq, State.offerCapture_eq]
  rfl

/-- The epoch with its origin set by a mark of the reference ply at H (R10). -/
def State.originEpoch (s : State) (ep : Epoch) : Epoch := { ep with o0 := some (posFwd s.trk.h ep.dRef) }

/-- The state with that origin set. -/
def State.withOrigin (s : State) (ep : Epoch) : State := s.setTrk { s.trk with epoch := some (s.originEpoch ep) }

theorem exec_origin_mark (htravel : s.trk.retravel = false) (hep : s.trk.epoch = some ep) (ho0 : ep.o0 = none)
    (hmask : inMask ep.mask p = true) (hspacing : (s.marks.get p).spacing = none) (hp : p = ep.refPly) :
    ∃ u, exec (.cueMarkDetection p) s =
        .next (u.formReport p 0 (.mark s.trk.h 0) s.trk.h ((s.withOrigin ep).markCauses p s.trk.h 0)).startSending ∧
      Taken (s.withOrigin ep) u p (s.originEpoch ep) 0 s.trk.h (.mark s.trk.h 0) := by
  have htake : s.takeMark p = (s.withOrigin ep).markForRow p (s.originEpoch ep) s.trk.h 0 0 := by
    rw [State.takeMark_origin htravel hep ho0 hmask hspacing, State.originMark, if_pos hp]
    rfl
  have hin : (s.withOrigin ep).inEpoch p := ⟨s.originEpoch ep, rfl, hmask⟩
  refine ⟨_, ?_, State.markOwn_taken hin _ _ _ _⟩
  show finish (s.takeMark p) = _
  rw [htake]
  rfl

theorem isAhead_fwd (h : Pos) {n : Nat} (hpos : 0 < n) (hlt : n < 2 ^ 39) : isAhead (h + BitVec.ofNat 40 n) h = true := by
  have hdiff : h + BitVec.ofNat 40 n - h = BitVec.ofNat 40 n := by
    rw [BitVec.add_comm, BitVec.add_sub_cancel]
  refine decide_eq_true ?_
  show 0 < (h + BitVec.ofNat 40 n - h).toInt
  have hnat : (BitVec.ofNat 40 n).toNat = n := by
    rw [BitVec.toNat_ofNat, Nat.mod_eq_of_lt (by omega)]
  rw [hdiff, BitVec.toInt_eq_toNat_of_lt (by omega), hnat]
  omega

theorem rowOrigin_zero (o0 : Pos) (repeatUm : Nat) : rowOrigin o0 repeatUm (0 : Nat) = o0 := by
  simp [rowOrigin, rowOffset, posShift]

/-- Lanes with no cause and no pulse are given by their numbers (R74). -/
theorem lanes_of_numbers {xs ys : List LaneRec} (hx : ∀ l ∈ xs, l.marked = false ∧ l.causes = 0)
    (hy : ∀ l ∈ ys, l.marked = false ∧ l.causes = 0) (h : xs.map LaneRec.number = ys.map LaneRec.number) : xs = ys := by
  have hmk : ∀ zs : List LaneRec, (∀ l ∈ zs, l.marked = false ∧ l.causes = 0) →
      zs = (zs.map LaneRec.number).map (fun n => { number := n, causes := 0, marked := false }) := by
    intro zs hz
    rw [List.map_map]
    refine (map_id_of_forall fun l hl => ?_).symm
    obtain ⟨hmarked, hcauses⟩ := hz l hl
    cases l
    simp_all
  rw [hmk xs hx, hmk ys hy, h]

theorem DrawMade.lanes (h : DrawMade u v j d) (hprep : Prepared u v j d) (hdraws : u.DrawsOn j) :
    d.lanes = j.plan.sequenceLanes u.gen.r :=
  lanes_of_numbers hprep.fresh (fun _ => sequenceLanes_fresh)
    (h.numbers.trans (hdraws.numbers.trans (sequenceLanes_numbers _ _).symm))

end

end Sys2Proof.Machine

namespace Sys2Proof.Machine

/-! ## The reference ply's mark opens row 0 (R10, R27, R78) -/

section
variable {s u v t : State} {j j' : Job} {d : Drawn} {p : Ply} {ep : Epoch} {c : Pos}

/-- At the reference ply's mark, row 0 can be opened from the sequence, with no event of it due. -/
theorem State.withOrigin_ready (hmask : inMask ep.mask p = true) (hcond : s.audit.condition = .normal)
    (hrun : s.running = some j) (hnext : s.pipe.nextIndex = some 0) (hrows : s.pipe.rows = []) (hsched : s.trk.schedule = [])
    (hphase : s.gen.phase = .sequence) (hcomplete : s.gen.complete = false) (hr : s.gen.r = 0)
    (hsource : j.plan.source = .sequence) (hlanes : 0 < j.plan.lanes) (hmore : j.plan.sequenceDone 1 = false)
    (hroom : s.audit.voidCount + j.plan.lanes ≤ 1024) (hzones : ∀ q, s.zones.get q = []) (hd : 0 < ep.dRef)
    (hv : ep.dRef + s.trk.v < 2 ^ 39) (hx : ep.dRef + s.trk.x < 2 ^ 39)
    (hsend : isAhead (s.sendPos p s.trk.h) s.trk.h = true) (hjobs : JobsOk s.jobs) :
    RowsReady (s.withOrigin ep) j p (s.originEpoch ep) (posFwd s.trk.h ep.dRef) s.trk.h 0 0 where
  epoch := rfl
  origin := rfl
  mask := hmask
  ahead := fun i hi => by
    obtain rfl : i = 0 := by omega
    have hsched' : (s.withOrigin ep).trk.schedule = [] := hsched
    have hsum : ∀ n, posFwd s.trk.h ep.dRef + BitVec.ofNat 40 n = s.trk.h + BitVec.ofNat 40 (ep.dRef + n) := fun n => by
      rw [BitVec.ofNat_add, ← BitVec.add_assoc]
      rfl
    rw [Nat.add_zero, rowOrigin_zero]
    refine ⟨fun y hy => ?_, isAhead_fwd _ hd (by omega), ?_, ?_, hsend⟩
    · rw [hsched'] at hy
      cases hy
    · rw [hsum]
      exact isAhead_fwd _ (by omega) hv
    · rw [hsum]
      exact isAhead_fwd _ (by omega) hx
  top := by omega
  condition := hcond
  jobs := hjobs
  running := hrun
  nextIndex := hnext
  rows := fun r hr => by
    have hrows' : (s.withOrigin ep).pipe.rows = [] := hrows
    rw [hrows'] at hr
    cases hr
  zones := hzones
  phase := hphase
  complete := hcomplete
  source := hsource
  lanes := hlanes
  more := fun i hi => by
    obtain rfl : i = 0 := by omega
    have hr' : (s.withOrigin ep).gen.r = 0 := hr
    rw [hr']
    exact hmore
  room := by
    have hrows' : (s.withOrigin ep).pipe.rows = [] := hrows
    rw [hrows', Nat.zero_add, Nat.one_mul]
    exact hroom

/-- A row that draws on is NUMBERED where every lane has a number, and PARTIAL where not (R73). -/
theorem newRow_kind {origin : Pos} {k id : Nat} {mask : PlyMask} (h : 0 < countNumbered d.lanes) :
    (newRow k origin id mask d).kind = if d.lanes.all LaneRec.isNumbered then .numbered else .partialRow := by
  have hall : countNumbered d.lanes = d.lanes.length ↔ d.lanes.all LaneRec.isNumbered = true := by
    rw [List.all_eq_true]
    exact List.length_filter_eq_length_iff
  unfold newRow
  simp only [hall, Nat.pos_iff_ne_zero.1 h, if_false]

theorem DrawMade.blank_of_sequence (h : DrawMade u v j d) (hprep : Prepared u v j d) (hdraws : u.DrawsOn j) :
    d.blank = if d.lanes.all LaneRec.isNumbered then none else some j.plan.endCause := by
  have hlen : d.lanes.length = j.plan.lanes := by
    rw [h.lanes hprep hdraws, ← List.length_map (f := LaneRec.number), sequenceLanes_numbers]
    simp [Plan.numbersAt]
  have hall : u.drawQuestion j = j.plan.lanes ↔ d.lanes.all LaneRec.isNumbered = true := by
    rw [List.all_eq_true, ← h.count, ← hlen]
    exact List.length_filter_eq_length_iff
  have hcause : u.causeDrawn j = j.plan.endCause := by
    simp only [State.causeDrawn, hdraws.phase, hdraws.source]
  rw [h.blank, hcause]
  simp only [hall]

/-- The queue stands where the draw is from the sequence. -/
theorem DrawMade.queue_of_sequence (h : DrawMade u v j d) (hphase : u.gen.phase = .sequence) :
    v.audit.queue = u.audit.queue := by
  rw [h.queue]
  exact map_id_of_forall fun e _ => if_neg (by simp [hphase])

/-- The job's record once a row is drawn from its sequence. -/
theorem RowGiven.job_of_sequence {a : Assignment} {causes : CauseSet} {r : Row} (h : RowGiven u v t j j' p c a causes r)
    (hprep : Prepared u v j d) (hmade : DrawMade u v j d) (hdraws : u.DrawsOn j) (hjobs : JobsOk u.jobs)
    (hrun : u.running = some j) :
    t.job j.id = some { j with tallies := { j.tallies with drawn := satAdd j.tallies.drawn (countNumbered d.lanes) } } ∧
    t.running.isSome = true := by
  obtain ⟨-, htjobs⟩ := h.gen_of_not_done hmade hdraws.not_done
  have hv := hmade.running hrun
  have hjob : t.job j.id = v.job j.id := by
    unfold State.job
    rw [htjobs]
  have htrun : t.running = v.running := by
    unfold State.running
    rw [htjobs]
  constructor
  · rw [hjob, hmade.count, ← hdraws.tallies]
    exact State.job_of_running (hprep.jobsOk hjobs) hv
  · rw [htrun, hv]
    rfl

/-- The reference ply's mark in no zone and with no error carries no cause (R30, R31). -/
theorem State.markCauses_of_no_zone (hzones : ∀ q, s.zones.get q = []) (p : Ply) (c : Pos) : s.markCauses p c 0 = 0 := by
  simp [State.markCauses, State.isSpoiled, hzones]

/-- What the reference ply's mark does where row 0 can be opened: row 0 is drawn, and its form given (R10, R27, R78, R81). -/
theorem exec_origin_row (htravel : s.trk.retravel = false) (hep : s.trk.epoch = some ep) (ho0 : ep.o0 = none)
    (hmask : inMask ep.mask p = true) (hspacing : (s.marks.get p).spacing = none) (hp : p = ep.refPly)
    (hready : RowsReady (s.withOrigin ep) j p (s.originEpoch ep) (posFwd s.trk.h ep.dRef)
      s.trk.h 0 0) :
    ∃ u d v y t, exec (.cueMarkDetection p) s = .next t ∧
      Taken (s.withOrigin ep) u p (s.originEpoch ep) 0 s.trk.h (.mark s.trk.h 0) ∧
      RowsReady u j p (s.originEpoch ep) (posFwd s.trk.h ep.dRef) s.trk.h 0 0 ∧
      Prepared u v j d ∧ DrawMade u v j d ∧
      RowGiven u v t j { j with tallies := y } p s.trk.h (.mark s.trk.h 0) 0
        (newRow 0 (posFwd s.trk.h ep.dRef) j.id (s.originEpoch ep).mask d) := by
  obtain ⟨u, hexec, htaken⟩ := exec_origin_mark htravel hep ho0 hmask hspacing hp
  have hu := htaken.rowsReady hready
  rw [State.formReport_next hu.condition hu.nextIndex hu.running hu.epoch hu.origin,
    State.markCauses_of_no_zone hready.zones] at hexec
  have hahead := hu.ahead 0 le_rfl
  obtain ⟨d, v, y, hstep, hprep, -, hgiven⟩ := State.row_given (u := u) (a := .mark s.trk.h 0) (causes := 0) hu.lanes
    hu.no_makeUp hu.jobs hu.condition hu.running hu.mask hu.rows hahead
  have hmade := hu.drawsOn.made hu.zones hu.room_one hstep
  rw [rowOrigin_zero] at hgiven
  exact ⟨u, d, v, y, _, hexec, htaken, hu, hprep, hmade, hgiven⟩

/-- The positions that stand once row 0 is opened: the row's, its form's send position, and the window of the mark (R12, R35). -/
theorem RowGiven.origin_schedule {ep' : Epoch} {k : Nat} {a : Assignment} {causes : CauseSet} {r : Row}
    (h : RowGiven u v t j j' p c a causes r) (htaken : Taken s u p ep' k c a) (hsched : s.trk.schedule = [])
    (hrun : s.running = some j) (htrun : t.running.isSome = true) (hnum : 0 < r.numbered) (y : Scheduled) :
    y ∈ t.trk.schedule ↔ y = ⟨r.origin, .merge r.k⟩ ∨ y = ⟨r.origin + BitVec.ofNat 40 s.trk.v, .marker r.k⟩ ∨
      y = ⟨r.origin + BitVec.ofNat 40 s.trk.x, .delivery r.k⟩ ∨ y = ⟨s.sendPos p c, .send p r.k⟩ ∨
      y = ⟨c + BitVec.ofInt 40 (rowDistance ep'.repeatUm k) +
        BitVec.ofNat 40 (min (s.plies.get p).w (ep'.repeatUm / 50 / 2) + 1), .windowEnd p⟩ := by
  have hu : u.trk.schedule = [⟨c + BitVec.ofInt 40 (rowDistance ep'.repeatUm k) +
      BitVec.ofNat 40 (min (s.plies.get p).w (ep'.repeatUm / 50 / 2) + 1), .windowEnd p⟩] := by
    have hwindowed : u.trk.schedule = s.windowed p ep' c k := htaken.field (fun x => x.trk.schedule) fun _ => rfl
    rw [hwindowed, State.windowed, hsched, hrun]
    rfl
  have hpositions : u.positionsOf r = s.positionsOf r := htaken.field (fun x => x.positionsOf r) fun _ => rfl
  have hsend : u.sendEntries p c r = [⟨s.sendPos p c, .send p r.k⟩] :=
    (htaken.field (fun x => x.sendEntries p c r) fun _ => rfl).trans (if_pos hnum)
  rw [h.schedule, htrun, if_pos rfl, hu, hpositions, hsend]
  simp only [State.positionsOf, posFwd, List.mem_append, List.mem_cons, List.not_mem_nil, or_false]
  tauto

end

end Sys2Proof.Machine

namespace Sys2Proof.Machine

/-- Settles O28: the Mark Unit takes the form and the Row Pipeline its report; row by row the draw is one of spoiled, held back and
made, and the DRAINING test follows a draw that became complete. -/
theorem originMarkOpensRowZero : Obligations.OriginMarkOpensRowZero := by
  refine ⟨?_, ?_, ?_, fun s cmd p ep o0 k c a h hcons hdiscard => form_discarded h hcons hdiscard⟩
  · intro s p ep j c m o0 send lanes htravel hep ho0 hmask hspacing
    refine ⟨exec_pending_mark htravel hep ho0 hmask hspacing, fun hp hcond hrun hnext hrows hsched hphase hcomplete hr hsource
      hlanes hmore hroom hzones hd hv hx hsend hjobs => ?_⟩
    have hready := State.withOrigin_ready hmask hcond hrun hnext hrows hsched hphase hcomplete hr hsource hlanes hmore hroom
      hzones hd hv hx hsend hjobs
    obtain ⟨u, d, v, y, t, hexec, htaken, hu, hprep, hmade, hgiven⟩ :=
      exec_origin_row htravel hep ho0 hmask hspacing hp hready
    have hugen : u.gen = s.gen := htaken.field State.gen fun _ => rfl
    have hrow := RowGiven.stands (ep := s.originEpoch ep) hgiven hprep htaken (by simp) hrun (fun _ h => nomatch h)
    have hd' : d.lanes = lanes := by
      rw [hmade.lanes hprep hu.drawsOn, hugen, hr]
      rfl
    have hnum : 0 < countNumbered d.lanes := hmade.count ▸ hu.drawsOn.pos
    obtain ⟨hjob, htrun⟩ := hgiven.job_of_sequence hprep hmade hu.drawsOn hu.jobs hu.running
    refine ⟨t, hexec, hrow.epoch, hrow.nextIndex, ⟨_, hrow.rows.trans ?_, rfl, rfl, rfl, ?_, rfl, ?_, ?_, ?_, hrow.readers⟩,
      hrow.marks, ?_, ?_, ?_, hrow.zones, hrow.shift, hrow.monitors, hrow.drivers, hrow.voids, hrow.inFlight, ?_⟩
    · rw [show (s.withOrigin ep).pipe.rows = [] from hrows]
      rfl
    · exact (Row.assigned_lanes_of_no_cause ..).trans hd'
    · rw [← hd']
      exact newRow_kind (origin := posFwd s.trk.h ep.dRef) (k := 0) (id := j.id) (mask := ep.mask) hnum
    · rw [← hd']
      exact hmade.blank_of_sequence hprep hu.drawsOn
    · intro q
      have hply := hrow.plies q
      simp only [State.rowFor_numbered, hnum, and_true, true_and] at hply
      exact hply
    · obtain ⟨hgen, -⟩ := hgiven.gen_of_not_done hmade hu.drawsOn.not_done
      rw [hgen, hu.drawsOn.gen, hugen, hr]
    · exact RowGiven.origin_schedule (s := s.withOrigin ep) (ep' := s.originEpoch ep) hgiven htaken hsched hrun htrun hnum
    · rw [← hd']
      exact hjob
    · rw [hgiven.audit]
      exact (hmade.queue_of_sequence hu.phase).trans (congrArg AuditStore.queue (htaken.field State.audit fun _ => rfl))
  · intro s cmd p ep o0 n c a j origin plan waiting want spoiled room causes padded numbered hrep hahead hlanes hcond hcons
      hjobs hqueue hrun hnext hold
    obtain ⟨t, r, hexec, hrow, hdrawn⟩ := hrep.next_row hahead hlanes hcond hcons hjobs hqueue hrun hnext hold
    have hwant : want = s.drawQuestion j := by
      unfold State.drawQuestion
      rw [← Plan.numbersAt_count]
      rfl
    have ha := hrep.assigns
    have hcauses : s.formCauses p c a = causes := s.formCauses_eq p c ha
    have hspoiled : s.openingSpoiled ep origin = true ↔ spoiled := s.openingSpoiled_iff ep origin
    have hnot : ¬spoiled → s.openingSpoiled ep origin = false := fun h => by rw [← Bool.not_eq_true, hspoiled]; exact h
    have hroom : s.reservationOk (s.drawQuestion j) = true ↔ room := by
      rw [← hwant]
      exact decide_eq_true_iff
    have hnoroom : ¬room → s.reservationOk (s.drawQuestion j) = false := fun h => by rw [← Bool.not_eq_true, hroom]; exact h
    rw [hcauses] at hrow
    clear_value want
    subst hwant
    refine ⟨t, r, hexec, hrow.rows, hrow.nextIndex, hrow.discarded, hrow.k, hrow.atOrigin, hrow.job, hrow.stage, hrow.lanes,
      hrow.plies, hrow.merge, hrow.marker, hrow.delivery, hrow.send, hrow.requests, hrow.marks, hrow.readers, hrow.zones,
      hrow.drivers, hrow.shift, hrow.monitors, hrow.voids, hrow.inFlight, fun h => ?_, fun h hq hr => ?_, fun h hq => ?_,
      fun h hq hr => ?_, fun h hq => ?_⟩
    · obtain ⟨hnothing, hreserve⟩ := hdrawn.spoiled (hspoiled.2 h)
      exact ⟨hnothing.lanes, hnothing.blank, hnothing.gen, hnothing.jobs, hnothing.audit, hreserve⟩
    · obtain ⟨hnothing, hreserve⟩ := hdrawn.kept (hnot h) hq (hnoroom hr)
      exact ⟨hnothing.lanes, hnothing.blank, hnothing.gen, hnothing.jobs, hnothing.audit, hreserve⟩
    · exact hdrawn.idle (hnot h) hq
    · exact hdrawn.room (hnot h) hq (hroom.2 hr)
    · have hout := hdrawn.drawn (hnot h) (hq.imp_right hroom.2)
      refine ⟨hout.numbers, hout.blank, hout.queue, hout.tallies, hout.records, hout.starved, hout.low, hout.runs,
        fun hd hlog => ?_⟩
      obtain ⟨hjob, hidle⟩ := hout.drained hd hlog
      refine ⟨hjob, fun hnone => ?_⟩
      obtain ⟨htrun, hwindows, hfeed⟩ := hidle hnone
      exact ⟨htrun, hrow.epoch.trans hrep.1, hwindows, hfeed⟩
  · intro s cmd p ep o0 n m c a j hrep hahead htop hcond hcons hjobs hrun hnext hold hzones _ hphase hcomplete hsource hlanes
      hmore hroom
    have hready : RowsReady s j p ep o0 c n m := by
      obtain ⟨hep, ho0, hmask, -⟩ := hrep
      exact ⟨hep, ho0, hmask, hahead, htop, hcond, hjobs, hrun, hnext, hold, hzones, hphase,
        hcomplete, hsource, hlanes, hmore, hroom⟩
    obtain ⟨u, t, opened, hexec, htaken, hgiven⟩ := hrep.rows_to hready
    have hpipe : u.pipe = s.pipe := htaken.field State.pipe fun _ => rfl
    have hgen : u.gen = s.gen := htaken.field State.gen fun _ => rfl
    have hexpecting := State.expecting_congr (htaken.field State.plies fun _ => rfl) (htaken.field State.readers fun _ => rfl)
      p c
    have heach := hgiven.each
    rw [hgen] at heach
    simp only [hexpecting] at heach
    refine ⟨t, opened, hexec, by rw [hgiven.rows, hpipe], hgiven.indices, hgiven.nextIndex, heach,
      htaken.markTaken hrep.assigns (fun _ _ => hcons.latched_of_held) hgiven.marks, by rw [hgiven.gen, hgen], hgiven.tallies⟩

end Sys2Proof.Machine

namespace Sys2Proof.Machine

/-! ## The mapping of a mark to the nearest row (R26) -/

section
variable {repeatUm : Nat}

/-- A row's origin is at or behind a position just where the row index is within the quotient from which R26 maps. -/
theorem rowOffset_le_iff (hpos : 0 < repeatUm) (k rel : Int) :
    rowOffset repeatUm k ≤ rel ↔ k ≤ (50 * rel + 24) / (repeatUm : Int) := by
  rw [Int.le_ediv_iff_mul_le (by omega)]
  unfold rowOffset
  omega

theorem rowOffset_mono {i j : Int} (h : i ≤ j) : rowOffset repeatUm i ≤ rowOffset repeatUm j := by
  have hmul : i * (repeatUm : Int) ≤ j * (repeatUm : Int) := Int.mul_le_mul_of_nonneg_right h (by omega)
  unfold rowOffset
  omega

/-- Between the two origins about a position, the nearer one is nearest of all. -/
theorem mapOffset_nearest {rel k0 : Int} (hlo : rowOffset repeatUm k0 ≤ rel) (hhi : rel < rowOffset repeatUm (k0 + 1))
    (hmap : mapOffset repeatUm rel = if rowOffset repeatUm (k0 + 1) - rel ≤ rel - rowOffset repeatUm k0 then
      (k0 + 1, rel - rowOffset repeatUm (k0 + 1)) else (k0, rel - rowOffset repeatUm k0)) (j : Int) :
    |rel - rowOffset repeatUm (mapOffset repeatUm rel).1| ≤ |rel - rowOffset repeatUm j| := by
  have hj : rowOffset repeatUm j ≤ rowOffset repeatUm k0 ∨ rowOffset repeatUm (k0 + 1) ≤ rowOffset repeatUm j :=
    (le_or_gt j k0).imp rowOffset_mono rowOffset_mono
  rw [hmap]
  split <;> simp only [abs_le', le_abs] <;> omega

/-- Two positions whose distances from a third differ by a signed 40-bit value lie that far apart. -/
theorem posDiff_of_offsets (o0 : Pos) {x y : Int} (hlo : -(2 ^ 39) ≤ x - y) (hhi : x - y < 2 ^ 39) :
    posDiff (o0 + BitVec.ofInt 40 x) (o0 + BitVec.ofInt 40 y) = x - y := by
  have hsub : o0 + BitVec.ofInt 40 x - (o0 + BitVec.ofInt 40 y) = BitVec.ofInt 40 (x - y) := by
    rw [sub_eq_add_neg x y, BitVec.ofInt_add, BitVec.ofInt_neg]
    ring
  unfold posDiff
  rw [hsub, BitVec.toInt_ofInt]
  exact Int.bmod_eq_of_le (by omega) (by omega)

end

/-- Settles O10: the two origins about the position are those of the quotient's row and the next. -/
theorem markMapsToTheNearestRow : Obligations.MarkMapsToTheNearestRow := by
  intro repeatUm rel hrepeat
  have hpos : 0 < repeatUm := by omega
  let k0 : Int := (50 * rel + 24) / (repeatUm : Int)
  have hlo : rowOffset repeatUm k0 ≤ rel := (rowOffset_le_iff hpos k0 rel).2 le_rfl
  have hhi : rel < rowOffset repeatUm (k0 + 1) := by
    have := mt (rowOffset_le_iff hpos (k0 + 1) rel).1 (by omega)
    omega
  have hmap : mapOffset repeatUm rel = if rowOffset repeatUm (k0 + 1) - rel ≤ rel - rowOffset repeatUm k0 then
      (k0 + 1, rel - rowOffset repeatUm (k0 + 1)) else (k0, rel - rowOffset repeatUm k0) := by
    unfold mapOffset
    dsimp only
    split <;> rfl
  refine ⟨k0, hlo, hhi, hmap, mapOffset_nearest hlo hhi hmap, fun o0 anchor hlow hhigh => ?_⟩
  have hdiff : posDiff (o0 + BitVec.ofInt 40 rel) (rowOrigin o0 repeatUm anchor) = rel - rowOffset repeatUm anchor :=
    posDiff_of_offsets o0 hlow hhigh
  rw [mapMark, hdiff]
  congr 1
  omega

end Sys2Proof.Machine

namespace Sys2Proof.Machine

/-! ## Marks that no row is given (R3, R17, R24, R25) -/

section
variable {s : State} {p : Ply} {ep : Epoch}

theorem State.takeMark_retravel (h : s.trk.retravel = true) :
    s.takeMark p = s.updMark p (fun m => { m with counts := { m.counts with retravel := satAdd m.counts.retravel 1 } }) :=
  if_pos h

theorem State.takeMark_free (htravel : s.trk.retravel = false) (hep : s.trk.epoch = none) :
    s.takeMark p = s.setTrk { s.trk with capture := s.trk.capture.offered p ⟨none, s.trk.h⟩ } := by
  rw [← State.offerCapture_eq]
  simp [State.takeMark, htravel, hep]

theorem State.takeMark_unmasked (htravel : s.trk.retravel = false) (hep : s.trk.epoch = some ep)
    (hmask : inMask ep.mask p = false) : s.takeMark p = s := by
  simp [State.takeMark, htravel, hep, hmask]

theorem State.isSpurious_of_near {g : Spacing} {c : Pos} (hg : (s.marks.get p).spacing = some g)
    (hnear : 2 * posDiff c g.pos < g.dist) : s.isSpurious p c = true := by
  simp only [State.isSpurious, hg, Spacing.fails, hnear, decide_true]

theorem State.takeMark_spurious (htravel : s.trk.retravel = false) (hep : s.trk.epoch = some ep)
    (hmask : inMask ep.mask p = true) (hspurious : s.isSpurious p s.trk.h = true) : s.takeMark p = s.spuriousMark p := by
  simp [State.takeMark, htravel, hep, hmask, hspurious]

/-- A mark that passes the tests of R24 in TRACKING is mapped to its row. -/
theorem State.takeMark_tracked {o0 : Pos} (htravel : s.trk.retravel = false) (hep : s.trk.epoch = some ep)
    (ho0 : ep.o0 = some o0) (hmask : inMask ep.mask p = true)
    (hspacing : ∀ g, (s.marks.get p).spacing = some g → g.dist ≤ 2 * posDiff s.trk.h g.pos) :
    s.takeMark p = s.trackedMark p ep o0 s.trk.h := by
  simp [State.takeMark, htravel, hep, hmask, State.isSpurious_of_spacing hspacing, ho0]

end

theorem exec_cueMarkDetection (p : Ply) (s : State) : exec (.cueMarkDetection p) s = .next (s.takeMark p).startSending := rfl

/-- Settles O25. -/
theorem marksNotGivenToARow : Obligations.MarksNotGivenToARow := by
  intro s p out m c
  have hout : out = .next (s.takeMark p).startSending := exec_cueMarkDetection p s
  rw [hout]
  refine ⟨fun h => ?_, fun htravel hep => ?_, fun e htravel hep => ⟨fun hmask => ?_, fun g hmask hg hnear => ?_⟩⟩
  · rw [State.takeMark_retravel h]
    rfl
  · rw [State.takeMark_free htravel hep]
    unfold Capture.offered
    exact ⟨fun harmed => by rw [if_pos harmed], fun hoff => by rw [if_neg hoff]; rfl⟩
  · rw [State.takeMark_unmasked htravel hep hmask]
  · rw [State.takeMark_spurious htravel hep hmask (State.isSpurious_of_near hg hnear)]
    rfl

/-! ## The end of a level condition in a consistent Stop Unit -/

theorem StopSet.erase_of_not_has {m : StopSet} {c : StopCause} (h : StopSet.has m c = false) : StopSet.erase m c = m := by
  refine BitVec.eq_of_getLsbD_eq fun i hi => ?_
  have hm : m.getLsbD c.bit = false := h
  by_cases hc : i = c.bit
  · simp [StopSet.erase, hc, hm]
  · simp [StopSet.erase, hi, hc]

/-- The end of a level condition moves no line-stop output: the cause is no longer held, and nothing else changes (R166, R167). -/
theorem State.endLevel_of_consistent {s : State} (h : s.stop.Consistent) (c : StopCause) :
    s.endLevel c = s.setStop { s.stop with held := StopSet.erase s.stop.held c } := by
  obtain ⟨hout, -⟩ := h
  unfold State.endLevel
  split <;> rename_i hheld
  · have hreformed : StopUnit.reformed { s.stop with held := StopSet.erase s.stop.held c } =
        { s.stop with held := StopSet.erase s.stop.held c } := by
      simp only [StopUnit.reformed, ← hout]
    unfold State.changeStop
    rw [hreformed]
    exact if_neg (by simp)
  · rw [StopSet.erase_of_not_has (Bool.eq_false_iff.2 hheld)]
    rfl

/-! ## Pre-job marks and duplicates (R28, R29) -/

section
variable {s : State} {p : Ply}

/-- A pre-job mark in full (R28). -/
theorem State.preJobMark_eq (h : s.stop.Consistent) (ep : Epoch) (c : Pos) (k : Int) :
    s.preJobMark p ep c k = ((s.setMarks (s.marks.set p
        { (s.marks.get p).accepted c none (rowDistance ep.repeatUm k) with
          missed := 0
          expected := some ⟨posShift c (rowDistance ep.repeatUm k), k⟩ })).setTrk
      { s.trk with
        capture := s.trk.capture.offered p ⟨none, c⟩
        schedule := s.windowed p ep c k }).setStop
      { s.stop with held := StopSet.erase s.stop.held (.markLost p) } := by
  unfold State.preJobMark State.markSeen
  rw [State.acceptMark_eq, State.endLevel_of_consistent (by exact h), State.setExpected_eq]
  simp only [State.updMark, State.setTrk_marks, State.setStop_marks, State.setMarks_marks, PerPly.get_set, PerPly.set_set,
    if_true]
  rfl

/-- A late-mark report in full: REGISTER on the row alone, while it is OPEN (R77, R83). -/
theorem State.lateReport_eq (s : State) (k : Nat) (c : VoidCause) : s.lateReport k c = s.setPipe { s.pipe with
    rows := s.pipe.rows.map (fun r => if r.k = k ∧ r.stage = .opened then r.addCause c else r) } := by
  unfold State.lateReport State.updOpenRow State.updRow State.setRows
  simp only [ite_and]

/-- A duplicate of row k in full, j being the ply's last row (R29). -/
theorem State.duplicateMark_eq (s : State) (p : Ply) {k j : Nat} (hkj : k ≤ j) :
    s.duplicateMark p k j = (s.setMarks (s.marks.set p { s.marks.get p with
        counts := { (s.marks.get p).counts with duplicate := satAdd (s.marks.get p).counts.duplicate 1 } })).setPipe
      { s.pipe with rows := s.pipe.rows.map (fun r =>
          if r.k = k ∧ r.stage = .opened ∧ j - ((s.marks.get p).missed : Int) < k then r.addCause .register else r) } := by
  unfold State.duplicateMark
  have hlast : (1 ≤ (s.marks.get p).missed ∧ j + 1 ≤ k + (s.marks.get p).missed ∧ k ≤ j) ↔
      j - ((s.marks.get p).missed : Int) < k := by omega
  simp only [hlast]
  split <;> rename_i hm
  · rw [State.lateReport_eq]
    simp only [hm, and_true]
    rfl
  · simp only [hm, and_false, if_false, List.map_id']
    rfl

end

/-- Settles O27. -/
theorem preJobMarksAndDuplicates : Obligations.PreJobMarksAndDuplicates := by
  intro s p ep o0 k e c m cap hcons htravel hep ho0 hmask hspacing hmap
  have hmapped : mapMark o0 ep.repeatUm (s.pipe.nextIndex.getD (lastRowIndex + 1)) (posFwd s.trk.h (s.plies.get p).d) =
    (k, e) := hmap
  rw [exec_cueMarkDetection, State.takeMark_tracked htravel hep ho0 hmask hspacing]
  refine ⟨fun hk => ?_, fun n j hk hlast hn => ?_⟩
  · have htracked : s.trackedMark p ep o0 s.trk.h = s.preJobMark p ep s.trk.h k := by
      unfold State.trackedMark
      simp only [hmapped]
      exact if_pos hk
    rw [htracked, State.preJobMark_eq hcons]
    rfl
  · have htracked : s.trackedMark p ep o0 s.trk.h = s.duplicateMark p n j := by
      unfold State.trackedMark
      simp only [hmapped, hk, show (s.marks.get p).lastRow = some j from hlast, Int.toNat_natCast]
      rw [if_neg (by omega), if_pos (by omega)]
    rw [htracked, State.duplicateMark_eq s p hn]
    subst hk
    rfl

end Sys2Proof.Machine

namespace Sys2Proof.Machine

/-! ## What the core leaves out: the Stop Unit and the ports -/

/-- The Stop Unit and the two ports. -/
structure Flags where
  stop : StopUnit
  line : PortState
  panel : PortState

/-- The Stop Unit and the ports of a state. -/
def State.flags (s : State) : Flags := { stop := s.stop, line := s.line, panel := s.panel }

/-- A class raised at the line port, and at the panel port where it is not idle by strap (R175, R178). -/
def Flags.raise (g : Flags) (panelAbsent : Bool) (c : Attention) : Flags :=
  { g with
    line := g.line.raised c
    panel := if panelAbsent then g.panel else g.panel.raised c }

/-- The state with its flags replaced. -/
def State.withFlags (s : State) (g : Flags) : State := ((s.setStop g.stop).setLine g.line).setPanel g.panel

theorem State.core_withFlags (s : State) : s.core.withFlags s.flags = s := by cases s; rfl

section
variable {s t : State}

/-- A state is its core and its flags. -/
theorem State.eq_of_core_flags (hcore : s.core = t.core) (hflags : s.flags = t.flags) : s = t := by
  rw [← s.core_withFlags, hcore, hflags, t.core_withFlags]

theorem flags_raiseBoth (s : State) (c : Attention) : (s.raiseBoth c).flags = s.flags.raise (s.portAbsent .panel) c := by
  unfold State.raiseBoth
  rw [State.raiseAt, State.raiseAt_absent]
  unfold Flags.raise
  split <;> rfl

/-- What a level condition's start makes of the flags depends on the flags and the straps alone. -/
theorem flags_startLevel_congr (hstraps : s.straps = t.straps) (hflags : s.flags = t.flags) (c : StopCause) :
    (s.startLevel c).flags = (t.startLevel c).flags := by
  have hstop : s.stop = t.stop := congrArg Flags.stop hflags
  have hset : ∀ x, (s.setStop x).flags = (t.setStop x).flags := fun x => congrArg (fun g : Flags => { g with stop := x }) hflags
  have habsent : ∀ x, (s.setStop x).portAbsent .panel = (t.setStop x).portAbsent .panel := fun x =>
    congrArg (fun z : Straps => decide (z.panel = .absent)) hstraps
  unfold State.startLevel State.changeStop
  rw [hstop]
  split_ifs
  · exact hflags
  · rw [flags_raiseBoth, flags_raiseBoth, hset, habsent]
  · exact hset _

end

/-! ## The flags after the Mark Unit's own part -/

section
variable {s : State} {p : Ply}

theorem flags_setExpected (s : State) (p : Ply) (ep : Epoch) (c : Pos) (k : Int) : (s.setExpected p ep c k).flags = s.flags := by
  rw [State.setExpected_eq]
  rfl

theorem flags_markSeen (h : s.stop.Consistent) : (s.markSeen p).flags =
    { s.flags with stop := { s.stop with held := StopSet.erase s.stop.held (.markLost p) } } := by
  unfold State.markSeen
  rw [State.endLevel_of_consistent (by exact h)]
  rfl

theorem MarkPly.accepted_drift (m : MarkPly) (c : Pos) (row : Option RowError) (g : Int) :
    (m.accepted c row g).drift = m.drift := rfl

/-- A mark given to a row ends MARK_LOST, and raises DRIFT where the drift condition starts (R33, R37). -/
theorem flags_markOwn (hcons : s.stop.Consistent) (h : s.inEpoch p) (ep : Epoch) (c : Pos) (k : Nat) (e : Int) :
    (s.markOwn p ep c k e).flags =
      let g : Flags := { s.flags with stop := { s.stop with held := StopSet.erase s.stop.held (.markLost p) } }
      if (s.formMark p ep k (.mark c e)).drift && !(s.marks.get p).drift then g.raise (s.portAbsent .panel) .drift else g := by
  have hdrift : (s.formMark p ep k (.mark c e)).drift = (((s.marks.get p).accepted c (some ⟨k, e⟩)
      (rowDistance ep.repeatUm k)).judged (s.plies.get p) e).drift := by rw [s.formMark_mark]
  have haccept := s.acceptMark_eq p c (some ⟨k, e⟩) (some ⟨k, e⟩) (rowDistance ep.repeatUm k)
  rw [hdrift]
  unfold State.markOwn
  generalize s.acceptMark p c (some ⟨k, e⟩) (some ⟨k, e⟩) (rowDistance ep.repeatUm k) = u at haccept
  have hu : u.inEpoch p := by rw [haccept]; exact h
  have hflags : u.flags = s.flags := by rw [haccept]; rfl
  have hmark : u.marks.get p = (s.marks.get p).accepted c (some ⟨k, e⟩) (rowDistance ep.repeatUm k) := by
    rw [haccept]
    simp [State.updMark]
  have hplies : u.plies = s.plies := by rw [haccept]; rfl
  have habsent : (u.withJudged p e).portAbsent .panel = s.portAbsent .panel := by rw [haccept]; rfl
  have hjudged : (u.judgeMark p e).flags =
      if (((s.marks.get p).accepted c (some ⟨k, e⟩) (rowDistance ep.repeatUm k)).judged (s.plies.get p) e).drift &&
          !(s.marks.get p).drift then s.flags.raise (s.portAbsent .panel) .drift else s.flags := by
    rw [State.judgeMark_eq hu, hmark, hplies, MarkPly.accepted_drift]
    have hwith : (u.withJudged p e).flags = s.flags := hflags
    split
    · rw [flags_raiseBoth, hwith, habsent]
    · exact hwith
  have hstop : (u.judgeMark p e).stop = s.stop := by
    have := congrArg Flags.stop hjudged
    split at this <;> exact this
  show (((u.judgeMark p e).markSeen p).setExpected p ep c k).flags = _
  rw [flags_setExpected, flags_markSeen (by rw [hstop]; exact hcons), hjudged, hstop]
  dsimp only
  split <;> rfl

/-- A flywheel given to a row starts MARK_LOST at the eighth miss (R37). -/
theorem flags_flywheelOwn (s : State) (p : Ply) (ep : Epoch) (pos : Pos) (k : Nat) :
    (s.flywheelOwn p ep pos k).flags =
      if min ((s.marks.get p).missed + 1) 255 = 8 then (s.startLevel (.markLost p)).flags else s.flags := by
  unfold State.flywheelOwn
  rw [flags_setExpected]
  split
  · exact flags_startLevel_congr (by rfl) (by rfl) _
  · rfl

end

/-! ## A form given to an OPEN row (R77, R81, R101) -/

/-- Reads are expected of ply p's form on the row: it has a numbered lane, its job's policy reads, and the ply's reader is
present (R81 step 4, R116). -/
def State.readsOn (s : State) (p : Ply) (y : Row) : Bool :=
  decide (0 < y.numbered ∧ s.policyOf y.job ≠ .off ∧ (s.plies.get p).reader = true)

theorem State.expectsRead_eq (s : State) (p : Ply) (y : Row) : s.expectsRead y p = s.readsOn p y := by
  unfold State.expectsRead State.readsOn
  rw [Bool.decide_and, Bool.decide_and, Bool.and_assoc, Bool.decide_eq_true]

/-- The state with ply p's form given to the row r: assigned, its expectation and its send request handed in, and the send position
scheduled but not yet taken. -/
def State.given (s : State) (r : Row) (p : Ply) (a : Assignment) (c : Pos) (causes : CauseSet) : State :=
  (((s.setTrk { s.trk with schedule := s.trk.schedule ++ s.sendEntries p c r }).setPipe
    { s.pipe with rows := s.pipe.rows.map (fun y => if y.k = r.k then y.assigned p a causes (s.readsOn p y) else y) }).setRequests
    (s.requests ++ s.sendsFor p c r)).setReaders
    (if s.readsOn p r then s.readers.set p { s.readers.get p with expectations := (s.readers.get p).expectations ++
      [s.expectationFor r p c] } else s.readers)

section
variable {s u : State} {r : Row} {p : Ply} {ep : Epoch} {k : Nat} {a : Assignment} {c : Pos} {causes : CauseSet}

/-- What becomes of the core depends on the core alone. -/
theorem core_given {v : State} (h : u.core = v.core) : (u.given r p a c causes).core = (v.given r p a c causes).core :=
  core_field (fun x => (x.given r p a c causes).core) (fun _ => rfl) h

/-- No position of a purpose is due where each lies ahead of H (R2). -/
theorem Tracker.dueEntry_none_iff {x : Tracker} {ev : PosEvent} :
    x.dueEntry ev = none ↔ ∀ y ∈ x.schedule, y.ev = ev → isAhead y.pos x.h = true := by
  unfold Tracker.dueEntry
  rw [List.find?_eq_none]
  simp [Tracker.isDue]

/-- The send position of the form just given is not taken while it lies ahead of H, nor where the row has no numbered lane. -/
theorem State.fireSend_given_ahead (hdue : s.trk.dueEntry (.send p r.k) = none)
    (hahead : 0 < r.numbered → isAhead (s.sendPos p c) s.trk.h = true) :
    (s.given r p a c causes).fireSend p r.k = s.given r p a c causes := by
  refine State.fire_of_ahead (fun y hy hev => ?_) _
  rcases List.mem_append.1 hy with hy | hy
  · exact Tracker.dueEntry_none_iff.1 hdue y hy hev
  · unfold State.sendEntries at hy
    split at hy <;> rename_i hn
    · rw [List.mem_singleton.1 hy]
      exact hahead hn
    · cases hy

/-- The assignment of a form is the form given, and its send position taken where it is due. -/
theorem State.assignForm_eq (hdue : s.trk.dueEntry (.send p r.k) = none) :
    s.assignForm r p a c causes = (s.given r p a c causes).fireSend p r.k := by
  have hrow : s.updRow r.k (fun y => y.assigned p a causes (s.expectsRead y p)) = s.setRows
      (s.pipe.rows.map (fun y => if y.k = r.k then y.assigned p a causes (s.readsOn p y) else y)) := by
    simp only [State.expectsRead_eq]
    rfl
  unfold State.assignForm
  dsimp only
  rw [hrow, s.expectsRead_eq p r]
  by_cases hn : 0 < r.numbered
  · rw [if_pos hn]
    unfold State.handSend
    refine congrArg (fun x : State => x.fireSend p r.k) ?_
    unfold State.given State.sendEntries State.sendsFor
    rw [if_pos hn, if_pos hn]
    split <;> rfl
  · rw [if_neg hn, State.fireSend_given_ahead hdue (fun h => absurd h hn)]
    unfold State.given State.sendEntries State.sendsFor
    rw [if_neg hn, if_neg hn, List.append_nil, List.append_nil]
    split <;> rfl

/-- A form reported for a row that is OPEN, and on which the ply's form is not yet assigned, is given to the row; a send position
at or behind H is taken at once, as SEND_POSITION takes it (R77, R101). -/
theorem formReport_given (hcond : s.audit.condition = .normal) (hnext : ∀ n, s.pipe.nextIndex = some n → k < n)
    (hrow : s.row k = some r) (hopen : r.stage = .opened) {x : PlyRec} (hply : r.plyRec p = some x) (hnone : x.assign = .none)
    (hdue : s.trk.dueEntry (.send p k) = none) :
    finish (s.formReport p k a c causes) = if isAhead (s.sendPos p c) s.trk.h = true then
      finish (s.given r p a c causes) else exec (.sendPosition p k) (s.given r p a c causes) := by
  obtain rfl : r.k = k := by simpa using List.find?_some hrow
  have hreport : s.formReport p r.k a c causes = s.assignReport p r.k a c causes := by
    unfold State.formReport
    rw [if_neg (by simp [hcond])]
    cases hn : s.pipe.nextIndex with
    | none => rfl
    | some n => exact if_neg (by have := hnext n hn; omega)
  have hassign : s.assignReport p r.k a c causes = s.assignForm r p a c causes := by
    unfold State.assignReport
    rw [hrow]
    simp only [hply]
    exact if_pos ⟨hopen, hnone⟩
  rw [hreport, hassign, State.assignForm_eq hdue]
  split <;> rename_i hahead
  · rw [State.fireSend_given_ahead hdue fun _ => hahead]
  · rfl

/-- The form that the Mark Unit has taken is given to its row, if that is OPEN and the ply's form on it is not yet assigned. -/
theorem Taken.given_open (h : Taken s u p ep k c a) (hcond : s.audit.condition = .normal)
    (hnext : ∀ n, s.pipe.nextIndex = some n → k < n) (hrow : s.row k = some r) (hopen : r.stage = .opened) {x : PlyRec}
    (hply : r.plyRec p = some x) (hnone : x.assign = .none) (hdue : s.trk.dueEntry (.send p k) = none) :
    finish (u.formReport p k a c causes) = if isAhead (s.sendPos p c) s.trk.h = true then
      finish (u.given r p a c causes) else exec (.sendPosition p k) (u.given r p a c causes) := by
  have haudit : u.audit = s.audit := h.field State.audit fun _ => rfl
  have hpipe : u.pipe = s.pipe := h.field State.pipe fun _ => rfl
  have hrows : u.row k = s.row k := h.field (fun x => x.row k) fun _ => rfl
  have hsend : u.sendPos p c = s.sendPos p c := h.field (fun x => x.sendPos p c) fun _ => rfl
  have hh : u.trk.h = s.trk.h := h.field (fun x => x.trk.h) fun _ => rfl
  have hschedule : u.trk.schedule = s.windowed p ep c k := h.field (fun x => x.trk.schedule) fun _ => rfl
  have hdue' : u.trk.dueEntry (.send p k) = none := by
    refine Tracker.dueEntry_none_iff.2 fun y hy hev => ?_
    rw [hschedule] at hy
    rw [hh]
    rcases State.mem_windowed hy with hy | hw
    · exact Tracker.dueEntry_none_iff.1 hdue y hy hev
    · rw [hev] at hw
      cases hw
  rw [formReport_given (by rw [haudit]; exact hcond) (by rw [hpipe]; exact hnext) (hrows.trans hrow) hopen hply hnone hdue',
    hsend, hh]

end
end Sys2Proof.Machine

namespace Sys2Proof.Machine

/-! ## An accepted mark, or a flywheel, given to an OPEN row (R30 to R37, R81) -/

section
variable {s : State} {p : Ply} {ep : Epoch}

/-- A mark past the ply's last row is given to the row it maps to (R34). -/
theorem State.trackedMark_row {o0 c : Pos} {k : Nat} {e : Int}
    (hmap : mapMark o0 ep.repeatUm (s.pipe.nextIndex.getD (lastRowIndex + 1)) (posFwd c (s.plies.get p).d) = ((k : Int), e))
    (hlast : ∀ j, (s.marks.get p).lastRow = some j → j < k) :
    s.trackedMark p ep o0 c = s.markForRow p ep c k e := by
  unfold State.trackedMark
  simp only [hmap, Int.toNat_natCast]
  rw [if_neg (by omega)]
  cases hj : (s.marks.get p).lastRow with
  | none => rfl
  | some j => exact if_neg (by have := hlast j hj; omega)

/-- Where the drift condition of a judged mark starts, the mark is in register (R33). -/
theorem State.formMark_drift_starts (s : State) (p : Ply) (ep : Epoch) (k : Nat) (c : Pos) (e : Int) :
    ((s.formMark p ep k (.mark c e)).drift && !(s.marks.get p).drift) = true ↔
      decide (|e| ≤ ((s.plies.get p).t : Int)) = true ∧ (s.formMark p ep k (.mark c e)).drift = true ∧
        (s.marks.get p).drift = false := by
  have hout : decide (|e| ≤ ((s.plies.get p).t : Int)) = false →
      (s.formMark p ep k (.mark c e)).drift = (s.marks.get p).drift := by
    intro h
    unfold State.formMark
    simp only [h, Bool.false_eq_true, if_false]
  cases hin : decide (|e| ≤ ((s.plies.get p).t : Int)) with
  | true => simp
  | false => simp [hout hin]

/-- The state in which the Mark Unit has taken the form: the core that `Taken` gives. -/
def State.withForm (s : State) (p : Ply) (ep : Epoch) (k : Nat) (c : Pos) (a : Assignment) : State :=
  (s.setMarks (s.marks.set p (s.formMark p ep k a))).setTrk
    { s.trk with
      capture := s.trk.capture.withForm p k c a
      schedule := s.windowed p ep c k }

end

/-- Settles O26: the Mark Unit's own part leaves the core of `State.withForm`, and the flags of the end of MARK_LOST and of DRIFT;
the row is then given the form. -/
theorem markGivenToAnOpenRow : Obligations.MarkGivenToAnOpenRow := by
  intro s p ep o0 k e r x c m set cap fire send hcons hcond htravel hep ho0 hmask hspacing hmap hlast hnext hrow hopen hply
    hnone hdue inRegister trend drift rt expected causes reads u v
  have hin : s.inEpoch p := ⟨ep, hep, hmask⟩
  have htaken := State.markOwn_taken hin ep c k e
  have hcauses : s.markCauses p c e = causes := by
    simp only [causes, inRegister, decide_eq_true_eq]
    rfl
  have hk : r.k = k := by simpa using List.find?_some hrow
  have hu : u.core = ((s.withForm p ep k c (.mark c e)).given r p (.mark c e) c causes).core := by
    subst hk
    rfl
  have hv : (s.markOwn p ep c k e).given r p (.mark c e) c causes = v := by
    refine State.eq_of_core_flags ?_ ?_
    · have hcore : v.core = u.core := by
        simp only [v]
        split
        · exact core_raiseBoth _ _
        · rfl
      rw [hcore, hu]
      exact core_given htaken.core
    · refine (flags_markOwn hcons hin ep c k e).trans ?_
      dsimp only
      simp only [State.formMark_drift_starts, v]
      refine Eq.trans ?_ (apply_ite State.flags _ _ _).symm
      rw [flags_raiseBoth]
      rfl
  rw [← hv, exec_cueMarkDetection, State.takeMark_tracked htravel hep ho0 hmask hspacing, State.trackedMark_row hmap hlast,
    State.markForRow_eq, hcauses]
  exact htaken.given_open hcond hnext hrow hopen hply hnone hdue

/-! ## The end of a window taken (R36) -/

section
variable {s : State} {p : Ply} {ep : Epoch} {w : Scheduled} {x : Expected}

theorem exec_markWindowEnd (p : Ply) (s : State) : exec (.markWindowEnd p) s = .next (s.fireWindow p).startSending := rfl

theorem State.fireWindow_none (h : s.trk.dueEntry (.windowEnd p) = none) : s.fireWindow p = s := by
  unfold State.fireWindow State.fire
  rw [h]

/-- The state with a due window end taken from the schedule. -/
def State.withoutEntry (s : State) (w : Scheduled) : State := s.setTrk { s.trk with schedule := s.trk.schedule.erase w }

theorem State.fireWindow_due (h : s.trk.dueEntry (.windowEnd p) = some w) :
    s.fireWindow p = (s.withoutEntry w).flywheel p := by
  unfold State.fireWindow State.fire
  rw [h]
  rfl

theorem Tracker.dueEntry_ev {t : Tracker} {ev : PosEvent} (h : t.dueEntry ev = some w) : w.ev = ev := by
  have := List.find?_some h
  simp only [Bool.and_eq_true, decide_eq_true_eq] at this
  exact this.1

theorem State.flywheel_eq (hep : s.trk.epoch = some ep) (hexp : (s.marks.get p).expected = some x) :
    s.flywheel p = if x.row + 1 < 0 then s.preJobFlywheel p ep x.pos (x.row + 1)
      else s.flywheelForRow p ep x.pos (x.row + 1).toNat := by
  unfold State.flywheel
  simp only [hep, hexp]

/-- A flywheel before row 0 in full (R36). -/
theorem State.preJobFlywheel_eq (hw : w.ev = .windowEnd p) (ep : Epoch) (c : Pos) (k : Int) :
    (s.withoutEntry w).preJobFlywheel p ep c k = (s.setMarks (s.marks.set p
        { s.marks.get p with
          expected := some ⟨posShift c (rowDistance ep.repeatUm k), k⟩
          spacing := some ⟨c, rowDistance ep.repeatUm k⟩ })).setTrk { s.trk with schedule := s.windowed p ep c k } := by
  rw [← State.windowed_erase hw]
  unfold State.preJobFlywheel
  rw [State.setExpected_eq]
  simp only [State.updMark, State.setMarks_marks, PerPly.get_set, PerPly.set_set, if_true]
  rfl

/-- The flywheel of the window end taken, as from the state in which it was due. -/
theorem State.flywheelOwn_taken_due (hw : w.ev = .windowEnd p) (ep : Epoch) (c : Pos) (k : Nat) :
    Taken s ((s.withoutEntry w).flywheelOwn p ep c k) p ep k c (.flywheel c) := by
  obtain ⟨hcore, hsignals⟩ := (s.withoutEntry w).flywheelOwn_taken p ep c k
  refine ⟨?_, hsignals⟩
  rw [hcore]
  unfold State.withoutEntry
  rw [State.windowed_erase hw]
  rfl

end

/-- Settles O29: the flywheel leaves the core of `State.withForm`, and the flags of a start of MARK_LOST at the eighth miss; the row
is then given the form. -/
theorem flywheelAtTheWindowEnd : Obligations.FlywheelAtTheWindowEnd := by
  intro s p
  refine ⟨fun hdue => by rw [exec_markWindowEnd, State.fireWindow_none hdue], ?_⟩
  intro ep w x hwdue hep hexp
  have hw := Tracker.dueEntry_ev hwdue
  have hfly := State.flywheel_eq (s := s.withoutEntry w) (p := p) (ep := ep) (x := x) hep hexp
  generalize x.row + 1 = i at hfly
  intro m set c rt expected window kept
  rw [exec_markWindowEnd, State.fireWindow_due hwdue, hfly]
  refine ⟨fun hneg => ?_, ?_⟩
  · rw [if_pos hneg, State.preJobFlywheel_eq hw]
    rfl
  · intro k r z hk hcond hnext hrow hopen hply hnone hdue missed fire send causes reads u v
    subst hk
    have htaken := State.flywheelOwn_taken_due (s := s) hw ep c k
    have hrk : r.k = k := by simpa using List.find?_some hrow
    have hu : u.core = ((s.withForm p ep k c (.flywheel c)).given r p (.flywheel c) c causes).core := by
      subst hrk
      rfl
    have hv : ((s.withoutEntry w).flywheelOwn p ep c k).given r p (.flywheel c) c causes = v := by
      refine State.eq_of_core_flags ?_ ?_
      · have hcore : v.core = u.core := by
          simp only [v]
          split
          · exact core_startLevel _ _
          · rfl
        rw [hcore, hu]
        exact core_given htaken.core
      · refine (flags_flywheelOwn (s.withoutEntry w) p ep c k).trans ?_
        refine Eq.trans ?_ (apply_ite State.flags _ _ _).symm
        exact if_congr Iff.rfl (flags_startLevel_congr (by rfl) (by rfl) _) (by rfl)
    rw [← hv, if_neg (by omega), Int.toNat_natCast, State.flywheelForRow_eq]
    exact htaken.given_open hcond hnext hrow hopen hply hnone hdue

end Sys2Proof.Machine

namespace Sys2Proof.Machine

/-! ## Set Ply and Read Ply (R23, R32, R33, R39) -/

theorem clampTrend_eq (f : Int) (t : Nat) : clampTrend f t = max (-(16 * (t : Int))) (min (16 * (t : Int)) f) := by
  unfold clampTrend
  omega

/-- The trend of a ply once the fields of Set Ply are taken: within its bound where T is given (R32). -/
def PlyFields.trendOf (f : PlyFields) (set : PlySettings) (m : MarkPly) : Int :=
  if f.t = none then m.trend else max (-(16 * (set.t : Int))) (min (16 * (set.t : Int)) m.trend)

/-- Its drift condition, tested where T or the drift limit is given (R33). -/
def PlyFields.driftOf (f : PlyFields) (set : PlySettings) (m : MarkPly) (sync : SyncState) : Bool :=
  if f.t = none ∧ f.driftLimit = none then m.drift
  else decide (sync ≠ .off ∧ 0 < set.driftLimit ∧ 16 * (set.driftLimit : Int) ≤ |f.trendOf set m|)

/-- The ply's state once the fields are taken. -/
def PlyFields.markOf (f : PlyFields) (set : PlySettings) (m : MarkPly) (sync : SyncState) : MarkPly :=
  { m with
    trend := f.trendOf set m
    drift := f.driftOf set m sync }

/-- The state with the settings and the ply's state entered, DRIFT not yet raised. -/
def State.withPly (s : State) (p : Ply) (f : PlyFields) : State :=
  (s.setPlies (s.plies.set p (f.over (s.plies.get p)))).setMarks
    (s.marks.set p (f.markOf (f.over (s.plies.get p)) (s.marks.get p) (s.sync p)))

/-- The sync state depends on the epoch, E and m_p alone (Table 2-2). -/
theorem State.sync_congr {s t : State} {p : Ply} (htrk : t.trk = s.trk)
    (hexp : (t.marks.get p).expected = (s.marks.get p).expected) (hmissed : (t.marks.get p).missed = (s.marks.get p).missed) : t.sync p = s.sync p := by
  unfold State.sync
  rw [htrk, hexp, hmissed]

/-- The state with the settings entered and the trend brought within its bound, the drift condition not yet tested. -/
def State.withTrend (s : State) (p : Ply) (f : PlyFields) : State :=
  (s.setPlies (s.plies.set p (f.over (s.plies.get p)))).updMark p
    (fun m => { m with trend := f.trendOf (f.over (s.plies.get p)) m })

theorem State.takePly_tests (s : State) (p : Ply) (f : PlyFields) : s.takePly p f =
    if f.t.isSome ∨ f.driftLimit.isSome then (s.withTrend p f).testDrift p else s.withTrend p f := by
  unfold State.takePly State.withTrend PlyFields.trendOf
  cases ht : f.t with
  | none =>
    have hsame : ∀ u : State, u.updMark p (fun m => { m with trend := m.trend }) = u := fun u => by
      simp [State.updMark, State.setMarks]
    simp only [if_true, hsame]
  | some t => simp only [clampTrend_eq, PlyFields.over, ht, Option.getD_some, reduceCtorEq, if_false]

/-- The drift condition of the ply, tested (R33). -/
theorem State.driftNow_withTrend (s : State) (p : Ply) (f : PlyFields) (h : ¬(f.t = none ∧ f.driftLimit = none)) :
    (s.withTrend p f).driftNow p = f.driftOf (f.over (s.plies.get p)) (s.marks.get p) (s.sync p) := by
  have hplies : (s.withTrend p f).plies.get p = f.over (s.plies.get p) := by simp [State.withTrend, State.updMark]
  have hmark : (s.withTrend p f).marks.get p =
      { s.marks.get p with trend := f.trendOf (f.over (s.plies.get p)) (s.marks.get p) } := by
    simp [State.withTrend, State.updMark]
  have hsync : (s.withTrend p f).sync p = s.sync p := State.sync_congr rfl (by rw [hmark]) (by rw [hmark])
  unfold State.driftNow PlyFields.driftOf
  rw [if_neg h, hplies, hmark, hsync, Bool.decide_and, Bool.decide_and, Bool.and_assoc]

/-- Set Ply in full: the settings and the ply's state entered, and DRIFT raised where the drift condition starts. -/
theorem State.takePly_eq (s : State) (p : Ply) (f : PlyFields) : s.takePly p f =
    if f.driftOf (f.over (s.plies.get p)) (s.marks.get p) (s.sync p) = true ∧ (s.marks.get p).drift = false then
      (s.withPly p f).raiseBoth .drift else s.withPly p f := by
  rw [State.takePly_tests]
  by_cases h : f.t = none ∧ f.driftLimit = none
  · have hdrift : f.driftOf (f.over (s.plies.get p)) (s.marks.get p) (s.sync p) = (s.marks.get p).drift := if_pos h
    have hwith : s.withPly p f = s.withTrend p f := by
      unfold State.withPly PlyFields.markOf
      rw [hdrift]
      rfl
    obtain ⟨ht, hlimit⟩ := h
    rw [if_neg (by simp [ht, hlimit]), hdrift, if_neg (by simp), hwith]
  · have hmark : (s.withTrend p f).updMark p (fun m =>
        { m with drift := f.driftOf (f.over (s.plies.get p)) (s.marks.get p) (s.sync p) }) = s.withPly p f := by
      unfold State.withTrend
      rw [State.updMark_updMark]
      rfl
    have hwas : ((s.withTrend p f).marks.get p).drift = (s.marks.get p).drift := by simp [State.withTrend, State.updMark]
    rw [if_pos (by rw [Option.isSome_iff_ne_none, Option.isSome_iff_ne_none]; exact not_and_or.1 h)]
    unfold State.testDrift
    dsimp only
    rw [State.driftNow_withTrend s p f h, hmark, hwas]
    simp only [Bool.and_eq_true, Bool.not_eq_true']

theorem State.takePly_holding (s : State) (q : Port) (r : Request) (p : Ply) (f : PlyFields) :
    (s.holding q r).takePly p f = (s.takePly p f).holding q r := by
  have hmarks : (s.holding q r).marks = s.marks := by cases q <;> rfl
  have hsync : (s.holding q r).sync p = s.sync p := by cases q <;> rfl
  have hwith : (s.holding q r).withPly p f = (s.withPly p f).holding q r := by cases q <;> rfl
  rw [State.takePly_eq, State.takePly_eq, State.plies_holding, hmarks, hsync, hwith, State.raiseBoth_holding]
  split <;> rfl

/-- The range tests of Set Ply: a presence byte above 1, or a present setting above its bound (R23 test 3). -/
theorem plySettings_outOfRange {body : List Byte} {f : PlyFields} : plyFlags body = false ∨ f.valid = false ↔
    (∃ off ∈ [1, 5, 9, 13, 17, 21, 25, 27, 31, 35], 1 < fieldAt off 1 body) ∨
      (∃ n ∈ f.d, 4194303 < n) ∨ (∃ n ∈ f.l, 65535 < n) ∨ (∃ n ∈ f.q, 1048575 < n) ∨ (∃ n ∈ f.s, 1048575 < n) ∨
      (∃ n ∈ f.mb, 20000 < n) ∨ (∃ n ∈ f.ma, 20000 < n) ∨ (∃ n ∈ f.reader, 1 < n) ∨ (∃ n ∈ f.w, 4095 < n) ∨
      (∃ n ∈ f.t, 4095 < n) ∨ (∃ n ∈ f.driftLimit, 4095 < n) := by
  have hflags : plyFlags body = false ↔ ∃ off ∈ [1, 5, 9, 13, 17, 21, 25, 27, 31, 35], 1 < fieldAt off 1 body := by
    simp only [plyFlags, isFlag, Bool.and_eq_false_iff, decide_eq_false_iff_not, not_le, or_assoc, List.mem_cons,
      List.not_mem_nil, or_false, exists_eq_or_imp, exists_eq_left]
  rw [hflags]
  simp only [PlyFields.valid, Bool.and_eq_false_iff, inRange_zero_eq_false, or_assoc]

theorem PlyFields.freeOnly_iff {f : PlyFields} : f.freeOnly = true ↔
    f.d ≠ none ∨ f.l ≠ none ∨ f.q ≠ none ∨ f.s ≠ none ∨ f.mb ≠ none ∨ f.ma ≠ none ∨ f.reader ≠ none := by
  simp only [PlyFields.freeOnly, Bool.or_eq_true, Option.isSome_iff_ne_none, or_assoc]

theorem exec_setPly_outside {s : State} {port : Port} {body : List Byte} (tag : Byte) (hlen : body.length = 39)
    (htakes : s.Takes port .setPly) (h : fieldAt 0 1 body < 1 ∨ 6 < fieldAt 0 1 body) :
    exec (.setPly port tag body) s = .next (s.answered port 0x22 tag (.refusal .range)) := by
  refine request_taken htakes (by simp [bodyLengthOk, hlen]) (by omega) ?_ htakes.1.2.1
  rw [serve]
  simp only [serveSetPly, Ply.ofNumber_outside (h.imp_left (by omega))]
  rfl

/-- Set Ply of an installable ply number: its tests in order, and the present settings taken (R23). -/
theorem exec_setPly {s : State} {port : Port} {body : List Byte} {p : Ply} (tag : Byte) (hlen : body.length = 39)
    (htakes : s.Takes port .setPly) (hp : fieldAt 0 1 body = p.number) :
    exec (.setPly port tag body) s = .next (
      if s.straps.installed p = false then s.answered port 0x22 tag (.refusal .plies)
      else if plyFlags body = false ∨ (decodePlyFields body).valid = false then s.answered port 0x22 tag (.refusal .range)
      else if (decodePlyFields body).freeOnly = true ∧ s.trk.epoch.isSome then s.answered port 0x22 tag .busy
      else (s.takePly p (decodePlyFields body)).answered port 0x22 tag .plain) := by
  have hok : bodyLengthOk .setPly body = true := by simp [bodyLengthOk, hlen]
  have hserve : ∀ u : State, serve .setPly port body u =
      if u.straps.installed p = false then refuse .plies u
      else if plyFlags body = false ∨ (decodePlyFields body).valid = false then refuse .range u
      else if (decodePlyFields body).freeOnly = true ∧ u.trk.epoch.isSome then busyReply u
      else okReply .none (u.takePly p (decodePlyFields body)) := by
    intro u
    rw [serve]
    simp only [serveSetPly, hp, Ply.ofNumber_number]
  have hheld := htakes.1.2.1
  split_ifs with hinst hrange hbusy
  · refine request_taken htakes hok (by omega) ?_ hheld
    rw [hserve, State.straps_holding, if_pos hinst]
    rfl
  · refine request_taken htakes hok (by omega) ?_ hheld
    rw [hserve, State.straps_holding, if_neg hinst, if_pos hrange]
    rfl
  · refine request_taken htakes hok (by omega) ?_ hheld
    rw [hserve, State.straps_holding, State.trk_holding, if_neg hinst, if_neg hrange, if_pos hbusy]
    rfl
  · refine request_taken htakes hok (by omega) ?_ (((s.takePly_turn p _).traffic port).held.trans hheld)
    rw [hserve, State.straps_holding, State.trk_holding, if_neg hinst, if_neg hrange, if_neg hbusy, State.takePly_holding]
    rfl

theorem serveReadPly_ply {port : Port} {body : List Byte} {p : Ply} (h : fieldAt 0 1 body = p.number) (s : State) :
    serveReadPly port body s = (.okay (.ply (s.plies.get p) (s.sync p) (s.marks.get p)), s) := by
  simp only [serveReadPly, h, Ply.ofNumber_number]
  rfl

theorem serveReadPly_outside {port : Port} {body : List Byte} (h : fieldAt 0 1 body = 0 ∨ 6 < fieldAt 0 1 body) (s : State) :
    serveReadPly port body s = (.refusal .range, s) := by
  simp only [serveReadPly, Ply.ofNumber_outside h]
  rfl

/-- Settles O49. -/
theorem plySettingsAreTested : Obligations.PlySettingsAreTested := by
  intro s port tag body f
  refine ⟨fun htakes hlen => ?_, fun hready hlen p => ⟨fun hp => ?_, fun hout => ?_⟩⟩
  · intro out reply
    refine ⟨exec_setPly_outside tag hlen htakes, fun p hp => ?_⟩
    have hexec : out = _ := exec_setPly tag hlen htakes hp
    rw [hexec]
    have hbusy : (f.freeOnly = true ∧ s.trk.epoch.isSome) ↔
        (f.d ≠ none ∨ f.l ≠ none ∨ f.q ≠ none ∨ f.s ≠ none ∨ f.mb ≠ none ∨ f.ma ≠ none ∨ f.reader ≠ none) ∧
          s.trk.epoch ≠ none := and_congr PlyFields.freeOnly_iff Option.isSome_iff_ne_none
    by_cases hinst : s.straps.installed p = false
    · rw [if_pos hinst, if_pos hinst]
    by_cases hrange : plyFlags body = false ∨ f.valid = false
    · rw [if_neg hinst, if_neg hinst, if_pos hrange, if_pos (plySettings_outOfRange.1 hrange)]
    by_cases hfree : f.freeOnly = true ∧ s.trk.epoch.isSome
    · rw [if_neg hinst, if_neg hinst, if_neg hrange, if_neg (mt plySettings_outOfRange.2 hrange), if_pos hfree,
        if_pos (hbusy.1 hfree)]
    · rw [if_neg hinst, if_neg hinst, if_neg hrange, if_neg (mt plySettings_outOfRange.2 hrange), if_neg hfree,
        if_neg (mt hbusy.2 hfree), State.takePly_eq]
      rfl
  · refine (request_read hready rfl (by simp [bodyLengthOk, hlen]) (by omega) (by rw [serve, serveReadPly_ply hp])).trans ?_
    cases port <;> rfl
  · exact request_read hready rfl (by simp [bodyLengthOk, hlen]) (by omega) (by rw [serve, serveReadPly_outside hout])

end Sys2Proof.Machine

namespace Sys2Proof.Machine

/-! ## A splice placed on its ply (R43 to R45) -/

section
variable {s : State} {p : Ply} {ep : Epoch}

/-- Where the affected span of a splice begins whose span begins at `start`: there, or past the newest zone where a full list
has that zone extended (R44). -/
def State.affectedFrom (s : State) (p : Ply) (start : Pos) : Pos :=
  match (s.zones.get p).getLast? with
  | some z => if isAhead start (z.stop + 1) = true ∧ 4 ≤ (s.zones.get p).length then z.stop + 1 else start
  | none => start

/-- The state with a splice counted and its span from `lo` to `hi` placed (R43 to R45). -/
def State.spliced (s : State) (p : Ply) (lo hi expiry : Pos) : State :=
  ((s.setZones (s.zones.set p (s.zonePlaced p lo hi expiry).1)).setTrk
    { s.trk with schedule := (s.zonePlaced p lo hi expiry).2 }).setShift
    { s.shift with splices := satAdd s.shift.splices 1 }

theorem State.zonePlaced_empty {lo hi expiry : Pos} (hlast : (s.zones.get p).getLast? = none) :
    s.zonePlaced p lo hi expiry = ([⟨lo, hi, expiry⟩], s.trk.schedule ++ [⟨expiry, .zoneExpiry p⟩]) := by
  unfold State.zonePlaced
  simp only [hlast]

theorem State.zonePlaced_last {lo hi expiry : Pos} {n : Zone} (hlast : (s.zones.get p).getLast? = some n) :
    s.zonePlaced p lo hi expiry =
      if isAhead lo (n.stop + 1) = true ∧ (s.zones.get p).length < 4 then
        (s.zones.get p ++ [⟨lo, hi, expiry⟩], s.trk.schedule ++ [⟨expiry, .zoneExpiry p⟩])
      else ((s.zones.get p).dropLast ++ [⟨n.start, hi, expiry⟩],
        s.trk.schedule.filter (fun y => !(decide (y.ev = .zoneExpiry p) && decide (y.pos = n.expiry))) ++
          [⟨expiry, .zoneExpiry p⟩]) := by
  unfold State.zonePlaced
  simp only [hlast]

theorem extendNewest_last {zs : List Zone} {n : Zone} (hlast : zs.getLast? = some n) (hi expiry : Pos) :
    extendNewest zs hi expiry = zs.dropLast ++ [⟨n.start, hi, expiry⟩] := by
  unfold extendNewest
  simp only [hlast]

/-- The span placed, in full: the affected span, the zone list and the schedule. -/
theorem State.placeZone_eq (s : State) (p : Ply) (ep : Epoch) (lo hi : Pos) :
    s.placeZone p ep lo hi = ((s.affectedFrom p lo, hi),
      (s.setZones (s.zones.set p (s.zonePlaced p lo hi (zoneExpiryPos ep hi)).1)).setTrk
        { s.trk with schedule := (s.zonePlaced p lo hi (zoneExpiryPos ep hi)).2 }) := by
  unfold State.placeZone State.affectedFrom
  cases hlast : (s.zones.get p).getLast? with
  | none =>
    rw [State.zonePlaced_empty hlast, List.getLast?_eq_none_iff.1 hlast]
    rfl
  | some n =>
    rw [State.zonePlaced_last hlast]
    simp only [hlast, extendNewest_last hlast, zoneCapacity, show posFwd n.stop 1 = n.stop + 1 from rfl]
    cases hahead : isAhead lo (n.stop + 1) with
    | false => rfl
    | true =>
      by_cases hroom : (s.zones.get p).length < 4
      · simp only [hroom, Nat.not_le.2 hroom, and_true, and_false, if_true, if_false]
        rfl
      · simp only [hroom, Nat.not_lt.1 hroom, and_true, and_false, if_true, if_false]
        rfl

/-- The walk over every row from the youngest back, and the late reports, in NORMAL; nothing in any other condition (R47, R49). -/
def State.walked (s : State) (p : Ply) (lo hi : Pos) : State :=
  if s.audit.condition = .normal then (walk p lo hi s.pipe.rows.reverse s).lateSplices p lo hi else s

theorem exec_spliceDetection (p : Ply) (s : State) : exec (.spliceDetection p) s = .next (s.takeSplice p).startSending := rfl

/-- A splice taken whose zone does not expire at once (R43 test 3). -/
theorem exec_splice_taken {x start hi expiry : Pos} (htravel : s.trk.retravel = false) (hep : s.trk.epoch = some ep)
    (hmask : inMask ep.mask p = true) (hx : x = s.trk.h + BitVec.ofNat 40 (s.plies.get p).s)
    (hstart : start = x - BitVec.ofNat 40 (s.plies.get p).mb) (hhi : hi = x + BitVec.ofNat 40 (s.plies.get p).ma)
    (hexpiry : expiry = hi + BitVec.ofNat 40 (ep.repeatUm / 50 / 2 + 2)) (hahead : isAhead expiry s.trk.h = true) :
    exec (.spliceDetection p) s =
      .next ((s.spliced p start hi expiry).walked p (s.affectedFrom p start) hi).startSending := by
  subst hx hstart hhi hexpiry
  rw [exec_spliceDetection]
  have htaken : s.takeSplice p = s.spliceTaken p ep := by
    unfold State.takeSplice
    simp only [htravel, hep, hmask, if_true, Bool.false_eq_true, if_false]
  rw [htaken]
  have hlater : isAhead (zoneExpiryPos ep (posFwd (posFwd s.trk.h (s.plies.get p).s) (s.plies.get p).ma)) s.trk.h = true :=
    hahead
  unfold State.spliceTaken
  simp only [State.placeZone_eq, State.updShift, State.setShift_trk, hlater, if_true]
  rfl

end

end Sys2Proof.Machine

namespace Sys2Proof.Machine

/-! ## Rows withdrawn, oldest first (R48, R67, R84)

What the walk makes of the state is said once for a whole list of rows, each part in closed form; the walk puts the row it
withdraws at the list's head. -/

/-- A row of the list has the index. -/
def anyRow (ws : List Row) (k : Nat) : Bool := ws.any (fun y => decide (y.k = k))

/-- The row withdrawn where the list has its index. -/
def Row.withdrawnIn (ws : List Row) (y : Row) : Row := if anyRow ws y.k then y.withdrawn else y

/-- The Generator once the rows of a list are taken back, youngest first (R67). -/
def Generator.takenBack (g : Generator) (ws : List Row) : Generator :=
  { g with
    r := g.r - (ws.filter Row.fromDraw).length
    feed := ws.flatMap Row.listNumbers ++ g.feed
    listCount := g.listCount - (ws.flatMap Row.listNumbers).length
    complete := g.complete && decide (ws.filter Row.fromDraw = [])
    phase := if ws.filter Row.fromDraw ≠ [] ∧ g.complete = true then .sequence else g.phase }

/-- The entry WAITING again where a row of the list has a MAKEUP lane of its number (R67). -/
def MakeUpEntry.takenBack (id : Nat) (ws : List Row) (e : MakeUpEntry) : MakeUpEntry :=
  if e.job = id ∧ e.state = .issued ∧ e.number ∈ ws.flatMap Row.makeUpNumbers then { e with state := .waiting } else e

/-- The recovery record of a job brought up to date with the Generator and with `n` lanes withdrawn (R67, R153). -/
def RecoveryRecord.takenBack (id : Nat) (g : Generator) (n : Nat) (z : RecoveryRecord) : RecoveryRecord :=
  if z.job = id ∧ z.state = .opened then
    { z with
      r := g.r
      listCount := g.listCount
      withdrawn := z.withdrawn + n }
  else z

/-- `n` lanes of a job counted in its WITHDRAWN (R48). -/
def Job.countWithdrawn (id n : Nat) (z : Job) : Job :=
  if z.id = id then { z with tallies := { z.tallies with withdrawn := satAdd z.tallies.withdrawn n } } else z

/-- The purpose is not the send of a row of the list. -/
def keepsSend (ws : List Row) : PosEvent → Bool
  | .send _ k => !anyRow ws k
  | _ => true

/-- The expectations of the list's rows ended (R84). -/
def ReaderPly.without (ws : List Row) (x : ReaderPly) : ReaderPly :=
  { x with expectations := x.expectations.filter (fun e => !anyRow ws e.row) }

/-- The state with the rows of a list, of the job of an id, taken back and blanked, but for the reserve condition. -/
def State.blanked (s : State) (id : Nat) (ws : List Row) : State :=
  { s with
    gen := s.gen.takenBack ws
    pipe := { s.pipe with rows := s.pipe.rows.map (Row.withdrawnIn ws) }
    audit := { s.audit with
      queue := s.audit.queue.map (MakeUpEntry.takenBack id ws)
      records := s.audit.records.map (RecoveryRecord.takenBack id (s.gen.takenBack ws) (inFlightOfRows ws)) }
    requests := s.requests.filter (fun q => !anyRow ws q.row)
    trk := { s.trk with schedule := s.trk.schedule.filter (fun w => keepsSend ws w.ev) }
    readers := s.readers.map (ReaderPly.without ws)
    jobs := s.jobs.map (Job.countWithdrawn id (inFlightOfRows ws)) }

/-- The state after a fall of the in-flight count that leaves room for a full row, or does not (R79). -/
def State.fallen (s : State) (room : Bool) : State :=
  (s.setPipe { s.pipe with reserve := s.pipe.reserve && !room }).setStop
    { s.stop with held := if s.pipe.reserve && room then StopSet.erase s.stop.held .voidReserve else s.stop.held }

/-- There is room for a full row of `lanes` lanes (R79). -/
def State.roomFor (s : State) (lanes : Nat) : Bool := decide (s.audit.voidCount + s.inFlight + lanes ≤ voidCapacity)

/-- The state once the rows of a list are withdrawn, all of the job `j`. -/
def State.withdrawal (s : State) (j : Job) (ws : List Row) : State :=
  if ws = [] then s else (s.blanked j.id ws).fallen ((s.blanked j.id ws).roomFor j.plan.lanes)

/-! ### One part after the other -/

theorem Row.listNumbers_of_not_fromDraw {r : Row} (h : r.fromDraw = false) : r.listNumbers = [] := by
  refine List.filterMap_eq_nil_iff.2 fun l hl => ?_
  have hlane : l.fromDraw = false := by simpa using List.any_eq_false.1 h l hl
  unfold LaneRec.fromDraw at hlane
  split
  · rename_i n hn
    simp only [hn, Bool.or_eq_false_iff, decide_eq_false_iff_not] at hlane
    exact if_neg hlane.2
  · rfl

theorem Generator.takenBack_one (g : Generator) (r : Row) :
    g.takenBack [r] = if r.fromDraw then
      { g with
        feed := r.listNumbers ++ g.feed
        listCount := g.listCount - r.listNumbers.length
        r := g.r - 1
        complete := false
        phase := if g.complete then .sequence else g.phase }
    else g := by
  cases h : r.fromDraw with
  | true => simp [Generator.takenBack, h]
  | false => simp [Generator.takenBack, h, Row.listNumbers_of_not_fromDraw h]

theorem Generator.takenBack_cons (g : Generator) (ws : List Row) (r : Row) :
    (g.takenBack ws).takenBack [r] = g.takenBack (r :: ws) := by
  rw [Generator.takenBack_one]
  cases h : r.fromDraw with
  | true =>
    simp only [Generator.takenBack, h, List.filter_cons_of_pos, List.flatMap_cons, List.length_append, List.length_cons,
      List.append_assoc, if_true, reduceCtorEq, not_false_eq_true, ne_eq, true_and, decide_false, Bool.and_false,
      Generator.mk.injEq, and_true]
    refine ⟨?_, by omega, by omega⟩
    by_cases hc : g.complete = true <;> by_cases hd : ws.filter Row.fromDraw = [] <;> simp [hc, hd]
  | false =>
    simp [Generator.takenBack, h, Row.listNumbers_of_not_fromDraw h]

theorem anyRow_cons (r : Row) (ws : List Row) (k : Nat) : anyRow (r :: ws) k = (anyRow [r] k || anyRow ws k) := by
  simp [anyRow]

theorem anyRow_one (r : Row) (k : Nat) : anyRow [r] k = decide (r.k = k) := by simp [anyRow]

theorem Row.withdrawn_withdrawn (r : Row) : r.withdrawn.withdrawn = r.withdrawn := by
  simp [Row.withdrawn, Function.comp_def]

theorem Row.withdrawnIn_cons (r : Row) (ws : List Row) (y : Row) :
    (y.withdrawnIn ws).withdrawnIn [r] = y.withdrawnIn (r :: ws) := by
  unfold Row.withdrawnIn
  rw [anyRow_cons r ws]
  cases anyRow ws y.k <;> cases hr : anyRow [r] y.k <;> simp [hr, Row.withdrawn_withdrawn]

theorem MakeUpEntry.takenBack_cons (id : Nat) (r : Row) (ws : List Row) (e : MakeUpEntry) :
    (e.takenBack id ws).takenBack id [r] = e.takenBack id (r :: ws) := by
  unfold MakeUpEntry.takenBack
  by_cases hws : e.job = id ∧ e.state = .issued ∧ e.number ∈ ws.flatMap Row.makeUpNumbers
  · simp [hws]
  · rw [if_neg hws]
    refine if_congr ?_ rfl rfl
    simp only [List.flatMap_cons, List.flatMap_nil, List.append_nil, List.mem_append]
    tauto

theorem RecoveryRecord.takenBack_cons (id m n : Nat) (g h : Generator) (z : RecoveryRecord) :
    (z.takenBack id g m).takenBack id h n = z.takenBack id h (n + m) := by
  unfold RecoveryRecord.takenBack
  by_cases hz : z.job = id ∧ z.state = .opened
  · simp [hz, Nat.add_comm, Nat.add_left_comm]
  · simp [hz]

theorem Job.countWithdrawn_add (id m n : Nat) (z : Job) :
    (z.countWithdrawn id m).countWithdrawn id n = z.countWithdrawn id (n + m) := by
  unfold Job.countWithdrawn
  by_cases hz : z.id = id
  · simp [hz, satAdd_satAdd, Nat.add_comm]
  · simp [hz]

theorem keepsSend_cons (r : Row) (ws : List Row) (ev : PosEvent) :
    keepsSend (r :: ws) ev = (keepsSend [r] ev && keepsSend ws ev) := by
  cases ev <;> simp [keepsSend, anyRow_cons r ws]

theorem ReaderPly.without_cons (r : Row) (ws : List Row) (x : ReaderPly) :
    (x.without ws).without [r] = x.without (r :: ws) := by
  simp [ReaderPly.without, List.filter_filter, anyRow_cons r ws]

theorem PerPly.map_map {α β γ : Type} (x : PerPly α) (f : α → β) (g : β → γ) : (x.map f).map g = x.map (fun v => g (f v)) := rfl

theorem inFlightOfRows_cons (r : Row) (ws : List Row) : inFlightOfRows (r :: ws) = r.numbered + inFlightOfRows ws := by
  simp [inFlightOfRows]

theorem State.blanked_cons (s : State) (id : Nat) (r : Row) (ws : List Row) :
    (s.blanked id ws).blanked id [r] = s.blanked id (r :: ws) := by
  have hone : inFlightOfRows [r] = r.numbered := by simp [inFlightOfRows]
  simp only [State.blanked, Generator.takenBack_cons, List.map_map, Function.comp_def, Row.withdrawnIn_cons,
    MakeUpEntry.takenBack_cons, RecoveryRecord.takenBack_cons, Job.countWithdrawn_add, List.filter_filter, PerPly.map_map,
    ReaderPly.without_cons, anyRow_cons r ws, keepsSend_cons r ws, hone, inFlightOfRows_cons r ws, Bool.not_or]

theorem State.fallen_fallen (s : State) (a b : Bool) : (s.fallen a).fallen b = s.fallen (a || b) := by
  cases hr : s.pipe.reserve <;> cases a <;> cases b <;> simp [State.fallen, State.setPipe, State.setStop, hr]

end Sys2Proof.Machine

namespace Sys2Proof.Machine

/-! ## One row withdrawn (R48, R67, R79, R84) -/

section
variable {s : State} {j : Job} {r : Row} {ws : List Row}

theorem State.fallen_false (s : State) : s.fallen false = s := by simp [State.fallen, State.setPipe, State.setStop]

theorem State.fallen_of_clear (hr : s.pipe.reserve = false) (room : Bool) : s.fallen room = s := by
  have hpipe : { s.pipe with reserve := s.pipe.reserve && !room } = s.pipe := by
    rw [hr, Bool.false_and, ← hr]
  unfold State.fallen
  rw [hpipe, hr]
  rfl

/-- The fall of the in-flight count in NORMAL, in full (R79). -/
theorem State.reserveFall_eq (hcond : s.audit.condition = .normal) (hcons : s.stop.Consistent) (hrun : s.running = some j) :
    s.reserveFall = s.fallen (s.roomFor j.plan.lanes) := by
  have hsaving : s.savingOrSaved = false := by simp [State.savingOrSaved, hcond]
  have hroom : s.reservationOk j.plan.lanes = s.roomFor j.plan.lanes := rfl
  unfold State.reserveFall
  simp only [hsaving, hrun, hroom, Bool.false_eq_true, if_false]
  cases s.roomFor j.plan.lanes with
  | false => exact s.fallen_false.symm
  | true =>
    unfold State.clearReserve
    cases hr : s.pipe.reserve with
    | false => exact (State.fallen_of_clear hr true).symm
    | true =>
      simp only [if_true]
      rw [State.endLevel_of_consistent (by exact hcons)]
      simp only [State.fallen, hr, Bool.not_true, Bool.and_false, Bool.and_true, if_true]
      rfl

/-- A row's numbers taken back, in full (R67, R153). -/
theorem State.takeBack_eq (s : State) (r : Row) : s.takeBack r =
    (s.setGen (s.gen.takenBack [r])).setAudit { s.audit with
      queue := s.audit.queue.map (MakeUpEntry.takenBack r.job [r])
      records := s.audit.records.map (RecoveryRecord.takenBack r.job (s.gen.takenBack [r]) r.numbered) } := by
  have hentry (e : MakeUpEntry) : (if decide (e.job = r.job) && decide (e.state = .issued) && decide (e.number ∈ r.makeUpNumbers)
      then { e with state := .waiting } else e) = e.takenBack r.job [r] := by
    simp [MakeUpEntry.takenBack, and_assoc]
  unfold State.takeBack
  simp only [hentry, Generator.takenBack_one]
  cases r.fromDraw <;> rfl

/-- Row r blanked in the pipeline, its sends withdrawn and its expectations ended, in full (R48, R84). -/
theorem State.updRow_withdrawn (s : State) (r : Row) : s.updRow r.k Row.withdrawn =
    s.setPipe { s.pipe with rows := s.pipe.rows.map (Row.withdrawnIn [r]) } := by
  have hrow (y : Row) : (if y.k = r.k then y.withdrawn else y) = y.withdrawnIn [r] := by
    simp [Row.withdrawnIn, anyRow_one, eq_comm]
  unfold State.updRow State.setRows
  simp only [hrow]

theorem State.withdrawSends_eq (s : State) (r : Row) : s.withdrawSends r.k =
    (s.setTrk { s.trk with schedule := s.trk.schedule.filter (fun w => keepsSend [r] w.ev) }).setRequests
      (s.requests.filter (fun q => !anyRow [r] q.row)) := by
  refine congrArg₂ (fun f g => (s.setTrk { s.trk with schedule := s.trk.schedule.filter f }).setRequests
    (s.requests.filter g)) (funext fun w => ?_) (funext fun q => ?_)
  · cases w.ev <;> simp [keepsSend, anyRow_one, eq_comm]
  · simp [anyRow_one, eq_comm]

theorem State.endExpectations_eq (s : State) (r : Row) :
    s.endExpectations r.k = s.setReaders (s.readers.map (ReaderPly.without [r])) := by
  have hreader (x : ReaderPly) : { x with expectations := x.expectations.filter (fun e => decide (e.row ≠ r.k)) } =
      x.without [r] := by
    simp [ReaderPly.without, anyRow_one, eq_comm]
  unfold State.endExpectations
  simp only [hreader]

/-- One row withdrawn: its part in closed form, then the fall of the in-flight count and its report. -/
theorem State.withdrawRow_eq (s : State) (r : Row) :
    s.withdrawRow r = (s.blanked r.job [r]).reserveFall.reportInFlight r.job := by
  have hone : inFlightOfRows [r] = r.numbered := by simp [inFlightOfRows]
  have hblanked : s.blanked r.job [r] = ((((s.takeBack r).updRow r.k Row.withdrawn).withdrawSends r.k).endExpectations
      r.k).updTallies r.job (fun t => { t with withdrawn := satAdd t.withdrawn r.numbered }) := by
    rw [State.takeBack_eq, State.updRow_withdrawn, State.withdrawSends_eq, State.endExpectations_eq]
    unfold State.blanked
    rw [hone]
    rfl
  rw [hblanked]
  rfl

end

end Sys2Proof.Machine

namespace Sys2Proof.Machine

/-! ## The walk over rows it can take (R47) -/

section
variable {s : State} {j : Job} {r : Row} {ws : List Row}

/-- A state the walk meets: NORMAL, with a consistent Stop Unit, and `j` its RUNNING job. -/
structure State.Walking (s : State) (j : Job) : Prop where
  normal : s.audit.condition = .normal
  stop : s.stop.Consistent
  jobs : JobsOk s.jobs
  running : s.running = some j

/-- A row of the job `j` that was drawn in the SEQUENCE phase, or that is of a STRICT job and has an ISSUED entry, as R69 leaves
it. -/
def State.Returns (s : State) (j : Job) (r : Row) : Prop :=
  r.job = j.id ∧ (r.fromDraw = false → j.plan.accounting = .strict ∧
    ∃ e ∈ s.audit.queue, e.job = j.id ∧ e.state = .issued ∧ e.number ∈ r.makeUpNumbers)

@[simp] theorem Job.countWithdrawn_id (id n : Nat) (z : Job) : (z.countWithdrawn id n).id = z.id := by
  unfold Job.countWithdrawn
  split <;> rfl

@[simp] theorem Job.countWithdrawn_state (id n : Nat) (z : Job) : (z.countWithdrawn id n).state = z.state := by
  unfold Job.countWithdrawn
  split <;> rfl

@[simp] theorem Job.countWithdrawn_plan (id n : Nat) (z : Job) : (z.countWithdrawn id n).plan = z.plan := by
  unfold Job.countWithdrawn
  split <;> rfl

theorem State.blanked_running (s : State) (id : Nat) (ws : List Row) :
    (s.blanked id ws).running = s.running.map (Job.countWithdrawn id (inFlightOfRows ws)) :=
  find_state_map _ _ (Job.countWithdrawn_state id _) _

theorem State.blanked_job (s : State) (id i : Nat) (ws : List Row) :
    (s.blanked id ws).job i = (s.job i).map (Job.countWithdrawn id (inFlightOfRows ws)) :=
  find_id_map _ _ (Job.countWithdrawn_id id _) _

/-- A level cause no longer held leaves the Stop Unit consistent. -/
theorem StopUnit.Consistent.fall {u : StopUnit} (h : u.Consistent) (b : Prop) [Decidable b] (c : StopCause) :
    StopUnit.Consistent { u with held := if b then StopSet.erase u.held c else u.held } := by
  refine ⟨h.1, (StopSet.within_iff _ _).2 fun i hi => (StopSet.within_iff _ _).1 h.2 i ?_⟩
  by_cases hb : b
  · simp only [hb, if_true, StopSet.erase, BitVec.getLsbD_and, Bool.and_eq_true] at hi
    exact hi.1
  · simpa only [hb, if_false] using hi

/-- Rows withdrawn while the job has lanes that return: its DRAINING test finds the draw incomplete, or an entry that waits, so the
job stays RUNNING (R67, R132). -/
theorem State.withdrawal_stays (h : s.Walking j) (hr : s.Returns j r) (room : Bool) :
    ((s.blanked j.id (r :: ws)).fallen room).reportInFlight j.id = (s.blanked j.id (r :: ws)).fallen room := by
  have hdrain : ((s.blanked j.id (r :: ws)).fallen room).testDrain j.id = (s.blanked j.id (r :: ws)).fallen room := by
    have hjob : ((s.blanked j.id (r :: ws)).fallen room).job j.id =
        some (j.countWithdrawn j.id (inFlightOfRows (r :: ws))) := by
      rw [show ((s.blanked j.id (r :: ws)).fallen room).job j.id = (s.blanked j.id (r :: ws)).job j.id from rfl,
        State.blanked_job, State.job_of_running h.jobs h.running]
      rfl
    have hgoes : ((s.blanked j.id (r :: ws)).fallen room).drainCondition (j.countWithdrawn j.id (inFlightOfRows (r :: ws))) =
        false := by
      unfold State.drainCondition
      rw [Job.countWithdrawn_plan, Job.countWithdrawn_id]
      cases hdraw : r.fromDraw with
      | true =>
        have hcomplete : ((s.blanked j.id (r :: ws)).fallen room).gen.complete = false := by
          show (s.gen.complete && decide ((r :: ws).filter Row.fromDraw = [])) = false
          simp [hdraw]
        rw [hcomplete]
        rfl
      | false =>
        obtain ⟨hstrict, e, he, hejob, hissued, hnumber⟩ := hr.2 hdraw
        have hwaits : ((s.blanked j.id (r :: ws)).fallen room).audit.waiting j.id ≠ 0 := by
          have hback : e.takenBack j.id (r :: ws) = { e with state := .waiting } :=
            if_pos ⟨hejob, hissued, by simp [hnumber]⟩
          have hmem : e.takenBack j.id (r :: ws) ∈ ((s.blanked j.id (r :: ws)).fallen room).audit.queue :=
            List.mem_map.2 ⟨e, he, rfl⟩
          refine Nat.pos_iff_ne_zero.1 (List.length_pos_of_mem (List.mem_filter.2 ⟨hmem, ?_⟩))
          rw [hback]
          simp [MakeUpEntry.isWaiting, hejob]
        simp [hstrict, hwaits]
    unfold State.testDrain
    rw [hjob]
    simp [hgoes]
  unfold State.reportInFlight
  rw [hdrain, ite_self]

/-- The rows not yet withdrawn leave the more room the fewer they are. -/
theorem State.roomFor_cons {lanes : Nat} (h : (s.blanked j.id ws).roomFor lanes = true) :
    (s.blanked j.id (r :: ws)).roomFor lanes = true := by
  have hfewer : (s.blanked j.id (r :: ws)).inFlight ≤ (s.blanked j.id ws).inFlight := by
    rw [← State.blanked_cons]
    refine inFlightOfRows_map _ (fun y => ?_) _
    unfold Row.withdrawnIn
    split
    · rw [Row.withdrawn_numbered]
      exact Nat.zero_le _
    · exact Nat.le_refl _
  have hcount : (s.blanked j.id (r :: ws)).audit.voidCount = (s.blanked j.id ws).audit.voidCount := rfl
  unfold State.roomFor at h ⊢
  rw [decide_eq_true_eq] at h ⊢
  omega

theorem State.withdrawal_nil (s : State) (j : Job) : s.withdrawal j [] = s := rfl

theorem State.withdrawal_cons (s : State) (j : Job) (r : Row) (ws : List Row) : s.withdrawal j (r :: ws) =
    (s.blanked j.id (r :: ws)).fallen ((s.blanked j.id (r :: ws)).roomFor j.plan.lanes) := rfl

/-- The withdrawal of an older row puts it at the head of the rows withdrawn. -/
theorem State.withdrawRow_withdrawal (h : s.Walking j) (hr : s.Returns j r) :
    (s.withdrawal j ws).withdrawRow r = s.withdrawal j (r :: ws) := by
  have hstep (room : Bool)
      (hblanked : (s.withdrawal j ws).blanked j.id [r] = (s.blanked j.id (r :: ws)).fallen room)
      (hless : room = true → (s.blanked j.id (r :: ws)).roomFor j.plan.lanes = true) :
      (s.withdrawal j ws).withdrawRow r = s.withdrawal j (r :: ws) := by
    have hfall : ((s.blanked j.id (r :: ws)).fallen room).reserveFall =
        (s.blanked j.id (r :: ws)).fallen ((s.blanked j.id (r :: ws)).roomFor j.plan.lanes) := by
      have hrun : ((s.blanked j.id (r :: ws)).fallen room).running =
          some (j.countWithdrawn j.id (inFlightOfRows (r :: ws))) := by
        rw [show ((s.blanked j.id (r :: ws)).fallen room).running = (s.blanked j.id (r :: ws)).running from rfl,
          State.blanked_running, h.running]
        rfl
      rw [State.reserveFall_eq (by exact h.normal) (h.stop.fall _ _) hrun, State.fallen_fallen, Job.countWithdrawn_plan]
      have hsame : ((s.blanked j.id (r :: ws)).fallen room).roomFor j.plan.lanes =
        (s.blanked j.id (r :: ws)).roomFor j.plan.lanes := rfl
      rw [hsame]
      cases room with
      | false => rfl
      | true => rw [hless rfl]; rfl
    rw [State.withdrawRow_eq, hr.1, hblanked, hfall, State.withdrawal_stays h hr, State.withdrawal_cons]
  cases ws with
  | nil => exact hstep false (State.fallen_false _).symm (by simp)
  | cons w ws => exact hstep _ (congrArg (State.fallen · _) (State.blanked_cons s j.id r (w :: ws))) State.roomFor_cons

/-- The walk goes on past a row: it is of the RUNNING job `j` and can be walked (R47). -/
def Row.walksOn (j : Job) (p : Ply) (d : Nat) (lo hi : Pos) (y : Row) : Bool :=
  decide (j.id = y.job) && y.walkable p d lo hi

theorem State.withdrawal_running (h : s.running = some j) :
    ∃ j', (s.withdrawal j ws).running = some j' ∧ j'.id = j.id := by
  unfold State.withdrawal
  split
  · exact ⟨j, h, rfl⟩
  · refine ⟨j.countWithdrawn j.id (inFlightOfRows ws), ?_, Job.countWithdrawn_id _ _ _⟩
    exact (State.blanked_running s j.id ws).trans (by rw [h]; rfl)

theorem State.withdrawal_plies (s : State) (j : Job) (ws : List Row) : (s.withdrawal j ws).plies = s.plies := by
  unfold State.withdrawal
  split <;> rfl

theorem State.withdrawal_walksOn (h : s.running = some j) (p : Ply) (lo hi : Pos) (y : Row) :
    ((s.withdrawal j ws).ofRunning y && y.walkable p ((s.withdrawal j ws).plies.get p).d lo hi) =
      y.walksOn j p (s.plies.get p).d lo hi := by
  obtain ⟨j', hrun, hid⟩ := State.withdrawal_running (ws := ws) h
  rw [State.withdrawal_plies]
  unfold State.ofRunning Row.walksOn
  simp only [hrun, hid]

theorem walk_cons (p : Ply) (lo hi : Pos) (y : Row) (rows : List Row) (s : State) : walk p lo hi (y :: rows) s =
    if s.ofRunning y && y.walkable p (s.plies.get p).d lo hi then
      if y.numbered = 0 then walk p lo hi rows s else walk p lo hi rows (s.withdrawRow y)
    else s := rfl

/-- The walk stops at once at a row it does not go past. -/
theorem walk_stops (h : s.running = some j) {p : Ply} {lo hi : Pos} {rows : List Row}
    (hstop : ∀ y ∈ rows.head?, y.walksOn j p (s.plies.get p).d lo hi = false) :
    walk p lo hi rows (s.withdrawal j ws) = s.withdrawal j ws := by
  cases rows with
  | nil => rfl
  | cons y rows =>
    rw [walk_cons, State.withdrawal_walksOn h, hstop y rfl]
    rfl

/-- The walk over rows it goes past, given youngest first: those with a numbered lane are withdrawn (R47, R48). -/
theorem walk_withdraws (h : s.Walking j) {p : Ply} {lo hi : Pos} {older : List Row} (young : List Row)
    (hwalk : ∀ y ∈ young, y.walksOn j p (s.plies.get p).d lo hi = true)
    (hreturns : ∀ y ∈ young, 0 < y.numbered → s.Returns j y) (ws : List Row) :
    walk p lo hi (young ++ older) (s.withdrawal j ws) =
      walk p lo hi older (s.withdrawal j (young.reverse.filter (fun y => decide (0 < y.numbered)) ++ ws)) := by
  induction young generalizing ws with
  | nil => rfl
  | cons r young ih =>
    have hrest := ih (fun y hy => hwalk y (List.mem_cons_of_mem r hy)) (fun y hy => hreturns y (List.mem_cons_of_mem r hy))
    rw [List.cons_append, walk_cons, State.withdrawal_walksOn h.running, hwalk r List.mem_cons_self, if_pos rfl,
      List.reverse_cons, List.filter_append, List.append_assoc]
    by_cases hnone : r.numbered = 0
    · rw [if_pos hnone, hrest]
      simp [hnone]
    · have hpos : 0 < r.numbered := Nat.pos_of_ne_zero hnone
      rw [if_neg hnone, State.withdrawRow_withdrawal h (hreturns r List.mem_cons_self hpos), hrest]
      simp [hpos]

end

end Sys2Proof.Machine

namespace Sys2Proof.Machine

/-! ## What the withdrawal leaves, part by part -/

section
variable (s : State) (j : Job) (ws : List Row)

theorem anyRow_nil (k : Nat) : anyRow [] k = false := rfl

theorem Generator.takenBack_nil (g : Generator) : g.takenBack [] = g := by simp [Generator.takenBack]

theorem State.withdrawal_gen : (s.withdrawal j ws).gen = s.gen.takenBack ws := by
  cases ws with
  | nil => exact (Generator.takenBack_nil _).symm
  | cons r ws => rfl

theorem State.withdrawal_audit : (s.withdrawal j ws).audit = { s.audit with
    queue := s.audit.queue.map (MakeUpEntry.takenBack j.id ws)
    records := s.audit.records.map (fun z => if z.job = j.id ∧ z.state = .opened ∧ ws ≠ [] then
      { z with
        r := (s.withdrawal j ws).gen.r
        listCount := (s.withdrawal j ws).gen.listCount
        withdrawn := z.withdrawn + inFlightOfRows ws } else z) } := by
  rw [State.withdrawal_gen]
  cases ws with
  | nil =>
    have hqueue : s.audit.queue.map (MakeUpEntry.takenBack j.id []) = s.audit.queue :=
      map_id_of_forall fun e _ => by simp [MakeUpEntry.takenBack]
    simp [hqueue, State.withdrawal_nil]
  | cons r ws =>
    simp only [ne_eq, reduceCtorEq, not_false_eq_true, and_true]
    rfl

theorem State.withdrawal_requests : (s.withdrawal j ws).requests = s.requests.filter (fun q => !anyRow ws q.row) := by
  cases ws with
  | nil => simp [anyRow_nil, State.withdrawal_nil]
  | cons r ws => rfl

theorem State.withdrawal_trk : (s.withdrawal j ws).trk =
    { s.trk with schedule := s.trk.schedule.filter (fun w => keepsSend ws w.ev) } := by
  cases ws with
  | nil =>
    have hkeeps (ev : PosEvent) : keepsSend [] ev = true := by cases ev <;> rfl
    simp [hkeeps, State.withdrawal_nil]
  | cons r ws => rfl

theorem State.withdrawal_readers (q : Ply) : (s.withdrawal j ws).readers.get q = (s.readers.get q).without ws := by
  cases ws with
  | nil => simp [ReaderPly.without, anyRow_nil, State.withdrawal_nil]
  | cons r ws => exact PerPly.get_map _ _ _

theorem State.withdrawal_jobs : (s.withdrawal j ws).jobs = s.jobs.map (fun z => if z.id = j.id ∧ ws ≠ [] then
    { z with tallies := { z.tallies with withdrawn := satAdd z.tallies.withdrawn (inFlightOfRows ws) } } else z) := by
  cases ws with
  | nil => simp [State.withdrawal_nil]
  | cons r ws =>
    simp only [ne_eq, reduceCtorEq, not_false_eq_true, and_true]
    rfl

/-- The reserve condition ends where a row was withdrawn and a full row has room (R79). -/
theorem State.withdrawal_pipe : (s.withdrawal j ws).pipe = { s.pipe with
    rows := s.pipe.rows.map (Row.withdrawnIn ws)
    reserve := s.pipe.reserve && !decide (ws ≠ [] ∧ (s.blanked j.id ws).roomFor j.plan.lanes = true) } := by
  cases ws with
  | nil =>
    have hrows : s.pipe.rows.map (Row.withdrawnIn []) = s.pipe.rows := map_id_of_forall fun y _ => by
      simp [Row.withdrawnIn, anyRow_nil]
    simp [hrows, State.withdrawal_nil]
  | cons r ws =>
    simp only [ne_eq, reduceCtorEq, not_false_eq_true, true_and, Bool.decide_eq_true]
    rfl

theorem State.withdrawal_stop : (s.withdrawal j ws).stop = { s.stop with
    held := if s.pipe.reserve = true ∧ ws ≠ [] ∧ (s.blanked j.id ws).roomFor j.plan.lanes = true then
      StopSet.erase s.stop.held .voidReserve else s.stop.held } := by
  cases ws with
  | nil => simp [State.withdrawal_nil]
  | cons r ws =>
    simp only [ne_eq, reduceCtorEq, not_false_eq_true, true_and, ← Bool.and_eq_true]
    rfl

/-- The blocks a withdrawal does not touch. -/
theorem State.withdrawal_same : (s.withdrawal j ws).zones = s.zones ∧ (s.withdrawal j ws).shift = s.shift ∧
    (s.withdrawal j ws).drivers = s.drivers ∧ (s.withdrawal j ws).marks = s.marks ∧
    (s.withdrawal j ws).monitors = s.monitors := by
  cases ws with
  | nil => exact ⟨rfl, rfl, rfl, rfl, rfl⟩
  | cons r ws => exact ⟨rfl, rfl, rfl, rfl, rfl⟩

end

/-! ## Late splice reports (R49) -/

/-- The row's form of the ply is assigned within the span. -/
def Row.assignedIn (p : Ply) (lo hi : Pos) (r : Row) : Bool :=
  match r.assignedPos p with
  | some c => inSpan lo hi c
  | none => false

/-- The row after the late splice report (R49). -/
def Row.reported (p : Ply) (lo hi : Pos) (r : Row) : Row :=
  if r.assignedIn p lo hi = true ∧ r.stage = .opened then r.addCause .splice else r

theorem State.lateSplices_eq (s : State) (p : Ply) (lo hi : Pos) :
    s.lateSplices p lo hi = s.setPipe { s.pipe with rows := s.pipe.rows.map (Row.reported p lo hi) } := by
  refine congrArg (fun f : Row → Row => s.setPipe { s.pipe with rows := s.pipe.rows.map f }) (funext fun r => ?_)
  unfold Row.reported Row.assignedIn
  cases r.assignedPos p with
  | none => exact (if_neg (by simp)).symm
  | some c => rfl

theorem Row.unnumbered {r : Row} (h : r.numbered = 0) {l : LaneRec} (hl : l ∈ r.lanes) : l.number = none := by
  have hnil : r.lanes.filter LaneRec.isNumbered = [] := List.eq_nil_of_length_eq_zero h
  have hnot := List.filter_eq_nil_iff.1 hnil l hl
  simpa [LaneRec.isNumbered] using hnot

/-- A report names no lane of a row that has none numbered. -/
theorem Row.reported_unnumbered {r : Row} (h : r.numbered = 0) (p : Ply) (lo hi : Pos) : r.reported p lo hi = r := by
  have hsame : r.addCause .splice = r := by
    have hlanes : r.lanes.map (fun l => l.addCause .splice) = r.lanes := map_id_of_forall fun l hl => by
      simp [LaneRec.addCause, LaneRec.isNumbered, Row.unnumbered h hl]
    unfold Row.addCause
    rw [hlanes]
  unfold Row.reported
  rw [hsame, ite_self]

theorem Row.listNumbers_unnumbered {r : Row} (h : r.numbered = 0) : r.listNumbers = [] :=
  List.filterMap_eq_nil_iff.2 fun l hl => by simp [Row.unnumbered h hl]

theorem Row.makeUpNumbers_unnumbered {r : Row} (h : r.numbered = 0) : r.makeUpNumbers = [] :=
  List.filterMap_eq_nil_iff.2 fun l hl => by simp [Row.unnumbered h hl]

/-! ## The rows the walk took -/

/-- The rows of a list with a numbered lane. -/
def numberedRows (rows : List Row) : List Row := rows.filter (fun y => decide (0 < y.numbered))

/-- The row after the walk took it: blanked where it had a numbered lane (R48). -/
def Row.walkedOver (y : Row) : Row := if 0 < y.numbered then y.withdrawn else y

section
variable {older taken : List Row}

theorem flatMap_numberedRows {f : Row → List Nat} (hf : ∀ r : Row, r.numbered = 0 → f r = []) (rows : List Row) :
    (numberedRows rows).flatMap f = rows.flatMap f := by
  induction rows with
  | nil => rfl
  | cons r rows ih =>
    by_cases h : 0 < r.numbered
    · simpa [numberedRows, h] using ih
    · simpa [numberedRows, h, hf r (Nat.eq_zero_of_not_pos h)] using ih

theorem inFlightOfRows_numberedRows (rows : List Row) : inFlightOfRows (numberedRows rows) = inFlightOfRows rows := by
  induction rows with
  | nil => rfl
  | cons r rows ih =>
    by_cases h : 0 < r.numbered
    · simpa [numberedRows, h, inFlightOfRows_cons] using ih
    · simpa [numberedRows, Nat.eq_zero_of_not_pos h, inFlightOfRows_cons] using ih

theorem Row.walkedOver_numbered (y : Row) : y.walkedOver.numbered = 0 := by
  unfold Row.walkedOver
  split
  · exact y.withdrawn_numbered
  · omega

theorem withdrawnIn_older (hk : ((older ++ taken).map Row.k).Nodup) :
    older.map (Row.withdrawnIn (numberedRows taken)) = older := by
  refine map_id_of_forall fun y hy => if_neg ?_
  simp only [anyRow, List.any_eq_true, decide_eq_true_eq, not_exists, not_and]
  intro z hz hzk
  rw [List.map_append] at hk
  obtain ⟨-, -, hapart⟩ := List.nodup_append.1 hk
  exact hapart y.k (List.mem_map_of_mem hy) z.k (List.mem_map_of_mem (List.mem_of_mem_filter hz)) hzk.symm

theorem withdrawnIn_taken (hk : ((older ++ taken).map Row.k).Nodup) :
    taken.map (Row.withdrawnIn (numberedRows taken)) = taken.map Row.walkedOver := by
  have htaken : (taken.map Row.k).Nodup := (List.map_append ▸ hk).of_append_right
  refine List.map_congr_left fun y hy => ?_
  unfold Row.withdrawnIn Row.walkedOver
  refine if_congr ?_ rfl rfl
  simp only [anyRow, numberedRows, List.any_eq_true, List.mem_filter, decide_eq_true_eq]
  refine ⟨?_, fun hpos => ⟨y, ⟨hy, hpos⟩, rfl⟩⟩
  rintro ⟨z, ⟨hz, hpos⟩, hzk⟩
  exact List.inj_on_of_nodup_map htaken hz hy hzk ▸ hpos

theorem inFlightOfRows_walkedOver (rows : List Row) : inFlightOfRows (rows.map Row.walkedOver) = 0 := by
  induction rows with
  | nil => rfl
  | cons r rows ih => rw [List.map_cons, inFlightOfRows_cons, Row.walkedOver_numbered, ih]

end

end Sys2Proof.Machine

namespace Sys2Proof.Machine

/-! ## A splice in full (R44, R47 to R49) -/

/-- The walk goes past a row that is affected, unprinted, OPEN, with no order sent, and of the RUNNING job (R47). -/
theorem Row.walksOn_iff {j : Job} {p : Ply} {d : Nat} {lo hi : Pos} {y : Row} : y.walksOn j p d lo hi = true ↔
    y.job = j.id ∧ inSpan lo hi ((y.assignedPos p).getD (y.origin - BitVec.ofNat 40 d)) = true ∧
      y.printed = false ∧ y.stage = .opened ∧ ∀ z ∈ y.plies, z.order = .notDue ∨ z.order = .scheduled := by
  simp only [Row.walksOn, Row.walkable, Row.cuePos, posBack, Bool.and_eq_true, decide_eq_true_eq, Bool.not_eq_true',
    List.all_eq_true, Bool.or_eq_true, eq_comm (a := j.id), and_assoc]

/-- The numbers of a row's lanes of some sources, in lane order. -/
def Row.numbersOf (f : LaneSource → Bool) (y : Row) : List Nat :=
  y.lanes.filterMap (fun l => match l.number with
    | some n => if f n.source then some n.n else none
    | none => none)

theorem Row.numbersOf_list (y : Row) : y.numbersOf (fun z => decide (z = .list)) = y.listNumbers := by
  refine congrArg (fun f => y.lanes.filterMap f) (funext fun l => ?_)
  cases l.number with
  | none => rfl
  | some n => simp only [decide_eq_true_eq]

theorem Row.numbersOf_makeUp (y : Row) :
    y.numbersOf (fun z => match z with | .makeUp _ => true | _ => false) = y.makeUpNumbers := by
  refine congrArg (fun f => y.lanes.filterMap f) (funext fun l => ?_)
  cases l.number with
  | none => rfl
  | some n =>
    obtain ⟨number, str, checked, source⟩ := n
    cases source <;> rfl

section
variable {s : State} {j : Job} {p : Ply} {lo hi : Pos} {older taken : List Row}

/-- The rows once the walk over `taken` and the late reports are done. -/
theorem rows_walked (hk : ((older ++ taken).map Row.k).Nodup) :
    ((older ++ taken).map (Row.withdrawnIn (numberedRows taken))).map (Row.reported p lo hi) =
      older.map (Row.reported p lo hi) ++ taken.map Row.walkedOver := by
  rw [List.map_append, withdrawnIn_older hk, withdrawnIn_taken hk, List.map_append, List.map_map (l := taken)]
  refine congrArg (_ ++ ·) (List.map_congr_left fun y _ => ?_)
  exact Row.reported_unnumbered y.walkedOver_numbered p lo hi

/-- The lanes in flight once `taken` is withdrawn are those of the older rows. -/
theorem roomFor_walked (hk : ((older ++ taken).map Row.k).Nodup) (hrows : s.pipe.rows = older ++ taken) (id lanes : Nat) :
    (s.blanked id (numberedRows taken)).roomFor lanes = true ↔
      s.audit.voids.length + s.audit.inFlight.length + (older.map Row.numbered).sum + lanes ≤ 1024 := by
  have hflight : (s.blanked id (numberedRows taken)).inFlight = (older.map Row.numbered).sum := by
    show inFlightOfRows (s.pipe.rows.map _) = inFlightOfRows older
    rw [hrows, List.map_append, inFlightOfRows_append, withdrawnIn_older hk, withdrawnIn_taken hk,
      inFlightOfRows_walkedOver, Nat.add_zero]
  unfold State.roomFor
  rw [hflight, decide_eq_true_eq]
  rfl

/-- The pipeline once the walk over `taken` and the late reports are done (R48, R49, R79). -/
theorem State.walked_pipe (hk : ((older ++ taken).map Row.k).Nodup) (hrows : s.pipe.rows = older ++ taken) (j : Job) :
    ((s.withdrawal j (numberedRows taken)).lateSplices p lo hi).pipe = { s.pipe with
      rows := older.map (Row.reported p lo hi) ++ taken.map Row.walkedOver
      reserve := s.pipe.reserve && !decide (numberedRows taken ≠ [] ∧
        s.audit.voids.length + s.audit.inFlight.length + (older.map Row.numbered).sum + j.plan.lanes ≤ 1024) } := by
  have hroom : decide (numberedRows taken ≠ [] ∧ (s.blanked j.id (numberedRows taken)).roomFor j.plan.lanes = true) =
      decide (numberedRows taken ≠ [] ∧
        s.audit.voids.length + s.audit.inFlight.length + (older.map Row.numbered).sum + j.plan.lanes ≤ 1024) :=
    decide_eq_decide.2 (and_congr_right fun _ => roomFor_walked hk hrows j.id j.plan.lanes)
  rw [State.lateSplices_eq, State.setPipe_pipe, State.withdrawal_pipe, hroom]
  simp only [hrows, rows_walked hk]

/-- The walk and the late reports where the walk takes just the rows of `taken` (R47 to R49). -/
theorem State.walked_eq (h : s.Walking j) (hrows : s.pipe.rows = older ++ taken)
    (hstop : ∀ y ∈ older.getLast?, y.walksOn j p (s.plies.get p).d lo hi = false)
    (hwalk : ∀ y ∈ taken, y.walksOn j p (s.plies.get p).d lo hi = true)
    (hreturns : ∀ y ∈ taken, 0 < y.numbered → s.Returns j y) :
    s.walked p lo hi = (s.withdrawal j (numberedRows taken)).lateSplices p lo hi := by
  unfold State.walked
  rw [if_pos h.normal, hrows, List.reverse_append]
  have hwithdraws := walk_withdraws (older := older.reverse) h (lo := lo) (hi := hi) taken.reverse
    (fun y hy => hwalk y (List.mem_reverse.1 hy)) (fun y hy => hreturns y (List.mem_reverse.1 hy)) []
  rw [State.withdrawal_nil, List.reverse_reverse, List.append_nil] at hwithdraws
  rw [hwithdraws, walk_stops h.running (by rwa [List.head?_reverse])]
  rfl

end

/-- Settles O31. -/
theorem spliceWithdrawsTheYoungestRow : Obligations.SpliceWithdrawsTheYoungestRow := by
  intro s p ep j older taken x start hi lo d affected free numbersOf isMakeUp blanked drawn lists count ofRow room expiry
    placed hcond htravel hep hmask hahead hcons hjobs hrun hrows hk holder htaken hmakeUp
  have hlist : (numbersOf fun z => decide (z = .list)) = Row.listNumbers := funext Row.numbersOf_list
  have hmade : numbersOf isMakeUp = Row.makeUpNumbers := funext Row.numbersOf_makeUp
  have hnumbered (y : Row) (hy : y ∈ taken) (hpos : 0 < y.numbered) : y ∈ blanked :=
    List.mem_filter.2 ⟨hy, decide_eq_true hpos⟩
  let u := s.spliced p start hi expiry
  have hwalked : u.walked p lo hi = (u.withdrawal j blanked).lateSplices p lo hi :=
    State.walked_eq (s := u) ⟨hcond, hcons, hjobs, hrun⟩ hrows
      (fun y hy => Bool.eq_false_iff.2 fun hw => holder y hy (Row.walksOn_iff.1 hw))
      (fun y hy => Row.walksOn_iff.2 (htaken y hy))
      (fun y hy hpos => ⟨(htaken y hy).1, fun hdraw => hmade ▸ hmakeUp y (hnumbered y hy hpos) hdraw⟩)
  have hroom : (u.blanked j.id blanked).roomFor j.plan.lanes = true ↔ room := roomFor_walked (s := u) (hrows ▸ hk) hrows _ _
  have hlists : lists = blanked.flatMap Row.listNumbers :=
    (congrArg taken.flatMap hlist).trans (flatMap_numberedRows (fun _ => Row.listNumbers_unnumbered) taken).symm
  have hcount : count = inFlightOfRows blanked := (inFlightOfRows_numberedRows taken).symm
  have hmakeUps : taken.flatMap (numbersOf isMakeUp) = blanked.flatMap Row.makeUpNumbers :=
    (congrArg taken.flatMap hmade).trans (flatMap_numberedRows (fun _ => Row.makeUpNumbers_unnumbered) taken).symm
  have hgen : (u.withdrawal j blanked).gen = { s.gen with
      r := s.gen.r - drawn.length
      feed := lists ++ s.gen.feed
      listCount := s.gen.listCount - lists.length
      complete := s.gen.complete && decide (drawn = [])
      phase := if drawn ≠ [] ∧ s.gen.complete = true then .sequence else s.gen.phase } := by
    rw [State.withdrawal_gen, hlists]
    rfl
  obtain ⟨hzones, hshift, hdrivers, hmarks, hmonitors⟩ := u.withdrawal_same j blanked
  refine ⟨_, exec_splice_taken htravel hep hmask rfl rfl rfl rfl hahead, ?_⟩
  rw [show s.affectedFrom p start = lo from rfl, hwalked]
  refine ⟨?_, ?_, hgen, ?_, ?_, hzones, hshift, ?_, ?_, ?_, hdrivers, hmarks, hmonitors⟩
  · exact State.walked_pipe (s := u) (hrows ▸ hk) hrows j
  · refine (u.withdrawal_stop j blanked).trans (congrArg (fun held => { s.stop with held := held }) ?_)
    exact if_congr (and_congr_right fun _ => and_congr_right fun _ => hroom) rfl rfl
  · rw [hmakeUps, hcount]
    exact u.withdrawal_audit j blanked
  · exact u.withdrawal_requests j blanked
  · refine (u.withdrawal_trk j blanked).trans ?_
    refine congrArg (fun f => { s.trk with schedule := placed.2.filter f }) (funext fun w => ?_)
    cases w.ev <;> rfl
  · exact u.withdrawal_readers j blanked
  · rw [hcount]
    exact u.withdrawal_jobs j blanked

end Sys2Proof.Machine

namespace Sys2Proof.Machine

/-! ## What the walk keeps in every case (R43 to R49)

Whatever rows are held and whatever job runs, the walk may end a job and start another, yet it leaves the zones, their expiries and
the shift tallies alone, and a row stays held. -/

/-- The zone lists, the expiries scheduled, the shift tallies, and whether no row is held. -/
structure SpliceView where
  zones : PerPly (List Zone)
  expiries : Ply → List Scheduled
  shift : ShiftTallies
  noRows : Bool

/-- What the Splice Unit has placed, as a state holds it. -/
def State.spliceView (s : State) : SpliceView :=
  { zones := s.zones
    expiries := fun p => s.trk.schedule.filter (fun y => decide (y.ev = .zoneExpiry p))
    shift := s.shift
    noRows := s.pipe.rows.isEmpty }

section
variable (s : State)

theorem spliceView_of_core {s t : State} (h : t.core = s.core) : t.spliceView = s.spliceView :=
  core_field State.spliceView (fun _ => rfl) h

/-- A schedule filtered by what keeps every zone's expiry holds the same expiries. -/
theorem expiries_filter {f : PosEvent → Bool} {p : Ply} (hf : f (.zoneExpiry p) = true) (schedule : List Scheduled) :
    (schedule.filter (fun y => f y.ev)).filter (fun y => decide (y.ev = .zoneExpiry p)) =
      schedule.filter (fun y => decide (y.ev = .zoneExpiry p)) := by
  rw [List.filter_filter]
  refine List.filter_congr fun y _ => ?_
  by_cases hy : y.ev = .zoneExpiry p
  · simp [hy, hf]
  · simp [hy]

/-- Positions withdrawn that are no zone's expiry. -/
theorem spliceView_unschedule {f : PosEvent → Bool} (hf : ∀ p, f (.zoneExpiry p) = false) :
    (s.unschedule f).spliceView = s.spliceView :=
  congrArg (fun x => { s.spliceView with expiries := x })
    (funext fun p => expiries_filter (f := fun ev => !f ev) (by simp [hf p]) s.trk.schedule)

/-- Rows changed one by one. -/
theorem spliceView_mapRows (f : Row → Row) : (s.setRows (s.pipe.rows.map f)).spliceView = s.spliceView :=
  congrArg (fun x => { s.spliceView with noRows := x }) List.isEmpty_map

@[simp] theorem spliceView_raiseAt (q : Port) (c : Attention) : (s.raiseAt q c).spliceView = s.spliceView := by
  unfold State.raiseAt
  split
  · rfl
  · cases q <;> rfl

@[simp] theorem spliceView_clearReserve : s.clearReserve.spliceView = s.spliceView :=
  (spliceView_of_core (core_clearReserve s)).trans rfl

@[simp] theorem spliceView_reserveFall : s.reserveFall.spliceView = s.spliceView := by
  unfold State.reserveFall
  split
  · rfl
  · split
    · exact spliceView_clearReserve s
    · split
      · exact spliceView_clearReserve s
      · rfl

@[simp] theorem spliceView_emptyFeedOf (id : Nat) : (s.emptyFeedOf id).spliceView = s.spliceView := by
  unfold State.emptyFeedOf
  split
  · split <;> rfl
  · rfl

theorem spliceView_followOn (before : Plan) : (s.followOn before).spliceView = s.spliceView :=
  (spliceView_of_core (s.followOn_later before).rest).trans rfl

theorem spliceView_endJob (id : Nat) : (s.endJob id).spliceView = s.spliceView := by
  unfold State.endJob
  split
  · rfl
  · exact (spliceView_raiseAt _ _ _).trans rfl

variable {s}

theorem rows_of_spliceView {t : State} (h : t.spliceView = s.spliceView) (hrows : s.pipe.rows ≠ []) : t.pipe.rows ≠ [] := by
  have hsame : t.pipe.rows.isEmpty = s.pipe.rows.isEmpty := congrArg SpliceView.noRows h
  exact fun hnil => hrows (List.isEmpty_iff.1 (hsame.symm.trans (List.isEmpty_iff.2 hnil)))

/-- A job leaves RUNNING while a row is held: the Tracker stays out of FREE. -/
theorem spliceView_afterRunning (hrows : s.pipe.rows ≠ []) (before : Plan) :
    (s.afterRunning before).spliceView = s.spliceView := by
  have hfollow := spliceView_followOn s before
  unfold State.afterRunning
  dsimp only
  split
  · have hwindows : (s.followOn before).windowsOff.spliceView = s.spliceView :=
      (spliceView_unschedule _ fun _ => rfl).trans hfollow
    rw [State.testFree_of_rows (rows_of_spliceView hwindows hrows), hwindows]
  · exact hfollow

theorem spliceView_drainJob (hrows : s.pipe.rows ≠ []) (id : Nat) (why : EndReason) :
    (s.drainJob id why).spliceView = s.spliceView := by
  unfold State.drainJob
  split
  · rfl
  · rename_i j _
    split
    · have hback : ((s.handedBack id).updJob id (fun x => { x with state := .draining, drain := some why })).spliceView =
          s.spliceView := (spliceView_emptyFeedOf _ id).trans rfl
      have hleft := (spliceView_afterRunning (rows_of_spliceView hback hrows) j.plan).trans hback
      dsimp only
      split
      · exact hleft
      · exact (spliceView_endJob _ _).trans hleft
    · rfl

theorem spliceView_reportInFlight (hrows : s.pipe.rows ≠ []) (id : Nat) :
    (s.reportInFlight id).spliceView = s.spliceView := by
  unfold State.reportInFlight State.testDrain
  split
  · split
    · rfl
    · split
      · exact spliceView_drainJob hrows _ _
      · rfl
  · rfl

theorem spliceView_blanked (s : State) (id : Nat) (ws : List Row) : (s.blanked id ws).spliceView = s.spliceView :=
  congrArg₂ (fun x b => { s.spliceView with expiries := x, noRows := b })
    (funext fun _ => expiries_filter (f := keepsSend ws) rfl s.trk.schedule) List.isEmpty_map

theorem spliceView_withdrawRow (hrows : s.pipe.rows ≠ []) (r : Row) : (s.withdrawRow r).spliceView = s.spliceView := by
  rw [State.withdrawRow_eq]
  have hfall : (s.blanked r.job [r]).reserveFall.spliceView = s.spliceView :=
    (spliceView_reserveFall _).trans (spliceView_blanked _ _ _)
  exact (spliceView_reportInFlight (rows_of_spliceView hfall hrows) _).trans hfall

theorem spliceView_walk (p : Ply) (lo hi : Pos) (rows : List Row) (hrows : s.pipe.rows ≠ []) :
    (walk p lo hi rows s).spliceView = s.spliceView := by
  induction rows generalizing s with
  | nil => rfl
  | cons r rows ih =>
    rw [walk_cons]
    split
    · split
      · exact ih hrows
      · have hrow := spliceView_withdrawRow hrows r
        exact (ih (rows_of_spliceView hrow hrows)).trans hrow
    · rfl

theorem State.walked_of_no_row (hrows : s.pipe.rows = []) (p : Ply) (lo hi : Pos) : s.walked p lo hi = s := by
  unfold State.walked
  rw [hrows]
  split
  · rw [List.reverse_nil, walk, State.lateSplices_eq, hrows, List.map_nil, ← hrows]
    rfl
  · rfl

theorem State.walked_of_not_normal (hcond : s.audit.condition ≠ .normal) (p : Ply) (lo hi : Pos) : s.walked p lo hi = s :=
  if_neg hcond

/-- The walk and the late reports leave the zones, their expiries and the shift tallies as they were. -/
theorem spliceView_walked (s : State) (p : Ply) (lo hi : Pos) : (s.walked p lo hi).spliceView = s.spliceView := by
  by_cases hrows : s.pipe.rows = []
  · rw [State.walked_of_no_row hrows]
  · unfold State.walked
    split
    · exact (spliceView_mapRows _ _).trans (spliceView_walk p lo hi _ hrows)
    · rfl

end

end Sys2Proof.Machine

namespace Sys2Proof.Machine

/-! ## Splices disregarded, and zones that expire (R43, R45) -/

section
variable {s : State} {p : Ply}

theorem State.takeSplice_disregarded
    (h : s.trk.retravel = true ∨ s.trk.epoch = none ∨ ∃ e ∈ s.trk.epoch, inMask e.mask p = false) : s.takeSplice p = s := by
  unfold State.takeSplice
  split
  · rfl
  · rename_i htravel
    rcases h with hre | hfree | ⟨e, he, hmask⟩
    · exact absurd hre htravel
    · rw [hfree]
    · rw [Option.mem_def.1 he]
      simp [hmask]

theorem exec_zoneExpiry (p : Ply) (s : State) : exec (.zoneExpiry p) s = .next (s.fireExpiry p).startSending := rfl

theorem State.fireExpiry_none (h : s.trk.dueEntry (.zoneExpiry p) = none) : s.fireExpiry p = s := by
  unfold State.fireExpiry State.fire
  rw [h]

theorem State.fireExpiry_due {y : Scheduled} (h : s.trk.dueEntry (.zoneExpiry p) = some y) :
    s.fireExpiry p = (s.setZones (s.zones.set p ((s.zones.get p).filter (fun z => decide (z.expiry ≠ y.pos))))).setTrk
      { s.trk with schedule := s.trk.schedule.erase y } := by
  unfold State.fireExpiry State.fire
  rw [h]
  rfl

end

/-- Settles O30. -/
theorem splicePlacesAZoneAndExpiryDropsIt : Obligations.SplicePlacesAZoneAndExpiryDropsIt := by
  intro s p
  refine ⟨fun h => by rw [exec_spliceDetection, State.takeSplice_disregarded h], ?_,
    fun hdue => by rw [exec_zoneExpiry, State.fireExpiry_none hdue],
    fun y hdue => by rw [exec_zoneExpiry, State.fireExpiry_due hdue]⟩
  intro ep htravel hep hmask x lo hi expiry zs hahead ofZone shift placed
  have hexec := exec_splice_taken htravel hep hmask (x := x) (start := lo) (hi := hi) rfl rfl rfl rfl hahead
  have hview := spliceView_walked (s.spliced p lo hi expiry) p (s.affectedFrom p lo) hi
  have hplaced (zs' : List Zone) (kept : List Scheduled)
      (h : s.zonePlaced p lo hi expiry = (zs', kept ++ [⟨expiry, .zoneExpiry p⟩])) : placed zs' kept := by
    refine ⟨⟨_, hexec, ?_, congrArg SpliceView.shift hview, ?_⟩, fun hnone => ?_⟩
    · exact (congrArg SpliceView.zones hview).trans (congrArg (fun z : List Zone × List Scheduled => s.zones.set p z.1) h)
    · refine (congrFun (congrArg SpliceView.expiries hview) p).trans ?_
      show (s.zonePlaced p lo hi expiry).2.filter ofZone = _
      rw [h, List.filter_append]
      simp [ofZone]
    · have hsame : (s.spliced p lo hi expiry).walked p (s.affectedFrom p lo) hi = s.spliced p lo hi expiry := by
        rcases hnone with hcond | hrows
        · exact State.walked_of_not_normal (s := s.spliced p lo hi expiry) hcond _ _ _
        · exact State.walked_of_no_row (s := s.spliced p lo hi expiry) hrows _ _ _
      rw [hexec, hsame, State.spliced, h]
  refine ⟨fun hnil => hplaced _ _ (State.zonePlaced_empty (List.getLast?_eq_none_iff.2 hnil)), fun older n hzs => ?_⟩
  have hlast : (s.zones.get p).getLast? = some n := by
    rw [show s.zones.get p = older ++ [n] from hzs, List.getLast?_concat]
  have hinit : (s.zones.get p).dropLast = older := by
    rw [show s.zones.get p = older ++ [n] from hzs, List.dropLast_concat]
  have hcase := State.zonePlaced_last (lo := lo) (hi := hi) (expiry := expiry) hlast
  rw [hinit] at hcase
  split
  · rename_i hroom
    exact hplaced _ _ (hcase.trans (if_pos hroom))
  · rename_i hroom
    exact hplaced _ _ (hcase.trans (if_neg hroom))

end Sys2Proof.Machine

namespace Sys2Proof.Machine

/-! ## Set indices over rows and lanes (R55, R56, R61) -/

section
variable {plan : Plan} {r r' l l' i : Nat}

/-- What test 1 and test 2 of R52 give of a plan that passes, and test 3 where it has a sequence. -/
structure Plan.Passed (plan : Plan) : Prop where
  count : 0 < plan.count
  lanes : 0 < plan.lanes
  first : plan.first < 10 ^ plan.width
  last : plan.source = .sequence →
    0 ≤ plan.numberInt (plan.count - 1) ∧ plan.numberInt (plan.count - 1) < (10 ^ plan.width : Nat)

theorem Plan.passed_of_valid (h : plan.valid = true) : plan.Passed := by
  simp only [Plan.valid, Bool.and_eq_true, decide_eq_true_eq] at h
  obtain ⟨⟨⟨⟨⟨⟨⟨-, -⟩, ⟨hcount, -⟩⟩, ⟨hlanes, -⟩⟩, hfirst⟩, hlast⟩, -⟩, -⟩ := h
  exact ⟨hcount, hlanes, hfirst, fun hsource => by simpa [Plan.lastOk, hsource] using hlast⟩

theorem Plan.setIndex_interleaved (hmode : plan.mode = .interleaved) :
    plan.setIndex r l = some i ↔ r * plan.lanes + l = i ∧ i < plan.count := by
  simp only [Plan.setIndex, hmode, Option.ite_none_right_eq_some, Option.some.injEq]
  constructor <;> rintro ⟨h1, h2⟩ <;> omega

theorem Plan.setIndex_banked (hmode : plan.mode = .banked) :
    plan.setIndex r l = some i ↔ r < plan.bank ∧ l * plan.bank + r = i ∧ i < plan.count := by
  simp only [Plan.setIndex, hmode, Option.ite_none_right_eq_some, Option.some.injEq]
  constructor
  · rintro ⟨⟨hr, hlt⟩, rfl⟩
    exact ⟨hr, rfl, hlt⟩
  · rintro ⟨hr, rfl, hlt⟩
    exact ⟨⟨hr, hlt⟩, rfl⟩

theorem Plan.sequenceDone_interleaved (hmode : plan.mode = .interleaved) :
    plan.sequenceDone r = false ↔ r * plan.lanes < plan.count := by
  simp [Plan.sequenceDone, hmode]

theorem Plan.sequenceDone_banked (hmode : plan.mode = .banked) : plan.sequenceDone r = false ↔ r < plan.bank := by
  simp [Plan.sequenceDone, hmode]

/-- The banks of all lanes together hold the whole count. -/
theorem Plan.count_le_lanes_mul_bank (hlanes : 0 < plan.lanes) : plan.count ≤ plan.lanes * plan.bank := by
  have h : plan.count ≤ plan.lanes • (plan.count ⌈/⌉ plan.lanes) := le_smul_ceilDiv hlanes
  rwa [Nat.ceilDiv_eq_add_pred_div, smul_eq_mul] at h

/-- With m places to a row or a bank, an index fixes its row or bank and the place in it. -/
theorem mul_add_inj_of_lt {m q q' x x' : Nat} (hx : x < m) (hx' : x' < m) (h : q * m + x = q' * m + x') :
    q = q' ∧ x = x' := by
  have hplace := (Nat.div_mod_unique (Nat.zero_lt_of_lt hx)).2 ⟨by rw [Nat.mul_comm, Nat.add_comm, h], hx⟩
  have hplace' := (Nat.div_mod_unique (Nat.zero_lt_of_lt hx)).2
    ⟨show x' + m * q' = q' * m + x' by rw [Nat.mul_comm, Nat.add_comm], hx'⟩
  exact ⟨hplace.1.symm.trans hplace'.1, hplace.2.symm.trans hplace'.2⟩

/-- Where the set index i stands, as the lane mode lays the indices out: across the rows, or down the banks. -/
theorem Plan.setIndex_exists (h : plan.Passed) (hi : i < plan.count) :
    ∃ r l, l < plan.lanes ∧ plan.setIndex r l = some i := by
  cases hmode : plan.mode with
  | interleaved =>
    exact ⟨i / plan.lanes, i % plan.lanes, Nat.mod_lt _ h.lanes,
      (Plan.setIndex_interleaved hmode).2 ⟨Nat.div_add_mod' _ _, hi⟩⟩
  | banked =>
    have hall : i < plan.lanes * plan.bank := hi.trans_le (Plan.count_le_lanes_mul_bank h.lanes)
    have hbank : 0 < plan.bank := Nat.pos_of_mul_pos_left (Nat.zero_lt_of_lt hall)
    exact ⟨i % plan.bank, i / plan.bank, (Nat.div_lt_iff_lt_mul hbank).2 hall,
      (Plan.setIndex_banked hmode).2 ⟨Nat.mod_lt _ hbank, Nat.div_add_mod' _ _, hi⟩⟩

theorem Plan.setIndex_unique (hl : l < plan.lanes) (hl' : l' < plan.lanes) (h : plan.setIndex r l = some i)
    (h' : plan.setIndex r' l' = some i) : r' = r ∧ l' = l := by
  cases hmode : plan.mode with
  | interleaved =>
    obtain ⟨heq, -⟩ := (Plan.setIndex_interleaved hmode).1 h
    obtain ⟨heq', -⟩ := (Plan.setIndex_interleaved hmode).1 h'
    exact mul_add_inj_of_lt hl' hl (heq'.trans heq.symm)
  | banked =>
    obtain ⟨hr, heq, -⟩ := (Plan.setIndex_banked hmode).1 h
    obtain ⟨hr', heq', -⟩ := (Plan.setIndex_banked hmode).1 h'
    exact (mul_add_inj_of_lt hr' hr (heq'.trans heq.symm)).symm

/-- A lane is numbered only below the count, and in a row drawn before the draw is complete. -/
theorem Plan.setIndex_in_range (h : plan.setIndex r l = some i) : i < plan.count ∧ plan.sequenceDone r = false := by
  cases hmode : plan.mode with
  | interleaved =>
    obtain ⟨heq, hi⟩ := (Plan.setIndex_interleaved hmode).1 h
    exact ⟨hi, (Plan.sequenceDone_interleaved hmode).2 (by omega)⟩
  | banked =>
    obtain ⟨hr, -, hi⟩ := (Plan.setIndex_banked hmode).1 h
    exact ⟨hi, (Plan.sequenceDone_banked hmode).2 hr⟩

theorem Plan.setIndex_formula (h : plan.setIndex r l = some i) :
    i = (match plan.mode with
      | .interleaved => r * plan.lanes + l
      | .banked => l * ((plan.count + plan.lanes - 1) / plan.lanes) + r) := by
  cases hmode : plan.mode with
  | interleaved => exact ((Plan.setIndex_interleaved hmode).1 h).1.symm
  | banked => exact ((Plan.setIndex_banked hmode).1 h).2.1.symm

/-! ## Numbers of the set indices (R51, R52) -/

/-- F ± i·S lies between F and the last number. -/
theorem Plan.numberInt_between (hi : i < plan.count) :
    min (plan.first : Int) (plan.numberInt (plan.count - 1)) ≤ plan.numberInt i ∧
      plan.numberInt i ≤ max (plan.first : Int) (plan.numberInt (plan.count - 1)) := by
  have hpos : (0 : Int) ≤ (i : Int) * plan.step := by positivity
  have hle : (i : Int) * plan.step ≤ ((plan.count - 1 : Nat) : Int) * plan.step := by
    have : i ≤ plan.count - 1 := by omega
    gcongr
  unfold Plan.numberInt
  cases plan.direction <;> dsimp only <;> omega

theorem Plan.numberInt_in_width (h : plan.Passed) (hsource : plan.source = .sequence) (hi : i < plan.count) :
    0 ≤ plan.numberInt i ∧ plan.numberInt i < (10 ^ plan.width : Nat) := by
  obtain ⟨hlow, hhigh⟩ := Plan.numberInt_between hi
  obtain ⟨hzero, hlast⟩ := h.last hsource
  have hfirst : (plan.first : Int) < (10 ^ plan.width : Nat) := Int.ofNat_lt.2 h.first
  exact ⟨(le_min (Int.natCast_nonneg _) hzero).trans hlow, hhigh.trans_lt (max_lt hfirst hlast)⟩

end

/-- Settles O32. -/
theorem everySetIndexIsDrawnOnceAndInRange : Obligations.EverySetIndexIsDrawnOnceAndInRange := by
  intro plan hvalid
  have hpassed := Plan.passed_of_valid hvalid
  refine ⟨fun i hi => ?_, fun r l i h _ => Plan.setIndex_in_range h, fun hsource i hi => ?_⟩
  · obtain ⟨r, l, hl, hindex⟩ := Plan.setIndex_exists hpassed hi
    exact ⟨r, l, hl, (Plan.setIndex_in_range hindex).2, hindex, Plan.setIndex_formula hindex,
      fun r' l' hl' h' => Plan.setIndex_unique hl hl' hindex h'⟩
  · obtain ⟨hzero, hlt⟩ := Plan.numberInt_in_width hpassed hsource hi
    exact ⟨hzero, hlt, rfl⟩

end Sys2Proof.Machine

namespace Sys2Proof.Machine

/-! ## Printed strings (R57) -/

theorem digitAt_val (n j : Nat) : (digitAt n j).val = n / 10 ^ j % 10 := rfl

theorem toDigit_val {n : Nat} (h : n < 10) : (toDigit n).val = n := Nat.mod_eq_of_lt h

theorem digitsOf_length (w n : Nat) : (digitsOf w n).length = w := by
  induction w with
  | zero => rfl
  | succ w ih => rw [digitsOf, List.length_cons, ih]

/-- Read as a decimal numeral after `a`, the w digits of n give n modulo 10^w. -/
theorem digitsOf_foldl (w n a : Nat) :
    (digitsOf w n).foldl (fun a d => a * 10 + d.val) a = a * 10 ^ w + n % 10 ^ w := by
  induction w generalizing a with
  | zero => simp [digitsOf, Nat.mod_one]
  | succ w ih =>
    rw [digitsOf, List.foldl_cons, ih, digitAt_val, Nat.mod_pow_succ]
    ring

/-- A digit added at the left end of the number weighs 3 or 1 by the count of digits to its right. -/
theorem weightedSum_concat (three : Bool) (ds : List Digit) (d : Digit) :
    weightedSum three (ds ++ [d]) =
      weightedSum three ds + (if decide (ds.length % 2 = 0) = three then 3 else 1) * d.val := by
  induction ds generalizing three with
  | nil => cases three <;> simp [weightedSum]
  | cons x xs ih =>
    have hparity : decide ((x :: xs).length % 2 = 0) = !decide (xs.length % 2 = 0) := by
      rw [List.length_cons, ← decide_not, decide_eq_decide]
      omega
    rw [List.cons_append, weightedSum, weightedSum, ih, hparity, Nat.add_assoc]
    cases three <;> simp

theorem weightedSum_digitsOf (w n : Nat) :
    weightedSum true (digitsOf w n).reverse =
      ((List.range w).map (fun i => (if i % 2 = 0 then 3 else 1) * (n / 10 ^ i % 10))).sum := by
  induction w with
  | zero => rfl
  | succ w ih =>
    rw [digitsOf, List.reverse_cons, weightedSum_concat, ih, List.range_succ, List.map_append, List.sum_append,
      List.length_reverse, digitsOf_length, digitAt_val]
    simp

/-- The digit that MOD10W appends brings the sum to a multiple of 10. -/
theorem add_complement_mod_ten (x : Nat) : (x + (toDigit ((10 - x % 10) % 10)).val) % 10 = 0 := by
  rw [toDigit_val (Nat.mod_lt _ (by decide))]
  omega

/-- Settles O33. -/
theorem printedStringsAndCheckDigits : Obligations.PrintedStringsAndCheckDigits := by
  intro plan n hn
  have hread := digitsOf_foldl plan.width n 0
  rw [Nat.zero_mul, Nat.zero_add, Nat.mod_eq_of_lt hn] at hread
  refine ⟨digitsOf plan.width n, checkDigit plan.check plan.width n, rfl, digitsOf_length _ _, hread, ?_⟩
  cases plan.check with
  | none => rfl
  | mod7 => exact ⟨_, rfl, toDigit_val (by omega)⟩
  | mod10w =>
    refine ⟨_, rfl, ?_⟩
    rw [← weightedSum_digitsOf]
    exact add_complement_mod_ten _

end Sys2Proof.Machine

namespace Sys2Proof.Machine

/-! ## The void list and the lanes in flight (R79, R146) -/

theorem Course.keeps_room {s t : State} (h : Course s t) (hs : s.reserved ≤ 1024) : t.reserved ≤ 1024 :=
  h.2.trans (max_le hs le_rfl)

/-- A power-up keeps the void list and holds no row (R144, R146). -/
theorem State.powerUp_reserved (s : State) (st : Straps) : (s.powerUp st).reserved ≤ s.reserved :=
  Nat.add_le_add_left (Nat.zero_le _) _

/-- An encoder count's move of the Tracker takes no lane and appends no record: the rest of every command is a course. -/
theorem exec_keeps_room {i : Instr} {s t : State} (h : exec i s = .next t) (hs : s.reserved ≤ 1024) : t.reserved ≤ 1024 := by
  by_cases hi : Outside i
  · cases i with
    | powerUp st => exact ((Course.refl (s.powerUp st)).finished h).keeps_room ((s.powerUp_reserved st).trans hs)
    | forwardCount =>
      have hu : (s.caughtUp (fun _ => true)).reserved ≤ 1024 := (s.caughtUp_turn _).course.keeps_room hs
      exact (exec_forward s t h).keeps_room hu
    | reverseCount =>
      have hu : (s.caughtUp s.takenBeforeReverse).reserved ≤ 1024 := (s.caughtUp_turn _).course.keeps_room hs
      exact (exec_reverse s t h).keeps_room hu
    | _ => exact hi.elim
  · exact (exec_course i s t hi h).keeps_room hs

/-- Settles O38: a course leaves the count no higher than it was, or at most 1024. -/
theorem voidListAndLanesNeverExceed1024 : Obligations.VoidListAndLanesNeverExceed1024 :=
  keptByStep_of_exec (fun _ _ hs => hs) (fun _ _ _ => exec_keeps_room)

/-- Settles O60: every collection is empty at reset, and the families hold one value for every member. -/
theorem resetMeetsTheInvariants : Obligations.ResetMeetsTheInvariants := by
  refine ⟨Nat.zero_le _, fun _ => rfl, fun d => ?_, fun p => ?_, fun p => ?_, ?_, ?_, Nat.zero_le _, ?_, fun i => ?_, fun p => ?_⟩
  · rw [show State.reset.drivers.get d = powerUpDriver from PerDriver.get_all _ d]
    exact ⟨Nat.zero_le _, List.nodup_nil, Nat.zero_le _⟩
  · rw [show State.reset.zones.get p = [] from PerPly.get_all _ p]
    exact Nat.zero_le _
  · rw [show State.reset.marks.get p = powerUpMark from PerPly.get_all _ p]
    exact bound_zero _
  · exact ⟨Nat.zero_le _, List.nodup_nil, Nat.zero_le _⟩
  · exact ⟨Nat.zero_le _, List.nodup_nil⟩
  · exact ⟨rfl, rfl⟩
  · rw [show State.reset.monitors.get i = powerUpMonitor from PerMon.get_all _ i]
    exact Nat.zero_lt_succ _
  · cases p with
    | line => exact ⟨Nat.zero_le _, Nat.zero_le _, fun h => nomatch h⟩
    | panel => exact ⟨Nat.zero_le _, Nat.zero_le _, fun h => nomatch h⟩

end Sys2Proof.Machine

namespace Sys2Proof.Machine

/-! ## Driver replies (R82, R105, R106) -/

/-- The row has a numbered lane of the number. -/
def Row.hasLane (r : Row) (n : Nat) : Bool :=
  decide (1 ≤ n) && (match r.lanes[n - 1]? with | some l => l.isNumbered | none => false)

/-- The row with a FAULT of the lanes of some numbers (R82, R106, R163). -/
def Row.faulted (r : Row) (p : Ply) (lanes : List Nat) : Row :=
  { r with
    plies := r.plies.map (fun z => if z.ply = p then { z with order := .fault lanes } else z)
    lanes := r.lanes.mapIdx (fun i l =>
      if i + 1 ∈ lanes ∧ l.isNumbered then { l with causes := CauseSet.insert l.causes .headFault } else l)
    headFaults := r.headFaults + 1 }

/-- A FAULT is one of those named lanes that are numbered (R106). -/
theorem Row.fault_eq (r : Row) (p : Ply) (lanes : List Nat) : r.fault p lanes = r.faulted p (lanes.filter r.hasLane) := by
  have hrow : ∀ named : List Nat,
      { (r.updPly p (fun x => { x with order := .fault named })).addCauseAt .headFault named with
        headFaults := r.headFaults + 1 } = r.faulted p named := by
    intro named
    simp only [Row.faulted, Row.addCauseAt, Row.updPly, LaneRec.addCause, ite_and]
  have hnamed : lanes.filter (fun n => match r.lanes[n - 1]? with
      | some l => decide (1 ≤ n) && l.isNumbered
      | none => false) = lanes.filter r.hasLane := by
    refine List.filter_congr fun n _ => ?_
    unfold Row.hasLane
    cases r.lanes[n - 1]? <;> simp
  exact (hrow _).trans (congrArg _ hnamed)

/-- The lane numbers of an order, the first lane being number `n`, are those of the numbered lanes (R103). -/
theorem laneEntries_lane (o : Orientation) (ls : List LaneRec) (n : Nat) : (laneEntries o n ls).map LaneEntry.lane =
    (List.range' n ls.length).filter (fun i => match ls[i - n]? with | some l => l.isNumbered | none => false) := by
  induction ls generalizing n with
  | nil => rfl
  | cons l ls ih =>
    have hrest : (List.range' (n + 1) ls.length).filter
          (fun i => match (l :: ls)[i - n]? with | some l => l.isNumbered | none => false) =
        (List.range' (n + 1) ls.length).filter
          (fun i => match ls[i - (n + 1)]? with | some l => l.isNumbered | none => false) := by
      refine List.filter_congr fun i hi => ?_
      obtain ⟨hlow, -⟩ := List.mem_range'_1.1 hi
      rw [show i - n = (i - (n + 1)) + 1 by omega, List.getElem?_cons_succ]
    have hhead : (match (l :: ls)[n - n]? with | some l => l.isNumbered | none => false) = l.number.isSome := by simp [LaneRec.isNumbered]
    rw [List.length_cons, List.range'_succ, List.filter_cons, hrest, ← ih, hhead]
    cases hl : l.number <;> simp [laneEntries, hl]

theorem Row.orderLanes_eq (r : Row) : r.orderLanes = (List.range' 1 r.lanes.length).filter r.hasLane := by
  rw [Row.orderLanes, laneEntries_lane]
  refine List.filter_congr fun n hn => ?_
  obtain ⟨hlow, -⟩ := List.mem_range'_1.1 hn
  simp [Row.hasLane, hlow]

section
variable {s : State} {d : Driver} {m : LinkReply}

/-- No order of the reply's tag is for its ply and row (R105). -/
theorem DriverRec.matching_none {v : DriverRec}
    (h : ∀ o ∈ v.orders, o.tag = m.tag → o.ply.number ≠ m.ply ∨ o.row ≠ m.row) : v.matching m = none := by
  unfold DriverRec.matching
  split
  · rename_i o hfind
    have htag : o.tag = m.tag := by simpa using List.find?_some hfind
    rw [if_neg fun hm => (h o (List.mem_of_find?_eq_some hfind) htag).elim (absurd hm.1) (absurd hm.2)]
  · rfl

theorem DriverRec.matching_row {v : DriverRec} {o : Order} (h : v.matching m = some o) : o.row = m.row := by
  unfold DriverRec.matching at h
  split at h
  · split at h
    · cases h
      exact And.right ‹_›
    · cases h
  · cases h

/-- An order of the reply's tag, ply and row is the one matched: no two orders of a driver have one tag (R100, R105). -/
theorem DriverRec.matching_some {v : DriverRec} (hv : v.OrdersOk) {o : Order} (ho : o ∈ v.orders) (htag : o.tag = m.tag)
    (hply : o.ply.number = m.ply) (hrow : o.row = m.row) : v.matching m = some o := by
  have hfind : v.orders.find? (fun x => decide (x.tag = m.tag)) = some o := by
    cases hf : v.orders.find? (fun x => decide (x.tag = m.tag)) with
    | none => exact absurd htag (by simpa using List.find?_eq_none.1 hf o ho)
    | some x =>
      have hx : x.tag = m.tag := by simpa using List.find?_some hf
      rw [List.inj_on_of_nodup_map hv.2.1 (List.mem_of_find?_eq_some hf) ho (hx.trans htag.symm)]
  unfold DriverRec.matching
  rw [hfind]
  exact if_pos ⟨hply, hrow⟩

/-- The matched order off the list: the orders of any other tag stand (R100). -/
theorem DriverRec.erase_order {v : DriverRec} (hv : v.OrdersOk) {o : Order} (ho : o ∈ v.orders) :
    v.orders.erase o = v.orders.filter (fun x => decide (x.tag ≠ o.tag)) := by
  rw [hv.2.1.of_map.erase_eq_filter]
  refine List.filter_congr fun x hx => ?_
  have hiff : x = o ↔ x.tag = o.tag := ⟨congrArg _, List.inj_on_of_nodup_map hv.2.1 hx ho⟩
  by_cases hxo : x = o
  · simp [hxo]
  · simp [hxo, mt hiff.2 hxo]

/-- A reply that matches no order, or whose row is not OPEN, is counted stray and does nothing else (R82, R105). -/
theorem State.takeReply_stray (h : (∀ o ∈ (s.drivers.get d).orders, o.tag = m.tag → o.ply.number ≠ m.ply ∨ o.row ≠ m.row) ∨
      (∀ r, s.row m.row = some r → r.stage ≠ .opened)) (f : DriverRec → DriverRec) (g : Ply → Row → Row) :
    s.takeReply d m f g = s.strayReply d := by
  unfold State.takeReply
  split
  · rfl
  · rename_i o ho
    have hclosed : s.rowOpen o.row = false := by
      rcases h with h | h
      · rw [DriverRec.matching_none h] at ho
        cases ho
      · rw [DriverRec.matching_row ho]
        unfold State.rowOpen
        split
        · simpa using h _ ‹_›
        · rfl
    rw [hclosed]
    rfl

/-- A reply that matches an order of an OPEN row (R82, R105). -/
theorem State.takeReply_matched {o : Order} {r : Row} (hv : (s.drivers.get d).OrdersOk) (ho : o ∈ (s.drivers.get d).orders)
    (htag : o.tag = m.tag) (hply : o.ply.number = m.ply) (hrow : o.row = m.row) (hr : s.row m.row = some r)
    (hopen : r.stage = .opened) (f : DriverRec → DriverRec) (g : Ply → Row → Row) :
    s.takeReply d m f g =
      (s.setDrivers (s.drivers.set d (f { s.drivers.get d with
        orders := (s.drivers.get d).orders.filter (fun x => decide (x.tag ≠ m.tag)) }))).setPipe
        { s.pipe with rows := s.pipe.rows.map (fun x => if x.k = m.row ∧ x.stage = .opened then g o.ply x else x) } := by
  have hrowOpen : s.rowOpen m.row = true := by simp [State.rowOpen, hr, hopen]
  unfold State.takeReply
  rw [DriverRec.matching_some hv ho htag hply hrow]
  simp only [hrow, hrowOpen, if_true, State.updDriver, State.updOpenRow, State.updRow, State.setRows,
    DriverRec.erase_order hv ho, htag, ite_and, State.setDrivers_pipe]

end

/-- Settles O41: the reply is stray or matched, and each of the four kinds makes its own change of the driver and of the row. -/
theorem driverRepliesTakeTheirOrder : Obligations.DriverRepliesTakeTheirOrder := by
  intro s d m named v stray
  refine ⟨fun h => ?_, fun o r hv ho htag hply hrow hr hopen => ?_⟩
  · have hstray : ∀ f g, finish (s.takeReply d m f g) = stray := fun f g => by
      rw [State.takeReply_stray h]
      rfl
    exact ⟨hstray _ _, hstray _ _, hstray _ _, hstray _ _⟩
  · have hout := State.takeReply_matched hv ho htag hply hrow hr hopen
    refine ⟨congrArg finish (hout _ _), congrArg finish (hout _ _), ?_, ?_⟩
    · refine (congrArg finish (hout _ _)).trans ?_
      simp only [Row.fault_eq]
      rfl
    · refine (congrArg finish (hout _ _)).trans ?_
      simp only [Row.fault_eq, Row.orderLanes_eq, List.filter_filter, Bool.and_self]
      rfl

end Sys2Proof.Machine

namespace Sys2Proof.Machine

/-! ## A due position taken (R2) -/

theorem State.fire_none {s : State} {ev : PosEvent} (h : s.trk.dueEntry ev = none) (f : Pos → State → State) :
    s.fire ev f = s := by
  unfold State.fire
  rw [h]

theorem State.fire_due {s : State} {ev : PosEvent} {y : Scheduled} (h : s.trk.dueEntry ev = some y)
    (f : Pos → State → State) : s.fire ev f = f y.pos (s.withoutEntry y) := by
  unfold State.fire
  rw [h]
  rfl

theorem State.row_k {s : State} {k : Nat} {r : Row} (h : s.row k = some r) : r.k = k := by simpa using List.find?_some h

/-! ## The row judged at merge (R86) -/

theorem OrderState.atMerge_eq (o : OrderState) :
    o.atMerge = if o = .sent then .noReply else if o = .scheduled then .late false else o := by cases o <;> rfl

theorem PlyRec.atMerge_eq (z : PlyRec) : z.atMerge =
    { z with
      order := if z.order = .sent then .noReply else if z.order = .scheduled then .late false else z.order
      reads := z.reads.map (fun x => if x = .awaited then .noRead else x) } := by
  unfold PlyRec.atMerge
  rw [OrderState.atMerge_eq]
  rfl

/-- The whole-row causes of the merge, as a set of a list (R86 steps 1 to 3). -/
theorem Row.mergeCauses_eq (r : Row) : r.mergeCauses = CauseSet.ofList
    ((if r.plies.any (fun z => decide (z.assign = .none)) then [.plyMissing] else []) ++
     (if r.plies.any (fun z => decide (z.order = .sent)) then [.headNoReply] else []) ++
     (if r.plies.any (fun z => decide (z.order = .scheduled)) then [.headLate] else [])) := by
  unfold Row.mergeCauses
  split_ifs <;> rfl

theorem unreadOn_iff (plies : List PlyRec) (i : Nat) : unreadOn plies i = true ↔
    ∃ m ∈ Lane.all, m.index = i ∧ plies.any (fun z => decide (z.reads.get m = .noRead)) = true := by
  simp [unreadOn]

/-- A lane at merge: the whole-row causes, and NO_READ where it is unread, on a numbered lane alone (R74, R86). -/
theorem LaneRec.atMerge (l : LaneRec) (cs : CauseSet) (unread : Prop) [Decidable unread] :
    (if unread then (l.addCauses cs).addCause .noRead else l.addCauses cs) =
      if l.isNumbered then
        { l with causes := l.causes ||| cs ||| (if unread then CauseSet.ofList [.noRead] else 0) }
      else l := by
  unfold LaneRec.addCause
  rw [l.addCauses_numbered cs]
  unfold LaneRec.addCauses
  cases l.isNumbered with
  | false => simp
  | true =>
    by_cases hu : unread
    · simp only [hu, if_true]
      rfl
    · simp [hu]

theorem Row.judged_eq (r : Row) (policy : ReadPolicy) : r.judged policy =
    { r with
      stage := .merged
      plies := r.plies.map PlyRec.atMerge
      lanes := r.lanes.mapIdx (fun i l =>
        if l.isNumbered then
          { l with causes := l.causes ||| r.mergeCauses |||
              (if policy = .strict ∧ ∃ m ∈ Lane.all, m.index = i ∧
                  (r.plies.map PlyRec.atMerge).any (fun z => decide (z.reads.get m = .noRead)) = true
                then CauseSet.ofList [.noRead] else 0) }
        else l) } := by
  unfold Row.judged
  simp only [LaneRec.atMerge, unreadOn_iff]

/-! ## Orders unanswered (R107, R108) -/

/-- The driver once the merge of row k has found ply p's order unanswered; a driver with no such order stands (R107). -/
def DriverRec.lapsed (k : Nat) (v : DriverRec) (p : Ply) : DriverRec :=
  match v.orders.find? (fun o => decide (o.ply = p) && decide (o.row = k)) with
  | none => v
  | some o => v.unanswered o

theorem DriverRec.unanswered_eq (v : DriverRec) (o : Order) : v.unanswered o =
    if v.noReply + 1 < 3 then
      { v with
        orders := v.orders.erase o
        noReply := v.noReply + 1
        state := if v.state = .ready then .suspect else v.state
        counts := { v.counts with noReply := satAdd v.counts.noReply 1 } }
    else
      { v with
        orders := []
        noReply := 3
        state := .down
        counts := { v.counts with
          noReply := satAdd v.counts.noReply 1
          abandoned := satAdd v.counts.abandoned (v.orders.erase o).length } } := by
  unfold DriverRec.unanswered
  by_cases h : v.noReply + 1 < 3
  · have hmin : min (v.noReply + 1) 3 = v.noReply + 1 := by omega
    have hnot : ¬3 ≤ v.noReply + 1 := by omega
    simp [h, hmin, hnot]
  · have hmin : min (v.noReply + 1) 3 = 3 := by omega
    simp [h, hmin, DriverRec.abandon]

/-- A driver goes DOWN with no order left to it (R108). -/
theorem DriverRec.unanswered_down {v : DriverRec} {o : Order} (hv : v.state ≠ .down) (h : (v.unanswered o).state = .down) :
    (v.unanswered o).orders = [] := by
  rw [DriverRec.unanswered_eq] at h ⊢
  split at h
  · dsimp only at h
    split at h
    · cases h
    · exact absurd h hv
  · rename_i hthird
    rw [if_neg hthird]

/-- The drivers once ply p's order for row k has been found unanswered. -/
def lapsedDrivers (k : Nat) (x : PerDriver DriverRec) (p : Ply) : PerDriver DriverRec :=
  x.set p.driver ((x.get p.driver).lapsed k p)

theorem PerDriver.set_get {α : Type} (x : PerDriver α) (d : Driver) : x.set d (x.get d) = x := by cases d <;> rfl

theorem lapsedDrivers_get (k : Nat) (x : PerDriver DriverRec) (p : Ply) (d : Driver) :
    (lapsedDrivers k x p).get d = if p.driver = d then (x.get d).lapsed k p else x.get d := by
  unfold lapsedDrivers
  rw [PerDriver.get_set]
  by_cases hd : p.driver = d
  · subst hd; simp
  · simp [hd, Ne.symm hd]

/-- Each driver takes the plies it serves, in ply order. -/
theorem lapsedDrivers_foldl_get (k : Nat) (zs : List PlyRec) (x : PerDriver DriverRec) (d : Driver) :
    (zs.foldl (fun x z => lapsedDrivers k x z.ply) x).get d =
      (zs.filter (fun z => decide (z.ply.driver = d))).foldl (fun v z => v.lapsed k z.ply) (x.get d) := by
  induction zs generalizing x with
  | nil => rfl
  | cons z zs ih =>
    rw [List.foldl_cons, ih, lapsedDrivers_get, List.filter_cons]
    by_cases hd : z.ply.driver = d <;> simp [hd]

section
variable {s u : State} {k : Nat} {p : Ply} {d : Driver}

theorem State.orderUnanswered_none
    (h : (s.drivers.get p.driver).orders.find? (fun o => decide (o.ply = p) && decide (o.row = k)) = none) :
    s.orderUnanswered p k = s := by
  unfold State.orderUnanswered
  rw [h]

theorem State.orderUnanswered_some {o : Order}
    (h : (s.drivers.get p.driver).orders.find? (fun o => decide (o.ply = p) && decide (o.row = k)) = some o) :
    s.orderUnanswered p k =
      if ((s.drivers.get p.driver).unanswered o).state = .down then
        (s.setDrivers (s.drivers.set p.driver ((s.drivers.get p.driver).unanswered o))).startLevel (.driverDown p.driver)
      else s.setDrivers (s.drivers.set p.driver ((s.drivers.get p.driver).unanswered o)) := by
  unfold State.orderUnanswered
  rw [h]
  simp [State.updDriver]

theorem core_orderUnanswered (s : State) (k : Nat) (p : Ply) :
    (s.orderUnanswered p k).core = (s.setDrivers (lapsedDrivers k s.drivers p)).core := by
  unfold lapsedDrivers DriverRec.lapsed
  cases h : (s.drivers.get p.driver).orders.find? (fun o => decide (o.ply = p) && decide (o.row = k)) with
  | none =>
    rw [State.orderUnanswered_none h, PerDriver.set_get]
    rfl
  | some o =>
    rw [State.orderUnanswered_some h]
    split <;> simp

theorem drivers_orderUnanswered (s : State) (k : Nat) (p : Ply) :
    (s.orderUnanswered p k).drivers = lapsedDrivers k s.drivers p :=
  core_field State.drivers (fun _ => rfl) (core_orderUnanswered s k p)

/-- The SENT plies of row k found unanswered, in ply order: the drivers alone change but for the signals (R107). -/
theorem core_ordersUnanswered (k : Nat) (zs : List PlyRec) (s : State) :
    (zs.foldl (fun s z => s.orderUnanswered z.ply k) s).core =
      (s.setDrivers (zs.foldl (fun x z => lapsedDrivers k x z.ply) s.drivers)).core := by
  induction zs generalizing s with
  | nil => rfl
  | cons z zs ih =>
    rw [List.foldl_cons, List.foldl_cons, ih, drivers_orderUnanswered]
    exact congrArg (fun x => State.setDrivers x (zs.foldl (fun x z => lapsedDrivers k x z.ply) (lapsedDrivers k s.drivers z.ply)))
      (core_orderUnanswered s k z.ply)

/-- An unanswered order changes the signals only where its driver goes DOWN, or is, with it (R108). -/
theorem signals_orderUnanswered (s : State) (k : Nat) (p : Ply) :
    (s.orderUnanswered p k).signals = s.signals ∨
      ((s.drivers.get p.driver).lapsed k p).state = .down ∧
        (s.orderUnanswered p k).signals = s.signals.start (.driverDown p.driver) := by
  unfold DriverRec.lapsed
  cases h : (s.drivers.get p.driver).orders.find? (fun o => decide (o.ply = p) && decide (o.row = k)) with
  | none => exact .inl (by rw [State.orderUnanswered_none h])
  | some o =>
    rw [State.orderUnanswered_some h]
    split <;> rename_i hdown
    · exact .inr ⟨hdown, signals_startLevel _ _⟩
    · exact .inl rfl

/-- No cause but the DOWN condition of the ply's driver is latched or held by it. -/
theorem signals_orderUnanswered_other (s : State) (k : Nat) {p : Ply} {c : StopCause} (hc : c ≠ .driverDown p.driver) :
    (s.orderUnanswered p k).signals.latched c = s.signals.latched c ∧
      (s.orderUnanswered p k).signals.held c = s.signals.held c := by
  rcases signals_orderUnanswered s k p with h | ⟨-, h⟩
  · rw [h]; exact ⟨rfl, rfl⟩
  · rw [h]; simp [Signals.start, hc.symm]

/-- In `u`, compared with `s`, driver d's DOWN condition is latched and held where it is DOWN, and it has then no order (R108). -/
structure DownReported (s u : State) (d : Driver) : Prop where
  latched : u.signals.latched (.driverDown d) =
    (s.signals.latched (.driverDown d) || decide ((u.drivers.get d).state = .down))
  held : u.signals.held (.driverDown d) = (s.signals.held (.driverDown d) || decide ((u.drivers.get d).state = .down))
  idle : (u.drivers.get d).state = .down → (u.drivers.get d).orders = []

theorem DownReported.refl (h : (s.drivers.get d).state ≠ .down) : DownReported s s d :=
  ⟨by simp [h], by simp [h], fun hd => absurd hd h⟩

/-- Where the driver is as it was, and so is its DOWN condition. -/
theorem DownReported.same (h : DownReported s u d) {t : State} (hd : t.drivers.get d = u.drivers.get d)
    (hl : t.signals.latched (.driverDown d) = u.signals.latched (.driverDown d))
    (hh : t.signals.held (.driverDown d) = u.signals.held (.driverDown d)) : DownReported s t d :=
  ⟨by rw [hl, hd, h.latched], by rw [hh, hd, h.held], by rw [hd]; exact h.idle⟩

/-- An order of the driver lapses: it was not DOWN, and where it goes DOWN the start is reported (R108). -/
theorem DownReported.lapse (h : DownReported s u p.driver)
    (hcons : s.signals.held (.driverDown p.driver) = true → s.signals.latched (.driverDown p.driver) = true) {o : Order}
    (hfind : (u.drivers.get p.driver).orders.find? (fun o => decide (o.ply = p) && decide (o.row = k)) = some o) :
    DownReported s (u.orderUnanswered p k) p.driver := by
  have hup : (u.drivers.get p.driver).state ≠ .down := fun hdown => by
    rw [h.idle hdown] at hfind
    cases hfind
  have hdriver : (u.orderUnanswered p k).drivers.get p.driver = (u.drivers.get p.driver).unanswered o := by
    rw [drivers_orderUnanswered, lapsedDrivers_get, if_pos rfl, DriverRec.lapsed, hfind]
  have hlatched : u.signals.latched (.driverDown p.driver) = s.signals.latched (.driverDown p.driver) := by
    simp [h.latched, hup]
  have hheld : u.signals.held (.driverDown p.driver) = s.signals.held (.driverDown p.driver) := by simp [h.held, hup]
  by_cases hdown : ((u.drivers.get p.driver).unanswered o).state = .down
  · have hsignals : (u.orderUnanswered p k).signals = u.signals.start (.driverDown p.driver) := by
      rw [State.orderUnanswered_some hfind, if_pos hdown]
      exact signals_startLevel _ _
    refine ⟨?_, ?_, fun _ => ?_⟩
    · rw [hdriver, hsignals]
      cases hs : s.signals.held (.driverDown p.driver) <;> simp [Signals.start, hlatched, hheld, hdown, hs, hcons]
    · rw [hdriver, hsignals]
      simp [Signals.start, hdown]
    · rw [hdriver]
      exact DriverRec.unanswered_down hup hdown
  · have hsignals : (u.orderUnanswered p k).signals = u.signals := by
      rw [State.orderUnanswered_some hfind, if_neg hdown]
      rfl
    exact ⟨by rw [hsignals, hdriver, hlatched]; simp [hdown], by rw [hsignals, hdriver, hheld]; simp [hdown],
      fun hd => absurd (hdriver ▸ hd) hdown⟩

theorem DownReported.step (h : DownReported s u d)
    (hcons : s.signals.held (.driverDown d) = true → s.signals.latched (.driverDown d) = true) (p : Ply) (k : Nat) :
    DownReported s (u.orderUnanswered p k) d := by
  by_cases hd : p.driver = d
  · subst hd
    cases hfind : (u.drivers.get p.driver).orders.find? (fun o => decide (o.ply = p) && decide (o.row = k)) with
    | none => rwa [State.orderUnanswered_none hfind]
    | some o => exact h.lapse hcons hfind
  · have hother := signals_orderUnanswered_other u k (p := p) (c := .driverDown d) (by simp [Ne.symm hd])
    exact h.same (by rw [drivers_orderUnanswered, lapsedDrivers_get, if_neg hd]) hother.1 hother.2

/-- Every DOWN condition that the merge of a row starts is reported (R108). -/
theorem DownReported.foldl (h : DownReported s u d)
    (hcons : s.signals.held (.driverDown d) = true → s.signals.latched (.driverDown d) = true) (zs : List PlyRec) (k : Nat) :
    DownReported s (zs.foldl (fun s z => s.orderUnanswered z.ply k) u) d := by
  induction zs generalizing u with
  | nil => exact h
  | cons z zs ih => exact ih (h.step hcons z.ply k)

theorem signals_ordersUnanswered_other {c : StopCause} (hc : ∀ d, c ≠ .driverDown d) (zs : List PlyRec) (k : Nat) (s : State) :
    (zs.foldl (fun s z => s.orderUnanswered z.ply k) s).signals.latched c = s.signals.latched c ∧
      (zs.foldl (fun s z => s.orderUnanswered z.ply k) s).signals.held c = s.signals.held c := by
  induction zs generalizing s with
  | nil => exact ⟨rfl, rfl⟩
  | cons z zs ih =>
    obtain ⟨hl, hh⟩ := signals_orderUnanswered_other s k (p := z.ply) (hc _)
    exact ⟨(ih _).1.trans hl, (ih _).2.trans hh⟩

/-! ## The merge work of a row (R86) -/

/-- The schedule once the send positions of some plies of row k are withdrawn (R101). -/
def withoutSends (zs : List PlyRec) (k : Nat) (schedule : List Scheduled) : List Scheduled :=
  schedule.filter (fun w => !zs.any (fun z => decide (w.ev = .send z.ply k)))

/-- The pending requests of some plies of row k withdrawn, in full (R101). -/
theorem withdrawSend_foldl (zs : List PlyRec) (k : Nat) (s : State) :
    zs.foldl (fun s z => s.withdrawSend z.ply k) s =
      (s.setTrk { s.trk with schedule := withoutSends zs k s.trk.schedule }).setRequests
        (s.requests.filter (fun q => !(decide (q.row = k) && zs.any (fun z => decide (q.ply = z.ply))))) := by
  unfold withoutSends
  induction zs generalizing s with
  | nil => simp [State.setTrk, State.setRequests]
  | cons z zs ih =>
    rw [List.foldl_cons, ih]
    refine congrArg₂ (fun x y => (s.setTrk { s.trk with schedule := x }).setRequests y) ?_ ?_
    · refine (List.filter_filter ..).trans (List.filter_congr fun w _ => ?_)
      simp only [List.any_cons, Bool.not_or]
      exact Bool.and_comm _ _
    · refine (List.filter_filter ..).trans (List.filter_congr fun q _ => ?_)
      simp only [List.any_cons]
      cases decide (q.row = k) <;> simp [Bool.and_comm]

/-- The plies of a row whose order is SENT. -/
def Row.sentPlies (r : Row) : List PlyRec := r.plies.filter (fun z => decide (z.order = .sent))

/-- The plies of a row whose order is SCHEDULED. -/
def Row.scheduledPlies (r : Row) : List PlyRec := r.plies.filter (fun z => decide (z.order = .scheduled))

/-- What the merge work of row r does once the unanswered orders are reported: its sends withdrawn, the row judged and its
expectations ended (R86). -/
def State.mergeRest (s : State) (r : Row) : State :=
  (((s.setTrk { s.trk with schedule := withoutSends r.scheduledPlies r.k s.trk.schedule }).setRequests
    (s.requests.filter (fun q => !(decide (q.row = r.k) && r.scheduledPlies.any (fun z => decide (q.ply = z.ply)))))).updRow r.k
    (fun x => x.judged (s.policyOf r.job))).endExpectations r.k

theorem State.mergeWork_eq (s : State) (r : Row) :
    s.mergeWork r = (r.sentPlies.foldl (fun s z => s.orderUnanswered z.ply r.k) s).mergeRest r := by
  unfold State.mergeWork
  dsimp only
  rw [withdrawSend_foldl]
  rfl

/-- The merge work but for its signals: the drivers whose orders lapse, and the rest (R86). -/
def State.mergedRow (s : State) (r : Row) : State :=
  (s.setDrivers (r.sentPlies.foldl (fun x z => lapsedDrivers r.k x z.ply) s.drivers)).mergeRest r

theorem core_mergeWork (s : State) (r : Row) : (s.mergeWork r).core = (s.mergedRow r).core := by
  rw [State.mergeWork_eq]
  exact congrArg (fun x : State => x.mergeRest r) (core_ordersUnanswered r.k r.sentPlies s)

theorem signals_mergeWork (s : State) (r : Row) :
    (s.mergeWork r).signals = (r.sentPlies.foldl (fun s z => s.orderUnanswered z.ply r.k) s).signals := by
  rw [State.mergeWork_eq]
  rfl

theorem State.fireMerge_opened {y : Scheduled} {r : Row} (hdue : s.trk.dueEntry (.merge k) = some y) (hr : s.row k = some r)
    (hopen : r.stage = .opened) : s.fireMerge k = (s.withoutEntry y).mergeWork r := by
  have hrow : (s.withoutEntry y).row k = some r := hr
  unfold State.fireMerge
  rw [State.fire_due hdue, State.ensureMerged, hrow]
  exact if_pos hopen

/-- A row that is not OPEN, or not held, has no merge work to do (R85). -/
theorem State.ensureMerged_past (h : ∀ r, s.row k = some r → r.stage ≠ .opened) : s.ensureMerged k = s := by
  unfold State.ensureMerged
  cases hr : s.row k with
  | none => rfl
  | some r => exact if_neg (h r hr)

end

/-- Settles O34: the merge work as an equation of the core, and the DOWN conditions it reports. -/
theorem mergeJudgesTheRow : Obligations.MergeJudgesTheRow := by
  intro s k
  refine ⟨fun hdue => ?_, fun y hdue hpast => ?_, ?_⟩
  · exact congrArg finish (State.fire_none hdue _)
  · refine congrArg finish ((State.fire_due hdue _).trans ?_)
    exact State.ensureMerged_past hpast
  · intro y r hdue hr hopen policy lapse judgedPly causes
    obtain rfl := State.row_k hr
    have hjudged : PlyRec.atMerge = judgedPly := funext PlyRec.atMerge_eq
    have hlapse : (fun v z => v.lapsed r.k z.ply) = lapse := by
      funext v z
      unfold DriverRec.lapsed
      simp only [DriverRec.unanswered_eq]
      rfl
    have hcore : ((s.fireMerge r.k).startSending).core = ((s.withoutEntry y).mergedRow r).core := by
      rw [core_startSending, State.fireMerge_opened hdue hr hopen, core_mergeWork]
    have hsignals : ((s.fireMerge r.k).startSending).signals =
        (r.sentPlies.foldl (fun s z => s.orderUnanswered z.ply r.k) (s.withoutEntry y)).signals := by
      rw [signals_startSending, State.fireMerge_opened hdue hr hopen, signals_mergeWork]
    have hfield : ∀ {α : Type} (f : State → α), (∀ x : State, f x.core = f x) →
        f (s.fireMerge r.k).startSending = f ((s.withoutEntry y).mergedRow r) := fun f hf => core_field f hf hcore
    have hdrivers : ∀ d, (s.fireMerge r.k).startSending.drivers.get d =
        (r.plies.filter (fun z => decide (z.order = .sent) && decide (z.ply.driver = d))).foldl lapse (s.drivers.get d) := by
      intro d
      have hsent : r.sentPlies.filter (fun z => decide (z.ply.driver = d)) =
          r.plies.filter (fun z => decide (z.order = .sent) && decide (z.ply.driver = d)) := by
        simp only [Row.sentPlies, List.filter_filter, Bool.and_comm]
      rw [hfield State.drivers fun _ => rfl, ← hsent, ← hlapse]
      exact lapsedDrivers_foldl_get _ _ _ _
    refine ⟨_, rfl, ?_, ?_, ?_, fun q => ?_, hdrivers, fun hcons d hup => ?_, fun c hc => ?_,
      hfield State.jobs fun _ => rfl, hfield State.gen fun _ => rfl, hfield State.audit fun _ => rfl,
      hfield State.marks fun _ => rfl, hfield State.zones fun _ => rfl, hfield State.shift fun _ => rfl,
      hfield State.monitors fun _ => rfl⟩
    · refine (hfield (fun x => x.trk.schedule) fun _ => rfl).trans (List.filter_congr fun w _ => ?_)
      rw [Row.scheduledPlies, List.any_filter]
    · refine (hfield State.requests fun _ => rfl).trans (List.filter_congr fun q _ => ?_)
      rw [Row.scheduledPlies, List.any_filter]
    · refine (hfield State.pipe fun _ => rfl).trans (congrArg (fun x => { s.pipe with rows := x }) ?_)
      simp only [Row.judged_eq, Row.mergeCauses_eq, hjudged]
      rfl
    · rw [hfield State.readers fun _ => rfl]
      exact PerPly.get_map _ _ _
    · have hstart : DownReported s (s.withoutEntry y) d := (DownReported.refl hup).same rfl rfl rfl
      have hdown := hstart.foldl hcons.latched_of_held r.sentPlies r.k
      have hdriver : (s.fireMerge r.k).startSending.drivers.get d =
          (r.sentPlies.foldl (fun s z => s.orderUnanswered z.ply r.k) (s.withoutEntry y)).drivers.get d := by
        rw [hfield State.drivers fun _ => rfl, core_field State.drivers (fun _ => rfl) (core_ordersUnanswered _ _ _)]
        rfl
      rw [hdriver]
      exact ⟨(congrArg (fun g => Signals.latched g _) hsignals).trans hdown.latched,
        (congrArg (fun g => Signals.held g _) hsignals).trans hdown.held⟩
    · obtain ⟨hlatched, hheld⟩ := signals_ordersUnanswered_other hc r.sentPlies r.k (s.withoutEntry y)
      exact ⟨(congrArg (fun g => Signals.latched g _) hsignals).trans hlatched,
        (congrArg (fun g => Signals.held g _) hsignals).trans hheld⟩

end Sys2Proof.Machine

namespace Sys2Proof.Machine

/-! ## A kept position and the events of a row (R2, R85)

What is kept for one purpose stands while the events of other purposes are taken, so it may be taken before them or after. -/

/-- The kept positions of a purpose, and H. -/
def State.entries (s : State) (ev : PosEvent) : List Scheduled × Pos :=
  (s.trk.schedule.filter (fun y => decide (y.ev = ev)), s.trk.h)

theorem State.dueEntry_of_entries {s u : State} {ev : PosEvent} (h : u.entries ev = s.entries ev) :
    u.trk.dueEntry ev = s.trk.dueEntry ev := by
  have hdue : ∀ x : State, x.trk.dueEntry ev = (x.entries ev).1.find? (fun y => !isAhead y.pos (x.entries ev).2) := by
    intro x
    simp [State.entries, Tracker.dueEntry, Tracker.isDue, List.find?_filter]
  rw [hdue, hdue, h]

/-- A schedule filtered by what keeps every position of a purpose holds the same of them. -/
theorem filter_ev_of_keeps {f : Scheduled → Bool} {ev : PosEvent} (hf : ∀ y : Scheduled, y.ev = ev → f y = true)
    (schedule : List Scheduled) :
    (schedule.filter f).filter (fun y => decide (y.ev = ev)) = schedule.filter (fun y => decide (y.ev = ev)) := by
  rw [List.filter_filter]
  refine List.filter_congr fun y _ => ?_
  by_cases hy : y.ev = ev
  · simp [hy, hf y hy]
  · simp [hy]

theorem any_erase_of_false {α : Type} [DecidableEq α] {f : α → Bool} {x : α} (hx : f x = false) (l : List α) :
    (l.erase x).any f = l.any f := by
  rw [Bool.eq_iff_iff, List.any_eq_true, List.any_eq_true]
  refine exists_congr fun y => and_congr_left fun hy => List.mem_erase_of_ne ?_
  rintro rfl
  rw [hx] at hy
  cases hy

section
variable {s : State} {ev : PosEvent} {y : Scheduled} {f : Pos → State → State}

theorem entries_withoutEntry (hy : y.ev ≠ ev) : (s.withoutEntry y).entries ev = s.entries ev :=
  congrArg (·, s.trk.h) (filter_erase_of_false _ (by simp [hy]) _)

/-- An event of another purpose taken leaves what is kept for this one, where its owner does. -/
theorem entries_fire {other : PosEvent} (hne : other ≠ ev) (hf : ∀ pos u, (f pos u).entries ev = u.entries ev) :
    (s.fire other f).entries ev = s.entries ev := by
  cases hdue : s.trk.dueEntry other with
  | none => rw [State.fire_none hdue]
  | some z =>
    rw [State.fire_due hdue, hf]
    exact entries_withoutEntry (by rw [Tracker.dueEntry_ev hdue]; exact hne)

/-- An event taken after a position of another purpose, or before it (R2). -/
theorem State.fire_withoutEntry (hy : y.ev ≠ ev) (hf : ∀ pos u, f pos (u.withoutEntry y) = (f pos u).withoutEntry y) :
    (s.withoutEntry y).fire ev f = (s.fire ev f).withoutEntry y := by
  have hsame : (s.withoutEntry y).trk.dueEntry ev = s.trk.dueEntry ev := State.dueEntry_of_entries (entries_withoutEntry hy)
  cases hdue : s.trk.dueEntry ev with
  | none => rw [State.fire_none hdue, State.fire_none (hsame.trans hdue)]
  | some z =>
    rw [State.fire_due hdue, State.fire_due (hsame.trans hdue), ← hf]
    exact congrArg (fun x => f z.pos (s.setTrk { s.trk with schedule := x })) (List.erase_comm ..)

/-- The transmitters started before an event or after it, where its owner has no part in them. -/
theorem State.fire_startSending (hf : ∀ pos u, f pos (State.startSending u) = (f pos u).startSending) :
    s.startSending.fire ev f = (s.fire ev f).startSending := by
  cases hdue : s.trk.dueEntry ev with
  | none => rw [State.fire_none hdue, State.fire_none (s := s.startSending) hdue]
  | some z =>
    rw [State.fire_due hdue, State.fire_due (s := s.startSending) hdue, ← hf]
    rfl

end

/-! ### The merge work -/

section
variable {s : State} {y : Scheduled} {k : Nat} {r : Row}

theorem State.changeStop_setTrk (s : State) (x : Tracker) (f : StopUnit → StopUnit) :
    (s.setTrk x).changeStop f = (s.changeStop f).setTrk x := by
  have hraise : ∀ (u : State) (p : Port) (c : Attention), (u.setTrk x).raiseAt p c = (u.raiseAt p c).setTrk x := by
    intro u p c
    cases p with
    | line => rfl
    | panel =>
      unfold State.raiseAt
      have habs : (u.setTrk x).portAbsent .panel = u.portAbsent .panel := rfl
      rw [habs]
      split <;> rfl
  unfold State.changeStop
  have hstop : (s.setTrk x).stop = s.stop := rfl
  rw [hstop]
  split
  · unfold State.raiseBoth
    rw [← hraise, ← hraise]
    rfl
  · rfl

theorem State.orderUnanswered_setTrk (s : State) (x : Tracker) (p : Ply) (k : Nat) :
    (s.setTrk x).orderUnanswered p k = (s.orderUnanswered p k).setTrk x := by
  have hdrivers : (s.setTrk x).drivers = s.drivers := rfl
  cases hfind : (s.drivers.get p.driver).orders.find? (fun o => decide (o.ply = p) && decide (o.row = k)) with
  | none => rw [State.orderUnanswered_none hfind, State.orderUnanswered_none (s := s.setTrk x) hfind]
  | some o =>
    rw [State.orderUnanswered_some hfind, State.orderUnanswered_some (s := s.setTrk x) hfind, hdrivers]
    split
    · unfold State.startLevel
      have hset : (((s.setTrk x).setDrivers (s.drivers.set p.driver ((s.drivers.get p.driver).unanswered o)))) =
        (s.setDrivers (s.drivers.set p.driver ((s.drivers.get p.driver).unanswered o))).setTrk x := rfl
      rw [hset, State.changeStop_setTrk]
      have hstop : ((s.setDrivers (s.drivers.set p.driver ((s.drivers.get p.driver).unanswered o))).setTrk x).stop =
        (s.setDrivers (s.drivers.set p.driver ((s.drivers.get p.driver).unanswered o))).stop := rfl
      rw [hstop]
      split <;> rfl
    · rfl

theorem State.ordersUnanswered_setTrk (x : Tracker) (zs : List PlyRec) (k : Nat) (s : State) :
    zs.foldl (fun s z => s.orderUnanswered z.ply k) (s.setTrk x) =
      (zs.foldl (fun s z => s.orderUnanswered z.ply k) s).setTrk x := by
  induction zs generalizing s with
  | nil => rfl
  | cons z zs ih => rw [List.foldl_cons, List.foldl_cons, State.orderUnanswered_setTrk, ih]

theorem State.ordersUnanswered_trk (zs : List PlyRec) (k : Nat) (s : State) :
    (zs.foldl (fun s z => s.orderUnanswered z.ply k) s).trk = s.trk :=
  (core_field State.trk (fun _ => rfl) (core_ordersUnanswered k zs s)).trans rfl

/-- The merge work does not depend on a kept position that is no send (R86). -/
theorem State.mergeWork_withoutEntry (s : State) (y : Scheduled) (r : Row) :
    (s.withoutEntry y).mergeWork r = (s.mergeWork r).withoutEntry y := by
  rw [State.mergeWork_eq, State.mergeWork_eq, State.withoutEntry, State.ordersUnanswered_setTrk]
  have htrk := State.ordersUnanswered_trk r.sentPlies r.k s
  generalize r.sentPlies.foldl (fun s z => s.orderUnanswered z.ply r.k) s = u at htrk
  rw [← htrk]
  have hschedule : withoutSends r.scheduledPlies r.k (u.trk.schedule.erase y) =
      (withoutSends r.scheduledPlies r.k u.trk.schedule).erase y := (List.erase_filter ..).symm
  exact congrArg (fun x => (u.mergeRest r).setTrk { u.trk with schedule := x }) hschedule

theorem entries_mergeWork {ev : PosEvent} (hev : ∀ p, ev ≠ .send p r.k) : (s.mergeWork r).entries ev = s.entries ev := by
  refine (core_field (fun x => x.entries ev) (fun _ => rfl) (core_mergeWork s r)).trans ?_
  refine congrArg (·, s.trk.h) (filter_ev_of_keeps (fun w hw => ?_) s.trk.schedule)
  simp [hw, hev]

/-- The row of an index once every row of that index is changed by what keeps the index. -/
theorem State.row_updRow (h : s.row k = some r) {f : Row → Row} (hf : ∀ x, (f x).k = x.k) :
    (s.updRow k f).row k = some (f r) := by
  have hrow : s.pipe.rows.find? (fun x => decide (x.k = k)) = some r := h
  have hk : ∀ x : Row, (if x.k = k then f x else x).k = x.k := fun x => by
    split
    · exact hf x
    · rfl
  show (s.pipe.rows.map (fun x => if x.k = k then f x else x)).find? (fun x => decide (x.k = k)) = _
  rw [List.find?_map]
  simp only [Function.comp_def, hk, hrow, Option.map_some, if_pos (State.row_k h)]

theorem State.row_mergeWork (h : s.row r.k = some r) :
    (s.mergeWork r).row r.k = some (r.judged (s.policyOf r.job)) :=
  (core_field (fun x => x.row r.k) (fun _ => rfl) (core_mergeWork s r)).trans
    (State.row_updRow (s := s) h fun _ => rfl)

/-! ### The marker work -/

theorem State.firePulseEnd_withoutEntry {l : Lane} (hy : y.ev ≠ .pulseEnd l) (s : State) :
    (s.withoutEntry y).firePulseEnd l = (s.firePulseEnd l).withoutEntry y := by
  refine State.fire_withoutEntry hy fun _ u => ?_
  have hany : (u.withoutEntry y).trk.schedule.any (fun x => decide (x.ev = .pulseEnd l)) =
      u.trk.schedule.any (fun x => decide (x.ev = .pulseEnd l)) := any_erase_of_false (by simp [hy]) _
  rw [hany]
  split <;> rfl

theorem State.firePulseEnd_startSending (s : State) (l : Lane) :
    s.startSending.firePulseEnd l = (s.firePulseEnd l).startSending := by
  refine State.fire_startSending fun _ u => ?_
  have htrk : u.startSending.trk = u.trk := rfl
  rw [htrk]
  split <;> rfl

/-- The state with the output of lane l asserted and the end of its pulse kept (R87, R170). -/
def State.pulseBegun (s : State) (l : Lane) (c : Pos) : State :=
  (s.setPipe { s.pipe with markers := s.pipe.markers.set l true }).setTrk
    { s.trk with schedule := s.trk.schedule ++ [⟨posFwd c 64, .pulseEnd l⟩] }

theorem State.pulse_eq (s : State) (l : Lane) (c : Pos) : s.pulse l c = (s.pulseBegun l c).firePulseEnd l := rfl

theorem State.pulse_startSending (s : State) (l : Lane) (c : Pos) : s.startSending.pulse l c = (s.pulse l c).startSending :=
  State.firePulseEnd_startSending (s.pulseBegun l c) l

theorem State.pulse_withoutEntry {l : Lane} (hy : y.ev ≠ .pulseEnd l) (hmem : y ∈ s.trk.schedule) (c : Pos) :
    (s.withoutEntry y).pulse l c = (s.pulse l c).withoutEntry y := by
  have hbegun : (s.withoutEntry y).pulseBegun l c = (s.pulseBegun l c).withoutEntry y :=
    congrArg (fun x => (s.pulseBegun l c).setTrk { s.trk with schedule := x }) (List.erase_append_left _ hmem).symm
  rw [State.pulse_eq, State.pulse_eq, hbegun, State.firePulseEnd_withoutEntry hy]

theorem entries_pulse {ev : PosEvent} {l : Lane} (hev : .pulseEnd l ≠ ev) (s : State) (c : Pos) :
    (s.pulse l c).entries ev = s.entries ev := by
  have hbegun : (s.pulseBegun l c).entries ev = s.entries ev := by
    refine congrArg (·, s.trk.h) ?_
    show List.filter (fun y => decide (y.ev = ev)) (s.trk.schedule ++ [(⟨posFwd c 64, .pulseEnd l⟩ : Scheduled)]) = _
    rw [List.filter_append, List.filter_cons_of_neg (by simp [hev])]
    simp
  refine (entries_fire hev fun _ u => ?_).trans hbegun
  split <;> rfl

/-- The lanes of a row pulsed one after the other (R87). -/
def State.pulses (s : State) (r : Row) (ls : List Lane) : State :=
  ls.foldl (fun s l => s.pulse l (posFwd r.origin s.trk.v)) s

theorem State.markerWork_eq (s : State) (r : Row) : s.markerWork r = (s.updRow r.k Row.afterMarker).pulses r r.voidLanes := rfl

theorem State.pulses_startSending (r : Row) (ls : List Lane) (s : State) :
    s.startSending.pulses r ls = (s.pulses r ls).startSending := by
  induction ls generalizing s with
  | nil => rfl
  | cons l ls ih =>
    have hone : s.startSending.pulse l (posFwd r.origin s.startSending.trk.v) =
        (s.pulse l (posFwd r.origin s.trk.v)).startSending := State.pulse_startSending _ _ _
    unfold State.pulses at ih ⊢
    rw [List.foldl_cons, List.foldl_cons, hone, ih]

theorem entries_pulses {ev : PosEvent} (hev : ∀ l, .pulseEnd l ≠ ev) (r : Row) (ls : List Lane) (s : State) :
    (s.pulses r ls).entries ev = s.entries ev := by
  induction ls generalizing s with
  | nil => rfl
  | cons l ls ih => exact (ih _).trans (entries_pulse (hev l) s _)

/-- A kept position that is no pulse's end, among those of a state with the same entries of its purpose. -/
theorem mem_of_entries {u : State} (h : u.entries y.ev = s.entries y.ev) (hmem : y ∈ s.trk.schedule) : y ∈ u.trk.schedule := by
  have hsame : u.trk.schedule.filter (fun x => decide (x.ev = y.ev)) = s.trk.schedule.filter (fun x => decide (x.ev = y.ev)) :=
    congrArg Prod.fst h
  exact (List.mem_filter.1 (hsame ▸ List.mem_filter.2 ⟨hmem, by simp⟩)).1

theorem State.pulses_withoutEntry (hy : ∀ l, y.ev ≠ .pulseEnd l) (r : Row) (ls : List Lane) {s : State}
    (hmem : y ∈ s.trk.schedule) : (s.withoutEntry y).pulses r ls = (s.pulses r ls).withoutEntry y := by
  induction ls generalizing s with
  | nil => rfl
  | cons l ls ih =>
    have hone : (s.withoutEntry y).pulse l (posFwd r.origin (s.withoutEntry y).trk.v) =
        (s.pulse l (posFwd r.origin s.trk.v)).withoutEntry y := State.pulse_withoutEntry (hy l) hmem _
    have hmem' := mem_of_entries (entries_pulse (Ne.symm (hy l)) s (posFwd r.origin s.trk.v)) hmem
    unfold State.pulses at ih ⊢
    rw [List.foldl_cons, List.foldl_cons, hone, ih hmem']

theorem State.pulse_rows (s : State) (l : Lane) (c : Pos) : (s.pulse l c).pipe.rows = s.pipe.rows := by
  rw [State.pulse_eq, State.firePulseEnd]
  cases hdue : (s.pulseBegun l c).trk.dueEntry (.pulseEnd l) with
  | none =>
    rw [State.fire_none hdue]
    rfl
  | some z =>
    rw [State.fire_due hdue]
    split <;> rfl

theorem State.pulses_rows (r : Row) (ls : List Lane) (s : State) : (s.pulses r ls).pipe.rows = s.pipe.rows := by
  induction ls generalizing s with
  | nil => rfl
  | cons l ls ih => exact (ih _).trans (s.pulse_rows _ _)

theorem State.row_of_rows {s u : State} (h : u.pipe.rows = s.pipe.rows) (k : Nat) : u.row k = s.row k := by
  unfold State.row
  rw [h]

theorem State.row_markerWork (h : s.row r.k = some r) : (s.markerWork r).row r.k = some r.afterMarker :=
  (State.row_of_rows (State.pulses_rows r _ _) r.k).trans (State.row_updRow h fun _ => rfl)

theorem State.markerWork_startSending (s : State) (r : Row) : s.startSending.markerWork r = (s.markerWork r).startSending :=
  State.pulses_startSending r _ (s.updRow r.k Row.afterMarker)

theorem State.markerWork_withoutEntry (hy : ∀ l, y.ev ≠ .pulseEnd l) (hmem : y ∈ s.trk.schedule) (r : Row) :
    (s.withoutEntry y).markerWork r = (s.markerWork r).withoutEntry y :=
  State.pulses_withoutEntry hy r _ (s := s.updRow r.k Row.afterMarker) hmem

/-! ### The merge and marker work that a row still needs (R85) -/

theorem State.ensureMarked_opened (h : s.row r.k = some r) (hopen : r.stage = .opened) :
    s.ensureMarked r.k = (s.mergeWork r).markerWork (r.judged (s.policyOf r.job)) := by
  have hmerged : s.ensureMerged r.k = s.mergeWork r := by
    unfold State.ensureMerged
    rw [h]
    exact if_pos hopen
  unfold State.ensureMarked
  dsimp only
  rw [hmerged, State.row_mergeWork h]
  exact if_pos rfl

theorem State.ensureMarked_merged (h : s.row k = some r) (hmerged : r.stage = .merged) :
    s.ensureMarked k = s.markerWork r := by
  have hpast : s.ensureMerged k = s := State.ensureMerged_past fun x hx => by
    rw [h] at hx
    cases hx
    rw [hmerged]
    simp
  unfold State.ensureMarked
  dsimp only
  rw [hpast, h]
  exact if_pos hmerged

theorem State.ensureMarked_past (h : s.row k = some r) (hmarked : r.stage = .marked) : s.ensureMarked k = s := by
  have hpast : s.ensureMerged k = s := State.ensureMerged_past fun x hx => by
    rw [h] at hx
    cases hx
    rw [hmarked]
    simp
  unfold State.ensureMarked
  dsimp only
  rw [hpast, h]
  exact if_neg (by rw [hmarked]; simp)

theorem State.fireMarker_due (h : s.trk.dueEntry (.marker k) = some y) : s.fireMarker k = (s.withoutEntry y).ensureMarked k :=
  State.fire_due h _

/-- A position put before the others at H is due, and taken first. -/
theorem State.dueEntry_at_h (s : State) (ev : PosEvent) :
    (s.setTrk { s.trk with schedule := ⟨s.trk.h, ev⟩ :: s.trk.schedule }).trk.dueEntry ev = some ⟨s.trk.h, ev⟩ := by
  refine List.find?_cons_of_pos ?_
  simp [Tracker.isDue, isAhead, posDiff]

theorem State.withoutEntry_at_h (s : State) (ev : PosEvent) :
    (s.setTrk { s.trk with schedule := ⟨s.trk.h, ev⟩ :: s.trk.schedule }).withoutEntry ⟨s.trk.h, ev⟩ = s :=
  congrArg (fun x => s.setTrk { s.trk with schedule := x }) (List.erase_cons_head ..)

theorem PortState.started_started (x : PortState) : x.started.started = x.started := by
  unfold PortState.started
  cases hs : x.sending with
  | some _ => simp [hs]
  | none =>
    by_cases hr : x.replies = []
    · cases hu : x.unsent <;> simp [hs, hr, hu]
    · simp [hr]

theorem State.startSending_startSending (s : State) : s.startSending.startSending = s.startSending := by
  show ((s.setLine s.line.started.started).setPanel s.panel.started.started) = _
  rw [PortState.started_started, PortState.started_started]
  rfl

/-! ### Pulses none of which ends at once (R87, R170) -/

theorem State.pulse_ahead {l : Lane} {c : Pos} (hnone : s.trk.dueEntry (.pulseEnd l) = none)
    (hahead : isAhead (posFwd c 64) s.trk.h = true) : s.pulse l c = s.pulseBegun l c := by
  rw [State.pulse_eq]
  refine State.fire_of_ahead (fun y hy hev => ?_) _
  rcases List.mem_append.1 hy with hy | hy
  · exact Tracker.dueEntry_none_iff.1 hnone y hy hev
  · rw [List.mem_singleton.1 hy]
    exact hahead

theorem State.pulses_ahead {r : Row} (ls : List Lane) {s : State} (hnone : ∀ l, s.trk.dueEntry (.pulseEnd l) = none)
    (hahead : isAhead (posFwd (posFwd r.origin s.trk.v) 64) s.trk.h = true) :
    s.pulses r ls = (s.setPipe { s.pipe with markers := ls.foldl (fun m l => m.set l true) s.pipe.markers }).setTrk
      { s.trk with schedule := s.trk.schedule ++ ls.map (fun l => ⟨posFwd (posFwd r.origin s.trk.v) 64, .pulseEnd l⟩) } := by
  induction ls generalizing s with
  | nil =>
    rw [List.map_nil, List.append_nil]
    rfl
  | cons l ls ih =>
    have hstill : ∀ m, (s.pulseBegun l (posFwd r.origin s.trk.v)).trk.dueEntry (.pulseEnd m) = none := by
      intro m
      refine Tracker.dueEntry_none_iff.2 fun y hy hev => ?_
      rcases List.mem_append.1 hy with hy | hy
      · exact Tracker.dueEntry_none_iff.1 (hnone m) y hy hev
      · rw [List.mem_singleton.1 hy]
        exact hahead
    have hone := State.pulse_ahead (hnone l) hahead
    have hrest := ih hstill hahead
    unfold State.pulses at hrest ⊢
    rw [List.foldl_cons, hone, hrest]
    exact congrArg (fun x => (s.setPipe
      { s.pipe with markers := (l :: ls).foldl (fun m l => m.set l true) s.pipe.markers }).setTrk { s.trk with schedule := x })
      (List.append_assoc ..)

theorem markers_foldl (m : PerLane Bool) (f : Lane → Bool) : (Lane.all.filter f).foldl (fun m l => m.set l true) m =
    ⟨m.l1 || f .l1, m.l2 || f .l2, m.l3 || f .l3, m.l4 || f .l4⟩ := by
  unfold Lane.all
  cases h1 : f .l1 <;> cases h2 : f .l2 <;> cases h3 : f .l3 <;> cases h4 : f .l4 <;> simp [h1, h2, h3, h4, PerLane.set]

theorem State.firePulseEnd_due {l : Lane} (h : s.trk.dueEntry (.pulseEnd l) = some y) :
    s.firePulseEnd l = (s.withoutEntry y).setPipe (if ∃ x ∈ s.trk.schedule.erase y, x.ev = .pulseEnd l then s.pipe
      else { s.pipe with markers := s.pipe.markers.set l false }) := by
  have hlater : (∃ x ∈ s.trk.schedule.erase y, x.ev = .pulseEnd l) ↔
      (s.trk.schedule.erase y).any (fun x => decide (x.ev = .pulseEnd l)) = true := by simp
  rw [if_congr hlater rfl rfl]
  refine (State.fire_due h _).trans ?_
  show (if (s.trk.schedule.erase y).any _ = true then _ else _) = _
  split <;> rfl

end

/-- Settles O35: the marker work in closed form; and the merge work leaves the marker position and what it makes of the row as a
merge of its own would. -/
theorem markerPulsesVoidLanes : Obligations.MarkerPulsesVoidLanes := by
  refine ⟨?_, fun s k y r w hdue hr hopen hw => ?_, fun s k h => congrArg finish (State.fire_none h _),
    fun s l h => congrArg finish (State.fire_none h _), fun s l y h => congrArg finish (State.firePulseEnd_due h)⟩
  · intro s k y r hdue hr hmerged hnone stop pulsed hahead ends
    obtain rfl := State.row_k hr
    have hnone' : ∀ l, ((s.withoutEntry y).updRow r.k Row.afterMarker).trk.dueEntry (.pulseEnd l) = none := fun l =>
      Tracker.dueEntry_none_iff.2 fun z hz => Tracker.dueEntry_none_iff.1 (hnone l) z (List.mem_of_mem_erase hz)
    have hvoid : r.voidLanes = Lane.all.filter pulsed := rfl
    refine congrArg finish ?_
    rw [State.fireMarker_due hdue, State.ensureMarked_merged (s := s.withoutEntry y) hr hmerged, State.markerWork_eq,
      State.pulses_ahead _ hnone' hahead, hvoid, markers_foldl]
    rfl
  · obtain rfl := State.row_k hr
    have hwork : w = (s.mergeWork r).startSending := by
      have hmerge := State.fireMerge_opened (s.dueEntry_at_h (.merge r.k)) hr hopen
      rw [State.withoutEntry_at_h] at hmerge
      exact (Host.Outcome.next.inj hw).symm.trans (congrArg State.startSending hmerge)
    have hdue' : w.trk.dueEntry (.marker r.k) = some y := by
      rw [hwork, ← hdue]
      exact State.dueEntry_of_entries (entries_mergeWork (s := s) fun _ => by simp)
    have hrow : (w.withoutEntry y).row r.k = some (r.judged (s.policyOf r.job)) := by
      rw [hwork]
      exact State.row_mergeWork hr
    show finish (s.fireMarker r.k) = finish (w.fireMarker r.k)
    rw [State.fireMarker_due hdue, State.fireMarker_due hdue', State.ensureMarked_opened (s := s.withoutEntry y) hr hopen,
      State.ensureMarked_merged (r := r.judged (s.policyOf r.job)) hrow rfl, State.mergeWork_withoutEntry, hwork]
    show finish _ = finish (((s.mergeWork r).withoutEntry y).startSending.markerWork _)
    rw [State.markerWork_startSending, finish, finish, State.startSending_startSending]
    rfl

end Sys2Proof.Machine

namespace Sys2Proof.Machine

/-! ## The lanes of a row disposed of (R88, R89, R146, R151) -/

/-- The make-up queue once a lane of the row, given with its number, has taken its make-up step (R89, R151). -/
def Row.queueStep (r : Row) (strict : Bool) (q : List MakeUpEntry) (x : LaneRec × Nat) : List MakeUpEntry :=
  match x.1.number with
  | some n => if strict then makeUpQueue q r.job x.2 n (decide (x.1.causes ≠ 0)) else q
  | none => q

/-- The sequence that follows one of a void record (R146). -/
def sequenceAfter (n : Nat) : Nat := if n = 4294967295 then 1 else n + 1

/-- The record of a void lane of the row, given with its number (R145, R151). -/
def Row.voidRecord (r : Row) (owner : Port) (strict : Bool) (h : Pos) (sequence : Nat) (q : List MakeUpEntry)
    (x : LaneRec × Nat) (n : LaneNumber) : VoidRecord :=
  { sequence := sequence, job := r.job, owner := owner, row := r.k, laneNo := x.2, lane := n, causes := x.1.causes,
    unmarked := !x.1.marked, notQueued := strict && stepNotQueued q r.job n, exhausted := strict && stepExhausted n,
    retire := h }

/-- The records of the void lanes of the row, the first lane being number `no`, from a sequence and a make-up queue on. -/
def Row.voidRecords (r : Row) (owner : Port) (strict : Bool) (h : Pos) :
    Nat → List MakeUpEntry → Nat → List LaneRec → List VoidRecord
  | _, _, _, [] => []
  | sequence, q, no, l :: ls =>
    match l.number with
    | none => r.voidRecords owner strict h sequence q (no + 1) ls
    | some n =>
      if l.causes = 0 then r.voidRecords owner strict h sequence (r.queueStep strict q (l, no)) (no + 1) ls
      else r.voidRecord owner strict h sequence q (l, no) n ::
        r.voidRecords owner strict h (sequenceAfter sequence) (r.queueStep strict q (l, no)) (no + 1) ls

theorem AuditStore.nextSequence_append {a : AuditStore} {vs : List VoidRecord} {v : VoidRecord} (h : a.inFlight = vs ++ [v]) :
    a.nextSequence = sequenceAfter v.sequence := by
  simp [AuditStore.nextSequence, AuditStore.newest, h, sequenceAfter]

theorem AuditStore.nextSequence_congr {a b : AuditStore} (hi : b.inFlight = a.inFlight) (hv : b.voids = a.voids) :
    b.nextSequence = a.nextSequence := by
  unfold AuditStore.nextSequence AuditStore.newest
  rw [hi, hv]

theorem countUp_add (m n x : Nat) : countUp (m + n) x = countUp n (countUp m x) := by
  unfold countUp
  rw [Nat.add_comm, Function.iterate_add_apply]

theorem Signals.raise_raise (g : Signals) (absent : Port → Bool) (c : Attention) :
    (g.raise absent c).raise absent c = g.raise absent c := by
  unfold Signals.raise
  simp

/-- In `t` lanes of the row have been disposed of from `s`: so many good, void and blank ones counted, and the void ones appended in
flight, with the make-up queue that their steps leave. Nothing else changes but the signals (R88, R89, R153, R160). -/
structure Disposed (s t : State) (r : Row) (good void blank : Nat) (recs : List VoidRecord) (queue : List MakeUpEntry) :
    Prop where
  jobs : t.jobs = s.jobs.map (fun z => if z.id = r.job then { z with tallies := { z.tallies with
    good := countUp good z.tallies.good
    void := countUp void z.tallies.void
    blank := countUp blank z.tallies.blank } } else z)
  shift : t.shift = { s.shift with
    good := countUp good s.shift.good
    void := countUp void s.shift.void
    blank := countUp blank s.shift.blank }
  audit : t.audit = { s.audit with
    inFlight := s.audit.inFlight ++ recs
    queue := queue
    records := s.audit.records.map (fun z => if z.job = r.job ∧ z.state = .opened then
      { z with good := z.good + good, void := z.void + void } else z)
    resetNotQueued := t.audit.resetNotQueued }
  rest : t.core = (((s.setJobs t.jobs).setAudit t.audit).setShift t.shift).core
  stop : t.stop = s.stop
  signals : t.signals = if recs.any VoidRecord.notQueued then s.signals.raise s.portAbsent .makeUp else s.signals

section
variable {s t u : State} {r : Row}

theorem Disposed.field {good void blank : Nat} {recs : List VoidRecord} {queue : List MakeUpEntry}
    (h : Disposed s t r good void blank recs queue) {α : Type} (f : State → α) (hf : ∀ x : State, f x.core = f x) :
    f t = f (((s.setJobs t.jobs).setAudit t.audit).setShift t.shift) := core_field f hf h.rest

theorem Disposed.refl (s : State) (r : Row) : Disposed s s r 0 0 0 [] s.audit.queue where
  jobs := by simp [countUp]
  shift := rfl
  audit := by simp
  rest := rfl
  stop := rfl
  signals := rfl

theorem Disposed.trans {good void blank good' void' blank' : Nat} {recs recs' : List VoidRecord} {q q' : List MakeUpEntry}
    (h : Disposed s t r good void blank recs q) (k : Disposed t u r good' void' blank' recs' q') :
    Disposed s u r (good + good') (void + void') (blank + blank') (recs ++ recs') q' where
  jobs := by
    rw [k.jobs, h.jobs, List.map_map]
    refine List.map_congr_left fun z _ => ?_
    by_cases hz : z.id = r.job <;> simp [hz, countUp_add]
  shift := by rw [k.shift, h.shift]; simp [countUp_add]
  audit := by
    rw [k.audit, h.audit]
    simp only [List.append_assoc, List.map_map, AuditStore.mk.injEq, true_and, and_true]
    refine List.map_congr_left fun z _ => ?_
    by_cases hz : z.job = r.job ∧ z.state = .opened <;> simp [hz, Nat.add_assoc]
  rest := by
    rw [k.rest]
    exact congrArg (fun x : State => ((x.setJobs u.jobs).setAudit u.audit).setShift u.shift) h.rest
  stop := k.stop.trans h.stop
  signals := by
    have habsent : t.portAbsent = s.portAbsent := (h.field State.portAbsent fun _ => rfl).trans rfl
    rw [k.signals, h.signals, habsent, List.any_append]
    cases recs.any VoidRecord.notQueued <;> cases recs'.any VoidRecord.notQueued <;> simp [Signals.raise_raise]

theorem State.disposeLane_blank {l : LaneRec} (h : l.number = none) (owner : Port) (strict : Bool) (no : Nat) :
    Disposed s (s.disposeLane r owner strict no l) r 0 0 1 [] s.audit.queue := by
  have hlane : s.disposeLane r owner strict no l = (s.updTallies r.job (fun t => { t with blank := satAdd t.blank 1 })).updShift
      (fun t => { t with blank := satAdd t.blank 1 }) := by
    unfold State.disposeLane
    rw [h]
  rw [hlane]
  exact ⟨rfl, rfl, by simp [State.updTallies, State.updJob, State.updShift], rfl, rfl, rfl⟩

theorem State.disposeLane_good {l : LaneRec} {n : LaneNumber} (h : l.number = some n) (hgood : l.causes = 0) (owner : Port)
    (strict : Bool) (no : Nat) :
    Disposed s (s.disposeLane r owner strict no l) r 1 0 0 [] (r.queueStep strict s.audit.queue (l, no)) := by
  have hqueue : r.queueStep strict s.audit.queue (l, no) =
      if strict then makeUpQueue s.audit.queue r.job no n false else s.audit.queue := by
    simp [Row.queueStep, h, hgood]
  have hlane : s.disposeLane r owner strict no l =
      (((s.setAudit { s.audit with queue := r.queueStep strict s.audit.queue (l, no) }).updRecord r.job
        (fun x => { x with good := x.good + 1 })).updTallies r.job (fun t => { t with good := satAdd t.good 1 })).updShift
        (fun t => { t with good := satAdd t.good 1 }) := by
    unfold State.disposeLane
    rw [h, hqueue]
    simp only [hgood, if_true]
    cases strict <;> rfl
  rw [hlane]
  exact ⟨rfl, rfl, by simp [State.updTallies, State.updJob, State.updShift, State.updRecord], rfl, rfl, rfl⟩

/-- A void lane appended (R146, R151). -/
theorem State.appendVoid_disposed {l : LaneRec} {n : LaneNumber} (h : l.number = some n) (hvoid : l.causes ≠ 0) (owner : Port)
    (strict : Bool) (no : Nat) :
    Disposed s (s.appendVoid r owner strict no l n) r 0 0 0
      [r.voidRecord owner strict s.trk.h s.audit.nextSequence s.audit.queue (l, no) n]
      (r.queueStep strict s.audit.queue (l, no)) := by
  obtain ⟨x, b, u, hu, hx, happend⟩ : ∃ x b u, u = s.setAudit x ∧ x = { s.audit with
        inFlight := s.audit.inFlight ++ [r.voidRecord owner strict s.trk.h s.audit.nextSequence s.audit.queue (l, no) n]
        queue := if strict then makeUpQueue s.audit.queue r.job no n true else s.audit.queue
        resetNotQueued := b } ∧
      s.appendVoid r owner strict no l n =
        if strict && stepNotQueued s.audit.queue r.job n then u.raiseBoth .makeUp else u := ⟨_, _, _, rfl, rfl, rfl⟩
  have hqueue : r.queueStep strict s.audit.queue (l, no) =
      if strict then makeUpQueue s.audit.queue r.job no n true else s.audit.queue := by
    simp [Row.queueStep, h, show ¬l.causes = 0#15 from hvoid]
  have hcore : (s.appendVoid r owner strict no l n).core = (s.setAudit x).core := by
    rw [happend, hu]
    split <;> simp
  have hstop : (s.appendVoid r owner strict no l n).stop = s.stop := by
    rw [happend, hu]
    split <;> simp
  have hsignals : (s.appendVoid r owner strict no l n).signals =
      if strict && stepNotQueued s.audit.queue r.job n then s.signals.raise s.portAbsent .makeUp else s.signals := by
    rw [happend, hu]
    split
    · exact signals_raiseBoth _ (by decide)
    · rfl
  generalize s.appendVoid r owner strict no l n = w at hcore hstop hsignals
  have hjobs : w.jobs = s.jobs := (core_field State.jobs (fun _ => rfl) hcore).trans rfl
  have hshift : w.shift = s.shift := (core_field State.shift (fun _ => rfl) hcore).trans rfl
  have haudit : w.audit = x := core_field State.audit (fun _ => rfl) hcore
  exact {
    jobs := by rw [hjobs]; simp [countUp]
    shift := hshift
    audit := by rw [haudit, hqueue, hx]; simp
    rest := by rw [hcore, hjobs, hshift, haudit]; rfl
    stop := hstop
    signals := by rw [hsignals]; simp [Row.voidRecord] }

theorem State.disposeLane_void {l : LaneRec} {n : LaneNumber} (h : l.number = some n) (hvoid : l.causes ≠ 0) (owner : Port)
    (strict : Bool) (no : Nat) :
    Disposed s (s.disposeLane r owner strict no l) r 0 1 0
      [r.voidRecord owner strict s.trk.h s.audit.nextSequence s.audit.queue (l, no) n]
      (r.queueStep strict s.audit.queue (l, no)) := by
  have happend := State.appendVoid_disposed (s := s) (r := r) h hvoid owner strict no
  have hlane : s.disposeLane r owner strict no l =
      (((s.appendVoid r owner strict no l n).updRecord r.job (fun x => { x with void := x.void + 1 })).updTallies r.job
        (fun t => { t with void := satAdd t.void 1 })).updShift (fun t => { t with void := satAdd t.void 1 }) := by
    unfold State.disposeLane
    rw [h]
    exact if_neg hvoid
  rw [hlane]
  generalize s.appendVoid r owner strict no l n = w at happend
  have hcount : Disposed w (((w.updRecord r.job (fun x => { x with void := x.void + 1 })).updTallies r.job
      (fun t => { t with void := satAdd t.void 1 })).updShift (fun t => { t with void := satAdd t.void 1 })) r 0 1 0 []
      w.audit.queue :=
    ⟨rfl, rfl, by simp [State.updTallies, State.updJob, State.updShift, State.updRecord], rfl, rfl, rfl⟩
  have hqueue : w.audit.queue = r.queueStep strict s.audit.queue (l, no) := by rw [happend.audit]
  exact happend.trans (hqueue ▸ hcount)

/-- How many lanes are good: numbered and with no cause (R88). -/
def goodLanes (ls : List LaneRec) : Nat := (ls.filter (fun l => l.isNumbered && decide (l.causes = 0))).length

/-- How many lanes are blank (R88). -/
def blankLanes (ls : List LaneRec) : Nat := (ls.filter (fun l => !l.isNumbered)).length

theorem Disposed.nextSequence {good void blank : Nat} {queue : List MakeUpEntry}
    (h : Disposed s t r good void blank [] queue) : t.audit.nextSequence = s.audit.nextSequence := by
  rw [h.audit]
  exact AuditStore.nextSequence_congr (List.append_nil _) rfl

theorem Disposed.nextSequence_append {good void blank : Nat} {queue : List MakeUpEntry} {v : VoidRecord}
    (h : Disposed s t r good void blank [v] queue) : t.audit.nextSequence = sequenceAfter v.sequence := by
  rw [h.audit]
  exact AuditStore.nextSequence_append rfl

theorem goodLanes_cons (l : LaneRec) (ls : List LaneRec) :
    goodLanes (l :: ls) = (if l.isNumbered ∧ l.causes = 0 then 1 else 0) + goodLanes ls := by
  unfold goodLanes
  rw [List.filter_cons, Nat.add_comm]
  by_cases h : l.isNumbered ∧ l.causes = 0
  · rw [if_pos h, if_pos (by simpa using h), List.length_cons]
  · rw [if_neg h, if_neg (by simpa using h), Nat.add_zero]

theorem blankLanes_cons (l : LaneRec) (ls : List LaneRec) :
    blankLanes (l :: ls) = (if l.isNumbered then 0 else 1) + blankLanes ls := by
  unfold blankLanes
  rw [List.filter_cons, Nat.add_comm]
  cases l.isNumbered <;> simp

/-- The lanes of a row disposed of, in lane order (R88; the order is log entry 21). -/
theorem State.disposeLanes_disposed (r : Row) (owner : Port) (strict : Bool) (ls : List LaneRec) (no : Nat) (s : State) :
    let recs := r.voidRecords owner strict s.trk.h s.audit.nextSequence s.audit.queue no ls
    Disposed s (s.disposeLanes r owner strict no ls) r (goodLanes ls) recs.length (blankLanes ls) recs
      ((ls.zipIdx no).foldl (r.queueStep strict) s.audit.queue) := by
  induction ls generalizing no s with
  | nil => exact .refl s r
  | cons l ls ih =>
    have hrest := ih (no + 1) (s.disposeLane r owner strict no l)
    have hnumbered : l.isNumbered = l.number.isSome := rfl
    have hlanes : s.disposeLanes r owner strict no (l :: ls) =
        (s.disposeLane r owner strict no l).disposeLanes r owner strict (no + 1) ls := rfl
    rw [hlanes, List.zipIdx_cons, List.foldl_cons, goodLanes_cons, blankLanes_cons, hnumbered, Row.voidRecords]
    cases hl : l.number with
    | none =>
      have hlane := State.disposeLane_blank (s := s) (r := r) hl owner strict no
      have hqueue : r.queueStep strict s.audit.queue (l, no) = s.audit.queue := by simp [Row.queueStep, hl]
      have hh : (s.disposeLane r owner strict no l).trk.h = s.trk.h := hlane.field (fun x => x.trk.h) fun _ => rfl
      have hq : (s.disposeLane r owner strict no l).audit.queue = s.audit.queue := by rw [hlane.audit]
      rw [hlane.nextSequence, hh, hq] at hrest
      rw [hqueue]
      simpa using hlane.trans hrest
    | some n =>
      by_cases hc : l.causes = 0
      · have hlane := State.disposeLane_good (s := s) (r := r) hl hc owner strict no
        have hh : (s.disposeLane r owner strict no l).trk.h = s.trk.h := hlane.field (fun x => x.trk.h) fun _ => rfl
        have hq : (s.disposeLane r owner strict no l).audit.queue = r.queueStep strict s.audit.queue (l, no) := by
          rw [hlane.audit]
        rw [hlane.nextSequence, hh, hq] at hrest
        simpa [hc] using hlane.trans hrest
      · have hlane := State.disposeLane_void (s := s) (r := r) hl hc owner strict no
        have hh : (s.disposeLane r owner strict no l).trk.h = s.trk.h := hlane.field (fun x => x.trk.h) fun _ => rfl
        have hq : (s.disposeLane r owner strict no l).audit.queue = r.queueStep strict s.audit.queue (l, no) := by
          rw [hlane.audit]
        rw [hlane.nextSequence_append, hh, hq] at hrest
        have hc' : ¬l.causes = 0#15 := hc
        simpa [hc', Nat.add_comm, Row.voidRecord] using hlane.trans hrest

/-! ### The records of the void lanes -/

/-- The make-up queue once the first `m` of the lanes have taken their steps (R151). -/
def Row.queueAt (r : Row) (strict : Bool) (q : List MakeUpEntry) (m : Nat) : List MakeUpEntry :=
  ((r.lanes.take m).zipIdx 1).foldl (r.queueStep strict) q

theorem Row.queueAt_succ (r : Row) (strict : Bool) (q : List MakeUpEntry) {m : Nat} {l : LaneRec} (h : r.lanes[m]? = some l) :
    r.queueAt strict q (m + 1) = r.queueStep strict (r.queueAt strict q m) (l, m + 1) := by
  obtain ⟨hm, -⟩ := List.getElem?_eq_some_iff.1 h
  unfold Row.queueAt
  rw [List.take_add_one, h, List.zipIdx_append, List.foldl_append]
  simp [Nat.min_eq_left hm.le, Nat.add_comm]

theorem Row.queueAt_all (r : Row) (strict : Bool) (q : List MakeUpEntry) :
    r.queueAt strict q r.lanes.length = (r.lanes.zipIdx 1).foldl (r.queueStep strict) q := by
  unfold Row.queueAt
  rw [List.take_length]

/-- What a void record says of a lane, given with its number, where the make-up queues are those of the row's lanes. -/
def Row.voidOf (r : Row) (strict : Bool) (q : List MakeUpEntry) (x : LaneRec × Nat) :
    Option (Nat × LaneNumber × CauseSet × Bool × Bool × Bool) :=
  match x.1.number with
  | some n => if x.1.causes = 0 then none
    else some (x.2, n, x.1.causes, !x.1.marked, strict && stepNotQueued (r.queueAt strict q (x.2 - 1)) r.job n,
      strict && stepExhausted n)
  | none => none

/-- The fields of a void record that its lane gives it (R145, R151). -/
def VoidRecord.ofLane (v : VoidRecord) : Nat × LaneNumber × CauseSet × Bool × Bool × Bool :=
  (v.laneNo, v.lane, v.causes, v.unmarked, v.notQueued, v.exhausted)

theorem Row.voidRecords_ofLane_from (r : Row) (owner : Port) (strict : Bool) (h : Pos) (q : List MakeUpEntry) (ls : List LaneRec)
    (m sequence : Nat) (hls : r.lanes.drop m = ls) :
    (r.voidRecords owner strict h sequence (r.queueAt strict q m) (m + 1) ls).map VoidRecord.ofLane =
      (ls.zipIdx (m + 1)).filterMap (r.voidOf strict q) := by
  induction ls generalizing m sequence with
  | nil => rfl
  | cons l ls ih =>
    have hl : r.lanes[m]? = some l := by rw [← List.head?_drop, hls]; rfl
    have hdrop : r.lanes.drop (m + 1) = ls := by rw [← List.tail_drop, hls]; rfl
    have hstep := r.queueAt_succ strict q hl
    rw [List.zipIdx_cons, List.filterMap_cons, Row.voidRecords]
    cases hn : l.number with
    | none =>
      have hqueue : r.queueAt strict q (m + 1) = r.queueAt strict q m := by rw [hstep]; simp [Row.queueStep, hn]
      rw [← hqueue]
      simpa [Row.voidOf, hn] using ih (m + 1) sequence hdrop
    | some n =>
      by_cases hc : l.causes = 0
      · rw [← hstep]
        simpa [Row.voidOf, hn, hc] using ih (m + 1) sequence hdrop
      · have hc' : ¬l.causes = 0#15 := hc
        rw [← hstep]
        simpa [Row.voidOf, hn, hc', Row.voidRecord, VoidRecord.ofLane] using ih (m + 1) (sequenceAfter sequence) hdrop

theorem Row.voidRecords_ofLane (r : Row) (owner : Port) (strict : Bool) (h : Pos) (sequence : Nat) (q : List MakeUpEntry) :
    (r.voidRecords owner strict h sequence q 1 r.lanes).map VoidRecord.ofLane =
      (r.lanes.zipIdx 1).filterMap (r.voidOf strict q) :=
  r.voidRecords_ofLane_from owner strict h q r.lanes 0 sequence rfl

theorem Row.voidRecords_mem (r : Row) (owner : Port) (strict : Bool) (h : Pos) (ls : List LaneRec) (sequence : Nat)
    (q : List MakeUpEntry) (no : Nat) :
    ∀ v ∈ r.voidRecords owner strict h sequence q no ls, v.job = r.job ∧ v.owner = owner ∧ v.row = r.k ∧ v.retire = h := by
  induction ls generalizing sequence q no with
  | nil => simp [Row.voidRecords]
  | cons l ls ih =>
    rw [Row.voidRecords]
    cases l.number with
    | none => exact ih _ _ _
    | some n =>
      dsimp only
      split
      · exact ih _ _ _
      · intro v hv
        rcases List.mem_cons.1 hv with rfl | hv
        · exact ⟨rfl, rfl, rfl, rfl⟩
        · exact ih _ _ _ v hv

/-- The sequences of the records follow one another (R146). -/
theorem Row.voidRecords_sequence (r : Row) (owner : Port) (strict : Bool) (h : Pos) (ls : List LaneRec) (sequence : Nat)
    (q : List MakeUpEntry) (no i : Nat) (v : VoidRecord)
    (hv : (r.voidRecords owner strict h sequence q no ls)[i]? = some v) : v.sequence = sequenceAfter^[i] sequence := by
  induction ls generalizing sequence q no i with
  | nil => simp [Row.voidRecords] at hv
  | cons l ls ih =>
    rw [Row.voidRecords] at hv
    cases hn : l.number with
    | none =>
      rw [hn] at hv
      exact ih _ _ _ _ hv
    | some n =>
      rw [hn] at hv
      dsimp only at hv
      split at hv
      · exact ih _ _ _ _ hv
      · cases i with
        | zero =>
          cases hv
          rfl
        | succ i => exact ih (sequenceAfter sequence) _ _ i hv

end

/-! ## The monitors' samples of a row (R163 to R165) -/

section
variable {s t u : State} {r : Row}

/-- The monitor's sample of the row is an alarm (R165). -/
def State.alarms (s : State) (r : Row) (i : Mon) : Bool := (s.monitors.get i).alarmed ((s.monitors.get i).source.rowCount r)

theorem any_congr_of_mem {α : Type} {l : List α} {f g : α → Bool} (h : ∀ x ∈ l, f x = g x) : l.any f = l.any g := by
  rw [Bool.eq_iff_iff, List.any_eq_true, List.any_eq_true]
  exact exists_congr fun x => and_congr_right fun hx => by rw [h x hx]

/-- In `t` some of the monitors have sampled the row from `s`: an alarm raises MONITOR and, with stop enable, latches the monitor's
stop cause; nothing else changes (R163 to R165). -/
structure Sampled (s t : State) (r : Row) (l : List Mon) : Prop where
  monitors : ∀ i, t.monitors.get i =
    if i ∈ l then (s.monitors.get i).sampled ((s.monitors.get i).source.rowCount r) else s.monitors.get i
  rest : t.core = (s.setMonitors t.monitors).core
  stop : (∀ i ∈ l, s.alarms r i = false) → t.stop = s.stop
  latched : ∀ c, t.signals.latched c =
    (s.signals.latched c || l.any (fun i => s.alarms r i && (s.monitors.get i).stopEnable && decide (.monitor i = c)))
  held : t.signals.held = s.signals.held
  pending : ∀ q a, t.signals.pending q a =
    (s.signals.pending q a || (decide (.monitor = a) && !s.portAbsent q && l.any (s.alarms r)))

theorem Sampled.refl (s : State) (r : Row) : Sampled s s r [] where
  monitors := by simp
  rest := rfl
  stop := fun _ => rfl
  latched := by simp
  held := rfl
  pending := by simp

theorem Sampled.one (s : State) (r : Row) (i : Mon) : Sampled s (s.sampleMonitor r i) r [i] := by
  obtain ⟨m, hm⟩ : ∃ m, m = s.monitors.set i ((s.monitors.get i).sampled ((s.monitors.get i).source.rowCount r)) := ⟨_, rfl⟩
  have hsample : s.sampleMonitor r i = if s.alarms r i then
      (if (s.monitors.get i).stopEnable then ((s.setMonitors m).raiseBoth .monitor).latchEvent (.monitor i)
        else (s.setMonitors m).raiseBoth .monitor) else s.setMonitors m := by rw [hm]; rfl
  have hcore : (s.sampleMonitor r i).core = (s.setMonitors m).core := by
    rw [hsample]
    split_ifs <;> simp
  have hmonitors : (s.sampleMonitor r i).monitors = m := core_field State.monitors (fun _ => rfl) hcore
  have hset : (s.setMonitors m).signals = s.signals := rfl
  have habsent : (s.setMonitors m).portAbsent = s.portAbsent := rfl
  refine ⟨fun k => ?_, by rw [hmonitors]; exact hcore, fun h => ?_, fun c => ?_, ?_, fun q a => ?_⟩
  · rw [hmonitors, hm, PerMon.get_set]
    by_cases hk : k = i
    · subst hk; simp
    · simp [hk]
  · rw [hsample, if_neg (by simp [h i])]
    rfl
  · rw [hsample]
    split_ifs <;> rename_i ha <;> simp_all [Signals.latch, Signals.raise, signals_raiseBoth]
  · rw [hsample]
    split_ifs <;> simp [Signals.latch, Signals.raise, signals_raiseBoth, hset]
  · rw [hsample]
    split_ifs <;> simp_all [Signals.latch, Signals.raise, signals_raiseBoth]

theorem Sampled.trans {l l' : List Mon} (h : Sampled s t r l) (k : Sampled t u r l') (hdisjoint : ∀ i ∈ l', i ∉ l) :
    Sampled s u r (l ++ l') := by
  have hsame : ∀ i ∈ l', t.monitors.get i = s.monitors.get i := fun i hi => by rw [h.monitors, if_neg (hdisjoint i hi)]
  have halarms : ∀ i ∈ l', t.alarms r i = s.alarms r i := fun i hi => by unfold State.alarms; rw [hsame i hi]
  have habsent : t.portAbsent = s.portAbsent := (core_field State.portAbsent (fun _ => rfl) h.rest).trans rfl
  refine ⟨fun i => ?_, ?_, fun hno => ?_, fun c => ?_, k.held.trans h.held, fun q a => ?_⟩
  · rw [k.monitors]
    by_cases hi : i ∈ l'
    · rw [if_pos hi, if_pos (List.mem_append_right _ hi), hsame i hi]
    · rw [if_neg hi, h.monitors]
      exact if_congr (by simp [hi]) rfl rfl
  · rw [k.rest]
    exact congrArg (fun x : State => x.setMonitors u.monitors) h.rest
  · have ht : t.stop = s.stop := h.stop fun i hi => hno i (List.mem_append_left _ hi)
    exact (k.stop fun i hi => (halarms i hi).trans (hno i (List.mem_append_right _ hi))).trans ht
  · have hany : l'.any (fun i => t.alarms r i && (t.monitors.get i).stopEnable && decide (.monitor i = c)) =
        l'.any (fun i => s.alarms r i && (s.monitors.get i).stopEnable && decide (.monitor i = c)) :=
      any_congr_of_mem fun i hi => by rw [halarms i hi, hsame i hi]
    rw [k.latched, h.latched, List.any_append, hany, Bool.or_assoc]
  · have hany : l'.any (t.alarms r) = l'.any (s.alarms r) := any_congr_of_mem fun i hi => halarms i hi
    rw [k.pending, h.pending, List.any_append, hany, habsent]
    cases decide (Attention.monitor = a) <;> cases s.portAbsent q <;> simp [Bool.or_assoc]

theorem Sampled.foldl (r : Row) (l : List Mon) (hl : l.Nodup) (s : State) :
    Sampled s (l.foldl (fun s i => s.sampleMonitor r i) s) r l := by
  induction l generalizing s with
  | nil => exact .refl s r
  | cons i l ih =>
    obtain ⟨hi, hl⟩ := List.nodup_cons.1 hl
    exact (Sampled.one s r i).trans (ih hl _) (fun k hk => by
      rw [List.mem_singleton]
      exact fun h => hi (h ▸ hk))

theorem State.sampleMonitors_sampled (s : State) (r : Row) : Sampled s (s.sampleMonitors r) r Mon.all :=
  Sampled.foldl r Mon.all (by decide) s

theorem Mon.mem_all (i : Mon) : i ∈ Mon.all := by cases i <;> decide

end

end Sys2Proof.Machine

namespace Sys2Proof.Machine

/-! ## A row retired (R88 to R90) -/

/-- The job is STRICT (R89). -/
def Job.strict (j : Job) : Bool := decide (j.plan.accounting = .strict)

/-- The records of the void lanes of a row of job j that retires (R88, R146). -/
def State.recordsOf (s : State) (r : Row) (j : Job) : List VoidRecord :=
  r.voidRecords j.owner j.strict s.trk.h s.audit.nextSequence s.audit.queue 1 r.lanes

/-- A job's tallies once the row is retired with so many lanes void (R88, R140). -/
def Row.tallied (r : Row) (void : Nat) (t : JobTallies) : JobTallies :=
  { t with
    rows := satAdd t.rows 1
    good := countUp (goodLanes r.lanes) t.good
    void := countUp void t.void
    blank := countUp (blankLanes r.lanes) t.blank }

/-- A recovery record once the row is retired with so many lanes void: while it is OPEN it follows its job's rows (R153). -/
def Row.recorded (r : Row) (void : Nat) (z : RecoveryRecord) : RecoveryRecord :=
  if z.job = r.job ∧ z.state = .opened then
    { z with
      good := z.good + goodLanes r.lanes
      void := z.void + void
      retiredRows := z.retiredRows + (if r.fromDraw then 1 else 0)
      retiredList := z.retiredList + (r.lanes.filter LaneRec.fromFeed).length }
  else z

/-- A job's record once the row is retired. -/
def Row.counted (r : Row) (void : Nat) (z : Job) : Job :=
  if z.id = r.job then { z with tallies := r.tallied void z.tallies } else z

/-- In `t` a row of job j has been disposed of from `s` (R88, R89, R146, R151, R153, R160). -/
structure RowDisposed (s t : State) (r : Row) (j : Job) : Prop where
  jobs : t.jobs = s.jobs.map (r.counted (s.recordsOf r j).length)
  shift : t.shift = { s.shift with
    rows := satAdd s.shift.rows 1
    good := countUp (goodLanes r.lanes) s.shift.good
    void := countUp (s.recordsOf r j).length s.shift.void
    blank := countUp (blankLanes r.lanes) s.shift.blank }
  audit : t.audit = { s.audit with
    inFlight := s.audit.inFlight ++ s.recordsOf r j
    queue := r.queueAt j.strict s.audit.queue r.lanes.length
    records := s.audit.records.map (r.recorded (s.recordsOf r j).length)
    resetNotQueued := t.audit.resetNotQueued }
  rest : t.core = (((s.setJobs t.jobs).setAudit t.audit).setShift t.shift).core
  stop : t.stop = s.stop
  signals : t.signals = if (s.recordsOf r j).any VoidRecord.notQueued then s.signals.raise s.portAbsent .makeUp else s.signals

section
variable {s t v : State} {r : Row} {j : Job}

/-- The state with what is counted of the row as a whole: its retirement, in its job's tallies, the shift's and its recovery record
(R88, R153, R160). -/
def State.rowCounted (s : State) (r : Row) : State :=
  ((s.updRecord r.job (fun x =>
      { x with
        retiredRows := x.retiredRows + (if r.fromDraw then 1 else 0)
        retiredList := x.retiredList + (r.lanes.filter LaneRec.fromFeed).length })).updTallies r.job
      (fun t => { t with rows := satAdd t.rows 1 })).updShift (fun t => { t with rows := satAdd t.rows 1 })

theorem State.disposeRow_eq (hj : s.job r.job = some j) :
    s.disposeRow r = (s.disposeLanes r j.owner j.strict 1 r.lanes).rowCounted r := by
  unfold State.disposeRow
  rw [hj]
  rfl

theorem State.disposeRow_disposed (hj : s.job r.job = some j) : RowDisposed s (s.disposeRow r) r j := by
  have hlanes : Disposed s (s.disposeLanes r j.owner j.strict 1 r.lanes) r (goodLanes r.lanes) (s.recordsOf r j).length
      (blankLanes r.lanes) (s.recordsOf r j) (r.queueAt j.strict s.audit.queue r.lanes.length) := by
    rw [r.queueAt_all]
    exact State.disposeLanes_disposed r j.owner j.strict r.lanes 1 s
  rw [State.disposeRow_eq hj]
  generalize s.disposeLanes r j.owner j.strict 1 r.lanes = w at hlanes
  have hrecords : (w.rowCounted r).audit = { w.audit with records := (w.rowCounted r).audit.records } := rfl
  refine ⟨?_, ?_, ?_, ?_, hlanes.stop, hlanes.signals⟩
  · show w.jobs.map _ = _
    rw [hlanes.jobs, List.map_map]
    refine List.map_congr_left fun z _ => ?_
    by_cases hz : z.id = r.job <;> simp [hz, Row.counted, Row.tallied]
  · show { w.shift with rows := satAdd w.shift.rows 1 } = _
    rw [hlanes.shift]
  · have hmap : (w.rowCounted r).audit.records = s.audit.records.map (r.recorded (s.recordsOf r j).length) := by
      show w.audit.records.map _ = _
      rw [hlanes.audit, List.map_map]
      refine List.map_congr_left fun z _ => ?_
      by_cases hz : z.job = r.job ∧ z.state = .opened <;> simp [hz, Row.recorded]
    rw [hrecords, hmap, hlanes.audit]
  · exact congrArg (fun x : State =>
      ((x.setJobs (w.rowCounted r).jobs).setAudit (w.rowCounted r).audit).setShift (w.rowCounted r).shift) hlanes.rest

/-! ### The reserve condition -/

/-- There is room for a full row of the RUNNING job, or no job is RUNNING (R79). -/
def State.hasRoom (s : State) : Bool :=
  match s.running with
  | none => true
  | some x => s.reservationOk x.plan.lanes

theorem State.reserveFall_of_normal (hcond : s.audit.condition = .normal) :
    s.reserveFall = if s.hasRoom then s.clearReserve else s := by
  have hsaving : s.savingOrSaved = false := by simp [State.savingOrSaved, hcond]
  unfold State.reserveFall State.hasRoom
  rw [hsaving]
  cases s.running <;> rfl

/-- In `t` the reserve condition may have ended from `s`, and nothing else has changed (R79). -/
structure ReserveTested (s t : State) (ends : Bool) : Prop where
  rest : t.core = (s.setPipe { s.pipe with reserve := s.pipe.reserve && !ends }).core
  stop : t.pipe.reserve = s.pipe.reserve → t.stop = s.stop
  signals : t.signals = if s.pipe.reserve && ends then s.signals.finish .voidReserve else s.signals

theorem ReserveTested.refl (s : State) : ReserveTested s s false where
  rest := by simp [State.setPipe]
  stop := fun _ => rfl
  signals := by simp

theorem ReserveTested.cleared (s : State) : ReserveTested s s.clearReserve true where
  rest := by rw [core_clearReserve]; simp
  stop := by
    unfold State.clearReserve
    cases hr : s.pipe.reserve with
    | true =>
      have hoff : ((s.setPipe { s.pipe with reserve := false }).endLevel .voidReserve).pipe.reserve = false := by
        rw [State.endLevel_rows]
        rfl
      rw [if_pos rfl, hoff]
      exact fun h => nomatch h
    | false => exact fun _ => rfl
  signals := by rw [signals_clearReserve]; simp

theorem State.reserveFall_tested (hcond : s.audit.condition = .normal) : ReserveTested s s.reserveFall s.hasRoom := by
  rw [State.reserveFall_of_normal hcond]
  cases s.hasRoom with
  | true => exact .cleared s
  | false => exact .refl s

/-! ### The row gone -/

/-- The other rows of the pipeline. -/
def State.others (s : State) (r : Row) : List Row := s.pipe.rows.filter (fun x => decide (x.k ≠ r.k))

/-- In `v` a row of job j has left from `s`: disposed of, sampled and dropped, and the reserve condition tested; what the Job Table
and the Tracker make of it is to come (R88, R90). -/
structure RowLeft (s v : State) (r : Row) (j : Job) (room : Bool) : Prop where
  jobs : v.jobs = s.jobs.map (r.counted (s.recordsOf r j).length)
  shift : v.shift = { s.shift with
    rows := satAdd s.shift.rows 1
    good := countUp (goodLanes r.lanes) s.shift.good
    void := countUp (s.recordsOf r j).length s.shift.void
    blank := countUp (blankLanes r.lanes) s.shift.blank }
  audit : v.audit = { s.audit with
    inFlight := s.audit.inFlight ++ s.recordsOf r j
    queue := r.queueAt j.strict s.audit.queue r.lanes.length
    records := s.audit.records.map (r.recorded (s.recordsOf r j).length)
    resetNotQueued := v.audit.resetNotQueued }
  monitors : ∀ i, v.monitors.get i = (s.monitors.get i).sampled ((s.monitors.get i).source.rowCount r)
  pipe : v.pipe = { s.pipe with
    rows := s.others r
    reserve := s.pipe.reserve && !(decide (0 < r.numbered) && room) }
  rest : v.core = ((((((s.setJobs v.jobs).setShift v.shift).setAudit v.audit).setMonitors v.monitors).setPipe v.pipe).setTrk
    { s.trk with schedule := v.trk.schedule }).core
  stop : (∀ i, s.alarms r i = false) → v.pipe.reserve = s.pipe.reserve → v.stop = s.stop
  latched : ∀ c, v.signals.latched c = (s.signals.latched c ||
    Mon.all.any (fun i => s.alarms r i && (s.monitors.get i).stopEnable && decide (.monitor i = c)))
  held : ∀ c, v.signals.held c =
    (s.signals.held c && !(decide (.voidReserve = c) && s.pipe.reserve && !v.pipe.reserve))
  pending : ∀ q a, v.signals.pending q a = (s.signals.pending q a ||
    (!s.portAbsent q && (decide (.monitor = a) && Mon.all.any (s.alarms r) ||
      decide (.makeUp = a) && (s.recordsOf r j).any VoidRecord.notQueued)))

/-- The row disposed of, sampled and dropped, and the reserve condition tested where its in-flight count has fallen (R79, R90). -/
def State.left (s : State) (r : Row) : State :=
  if r.numbered = 0 then ((s.disposeRow r).sampleMonitors r).dropRow r.k
  else (((s.disposeRow r).sampleMonitors r).dropRow r.k).reserveFall

theorem State.retire_eq (s : State) (r : Row) :
    s.retire r = (((s.left r).reportInFlight r.job).reportLastRow r.job).testFree := rfl

/-- Room for a full row of the RUNNING job once the row has left (R79). -/
def State.roomLeft (s : State) (r : Row) (j : Job) : Bool :=
  match s.running with
  | none => true
  | some x => decide (s.audit.voids.length + s.audit.inFlight.length + (s.recordsOf r j).length +
      ((s.others r).map Row.numbered).sum + x.plan.lanes ≤ 1024)

theorem Row.counted_plan (r : Row) (void : Nat) (z : Job) : (r.counted void z).plan = z.plan := by
  unfold Row.counted
  split <;> rfl

theorem Row.counted_state (r : Row) (void : Nat) (z : Job) : (r.counted void z).state = z.state := by
  unfold Row.counted
  split <;> rfl

theorem RowDisposed.field (h : RowDisposed s t r j) {α : Type} (f : State → α) (hf : ∀ x : State, f x.core = f x) :
    f t = f (((s.setJobs t.jobs).setAudit t.audit).setShift t.shift) := core_field f hf h.rest

theorem RowDisposed.running (h : RowDisposed s t r j) :
    t.running = s.running.map (r.counted (s.recordsOf r j).length) := by
  unfold State.running
  rw [h.jobs]
  exact find_state_map s.jobs _ (r.counted_state _) .running

theorem Sampled.field {l : List Mon} (h : Sampled s t r l) {α : Type} (f : State → α) (hf : ∀ x : State, f x.core = f x) :
    f t = f (s.setMonitors t.monitors) := core_field f hf h.rest

theorem Sampled.hasRoom_dropRow (hd : RowDisposed s t r j) (hm : Sampled t u r Mon.all) :
    (u.dropRow r.k).hasRoom = s.roomLeft r j := by
  have hpipe : u.pipe = s.pipe := (hm.field State.pipe fun _ => rfl).trans (hd.field State.pipe fun _ => rfl)
  have hrunning : (u.dropRow r.k).running = t.running := hm.field State.running fun _ => rfl
  have haudit : (u.dropRow r.k).audit = t.audit := hm.field State.audit fun _ => rfl
  have hvoids : (u.dropRow r.k).audit.voidCount =
      s.audit.voids.length + s.audit.inFlight.length + (s.recordsOf r j).length := by
    rw [haudit, hd.audit]
    simp [AuditStore.voidCount, Nat.add_assoc]
  have hinFlight : (u.dropRow r.k).inFlight = ((s.others r).map Row.numbered).sum := by
    show inFlightOfRows (u.pipe.rows.filter _) = _
    rw [hpipe]
    rfl
  unfold State.hasRoom State.roomLeft State.reservationOk
  rw [hrunning, hvoids, hinFlight, hd.running]
  cases s.running with
  | none => rfl
  | some x =>
    show decide (_ + (r.counted _ x).plan.lanes ≤ _) = _
    rw [r.counted_plan]
    rfl

theorem State.left_tested (hcond : s.audit.condition = .normal) (hd : RowDisposed s (s.disposeRow r) r j) :
    ReserveTested (((s.disposeRow r).sampleMonitors r).dropRow r.k) (s.left r)
      (decide (0 < r.numbered) && s.roomLeft r j) := by
  have hm := (s.disposeRow r).sampleMonitors_sampled r
  have haudit : (((s.disposeRow r).sampleMonitors r).dropRow r.k).audit = (s.disposeRow r).audit :=
    hm.field State.audit fun _ => rfl
  have hcond' : (((s.disposeRow r).sampleMonitors r).dropRow r.k).audit.condition = .normal := by
    rw [haudit, hd.audit]
    exact hcond
  unfold State.left
  split <;> rename_i hz
  · rw [hz]
    exact .refl _
  · rw [decide_eq_true (Nat.pos_of_ne_zero hz), Bool.true_and, ← hm.hasRoom_dropRow hd]
    exact State.reserveFall_tested hcond'

theorem State.left_left (hcond : s.audit.condition = .normal) (hj : s.job r.job = some j) :
    RowLeft s (s.left r) r j (s.roomLeft r j) := by
  have hd := State.disposeRow_disposed hj
  have hm := (s.disposeRow r).sampleMonitors_sampled r
  have ht := State.left_tested hcond hd
  generalize s.left r = v at ht
  generalize s.disposeRow r = d at hd hm ht
  generalize d.sampleMonitors r = m at hm ht
  have hfield : ∀ {α : Type} (f : State → α), (∀ x : State, f x.core = f x) →
      f v = f ((m.dropRow r.k).setPipe { (m.dropRow r.k).pipe with
        reserve := (m.dropRow r.k).pipe.reserve && !(decide (0 < r.numbered) && s.roomLeft r j) }) := fun f hf =>
    core_field f hf ht.rest
  have hjobs : v.jobs = d.jobs := (hfield State.jobs fun _ => rfl).trans (hm.field State.jobs fun _ => rfl)
  have hshift : v.shift = d.shift := (hfield State.shift fun _ => rfl).trans (hm.field State.shift fun _ => rfl)
  have haudit : v.audit = d.audit := (hfield State.audit fun _ => rfl).trans (hm.field State.audit fun _ => rfl)
  have hmonitors : v.monitors = m.monitors := hfield State.monitors fun _ => rfl
  have hdmonitors : d.monitors = s.monitors := hd.field State.monitors fun _ => rfl
  have hmpipe : m.pipe = s.pipe := (hm.field State.pipe fun _ => rfl).trans (hd.field State.pipe fun _ => rfl)
  have hmtrk : m.trk = s.trk := (hm.field State.trk fun _ => rfl).trans (hd.field State.trk fun _ => rfl)
  have habsent : d.portAbsent = s.portAbsent := hd.field State.portAbsent fun _ => rfl
  have halarms : d.alarms r = s.alarms r := by unfold State.alarms; rw [hdmonitors]
  have hdrop : (m.dropRow r.k).pipe = { s.pipe with rows := s.others r } := by
    have hm' : (m.dropRow r.k).pipe = { m.pipe with rows := m.others r } := rfl
    rw [hm', hmpipe]
    unfold State.others
    rw [hmpipe]
  have hpipe : v.pipe = { s.pipe with
      rows := s.others r
      reserve := s.pipe.reserve && !(decide (0 < r.numbered) && s.roomLeft r j) } := by
    refine (hfield State.pipe fun _ => rfl).trans ?_
    rw [hdrop]
    rfl
  have htrk : v.trk = { s.trk with schedule := v.trk.schedule } := by
    have hv : v.trk = { m.trk with schedule := (m.dropRow r.k).trk.schedule } := hfield State.trk fun _ => rfl
    rw [hv, hmtrk]
  have hsignals : v.signals = if s.pipe.reserve && (decide (0 < r.numbered) && s.roomLeft r j) then
      m.signals.finish .voidReserve else m.signals := by
    rw [ht.signals, hdrop]
    rfl
  have hmcore : m.core = ((((s.setJobs d.jobs).setAudit d.audit).setShift d.shift).setMonitors m.monitors).core :=
    hm.rest.trans (congrArg (fun x : State => x.setMonitors m.monitors) hd.rest)
  have hcore : v.core = ((m.setPipe v.pipe).setTrk v.trk).core := by
    rw [ht.rest, hfield State.pipe fun _ => rfl, hfield State.trk fun _ => rfl]
    rfl
  exact {
    jobs := hjobs.trans hd.jobs
    shift := hshift.trans hd.shift
    audit := by rw [haudit]; exact hd.audit
    monitors := fun i => by rw [hmonitors, hm.monitors, if_pos (Mon.mem_all i), hdmonitors]
    pipe := hpipe
    rest := by
      rw [hcore, ← htrk, hjobs, hshift, haudit, hmonitors]
      exact congrArg (fun x : State => (x.setPipe v.pipe).setTrk v.trk) hmcore
    stop := fun hno hreserve => by
      have hstop : (m.dropRow r.k).stop = s.stop := (hm.stop fun i _ => by rw [halarms]; exact hno i).trans hd.stop
      rw [← hstop]
      refine ht.stop (hreserve.trans ?_)
      rw [hdrop]
    latched := fun c => by
      have hv : v.signals.latched c = m.signals.latched c := by rw [hsignals]; split <;> rfl
      have hdl : d.signals.latched = s.signals.latched := by rw [hd.signals]; split <;> rfl
      rw [hv, hm.latched, halarms, hdmonitors, hdl]
    held := fun c => by
      have hdh : m.signals.held = s.signals.held := by rw [hm.held, hd.signals]; split <;> rfl
      rw [hsignals, hpipe, ← hdh]
      cases s.pipe.reserve <;> cases decide (0 < r.numbered) && s.roomLeft r j <;> simp [Signals.finish]
    pending := fun q a => by
      have hv : v.signals.pending q a = m.signals.pending q a := by rw [hsignals]; split <;> rfl
      have hdp : d.signals.pending q a = (s.signals.pending q a ||
          (decide (.makeUp = a) && !s.portAbsent q && (s.recordsOf r j).any VoidRecord.notQueued)) := by
        rw [hd.signals]
        split <;> rename_i hn <;> simp [hn, Signals.raise]
      rw [hv, hm.pending, halarms, habsent, hdp]
      cases s.portAbsent q <;> simp [Bool.or_left_comm, Bool.or_comm] }

end

end Sys2Proof.Machine

namespace Sys2Proof.Machine

/-! ## The return to FREE (R7) -/

section
variable {s : State}

/-- The conditions MARK_LOST of some plies no longer held. -/
def Signals.foundMarks (g : Signals) (ps : List Ply) : Signals :=
  { g with held := fun c => g.held c && !ps.any (fun p => decide (.markLost p = c)) }

theorem endLevels_markLost (ps : List Ply) (s : State) :
    (ps.foldl (fun s p => s.endLevel (.markLost p)) s).core = s.core ∧
      (ps.foldl (fun s p => s.endLevel (.markLost p)) s).signals = s.signals.foundMarks ps := by
  induction ps generalizing s with
  | nil => exact ⟨rfl, by simp [Signals.foundMarks]⟩
  | cons p ps ih =>
    obtain ⟨hcore, hsignals⟩ := ih (s.endLevel (.markLost p))
    refine ⟨hcore.trans (core_endLevel s _), ?_⟩
    rw [List.foldl_cons, hsignals, signals_endLevel]
    simp [Signals.foundMarks, Signals.finish, Bool.and_assoc]

/-- The event is a window end or a zone expiry, which the return to FREE withdraws (R40, R42). -/
def PosEvent.endsAtFree : PosEvent → Bool
  | .windowEnd _ | .zoneExpiry _ => true
  | _ => false

/-- The state with the epoch discarded (R7). -/
def State.closed (s : State) : State := s.setTrk { s.trk with epoch := none }

/-- The blocks but the Stop Unit and the ports, once the Tracker has returned to FREE outside of SAVING and SAVED (R7). -/
def State.freed (s : State) : State :=
  (s.closed.windowsOff.setMarks (s.marks.map MarkPly.off)).zonesOff.setPipe { s.pipe with
    nextIndex := none
    reserve := false }

theorem core_marksOff (s : State) : s.marksOff.core = (s.windowsOff.setMarks (s.marks.map MarkPly.off)).core :=
  (endLevels_markLost Ply.all (s.windowsOff.setMarks (s.marks.map MarkPly.off))).1

theorem signals_marksOff (s : State) : s.marksOff.signals = s.signals.foundMarks Ply.all :=
  (endLevels_markLost Ply.all (s.windowsOff.setMarks (s.marks.map MarkPly.off))).2

theorem State.freed_schedule (s : State) : s.freed.trk.schedule = s.trk.schedule.filter (fun y => !y.ev.endsAtFree) := by
  refine (List.filter_filter ..).trans (List.filter_congr fun y _ => ?_)
  cases y.ev <;> rfl

/-- Zone expiries withdrawn and the zone lists emptied: what it does depends on the core alone. -/
theorem core_zonesOff {s t : State} (h : s.core = t.core) : s.zonesOff.core = t.zonesOff.core := by
  have htrk : s.trk = t.trk := core_field State.trk (fun _ => rfl) h
  unfold State.zonesOff State.unschedule
  rw [htrk]
  exact congrArg (fun x : State => (x.setTrk _).setZones (PerPly.all [])) h

/-- The Tracker's epoch discarded, the plies OFF and the zone lists emptied: the reserve condition and the next index are to come. -/
theorem core_closed (s : State) :
    s.closed.marksOff.zonesOff.core = (s.closed.windowsOff.setMarks (s.marks.map MarkPly.off)).zonesOff.core :=
  core_zonesOff (core_marksOff s.closed)

theorem State.returnToFree_eq (hcond : s.audit.condition = .normal) :
    s.returnToFree = (s.closed.marksOff.zonesOff.setPipe { s.pipe with nextIndex := none }).clearReserve := by
  have hcore := core_closed s
  have hfree : s.returnToFree = if (s.closed.marksOff.zonesOff.setPipe { s.closed.marksOff.zonesOff.pipe with
      nextIndex := none }).savingOrSaved then s.closed.marksOff.zonesOff.setPipe { s.closed.marksOff.zonesOff.pipe with
      nextIndex := none } else (s.closed.marksOff.zonesOff.setPipe { s.closed.marksOff.zonesOff.pipe with
      nextIndex := none }).clearReserve := rfl
  rw [hfree]
  generalize s.closed.marksOff.zonesOff = z at hcore
  have hpipe : z.pipe = s.pipe := (core_field State.pipe (fun _ => rfl) hcore).trans rfl
  have hsaving : (z.setPipe { z.pipe with nextIndex := none }).savingOrSaved = s.savingOrSaved :=
    (core_field State.savingOrSaved (fun _ => rfl) hcore).trans rfl
  rw [hsaving, hpipe, if_neg (by simp [State.savingOrSaved, hcond])]

theorem core_returnToFree (hcond : s.audit.condition = .normal) : s.returnToFree.core = s.freed.core := by
  rw [State.returnToFree_eq hcond, core_clearReserve]
  exact congrArg (fun x : State => x.setPipe { s.pipe with nextIndex := none, reserve := false }) (core_closed s)

theorem signals_returnToFree (hcond : s.audit.condition = .normal) :
    s.returnToFree.signals = if s.pipe.reserve then (s.signals.foundMarks Ply.all).finish .voidReserve
      else s.signals.foundMarks Ply.all := by
  have hsignals : s.closed.marksOff.zonesOff.signals = s.signals.foundMarks Ply.all := signals_marksOff s.closed
  rw [State.returnToFree_eq hcond, signals_clearReserve, signals_setPipe, hsignals]
  rfl

/-! ### What follows on a row that has left -/

/-- What the Job Table and the Tracker make of a state, once a row has left the pipeline: jobs, their recovery records and the
Generator apart, it stands; or the Tracker has returned to FREE. -/
structure Aftermath (v w : State) (freed : Bool) : Prop where
  drivers : w.drivers = v.drivers
  shift : w.shift = v.shift
  monitors : w.monitors = v.monitors
  absent : w.portAbsent = v.portAbsent
  audit : w.audit = { v.audit with records := w.audit.records }
  pipe : w.pipe = if freed then { v.pipe with
    nextIndex := none
    reserve := false } else v.pipe
  epoch : w.trk.epoch = if freed then none else v.trk.epoch
  marks : w.marks = if freed then v.marks.map MarkPly.off else v.marks
  zones : w.zones = if freed then PerPly.all [] else v.zones
  schedule : ∀ y ∈ w.trk.schedule, y ∈ v.trk.schedule ∧ (freed = true → y.ev.endsAtFree = false)
  latched : ∀ c, c ≠ .changeover → w.signals.latched c = v.signals.latched c
  held : ∀ c, w.signals.held c = (v.signals.held c &&
    !(freed && (Ply.all.any (fun p => decide (.markLost p = c)) || decide (.voidReserve = c) && v.pipe.reserve)))
  pending : ∀ q a, a ≠ .changeover → a ≠ .jobEnd → w.signals.pending q a = v.signals.pending q a

variable {v w x : State}

theorem Aftermath.refl (v : State) : Aftermath v v false where
  drivers := rfl
  shift := rfl
  monitors := rfl
  absent := rfl
  audit := rfl
  pipe := rfl
  epoch := rfl
  marks := rfl
  zones := rfl
  schedule := fun _ hy => ⟨hy, fun h => nomatch h⟩
  latched := fun _ _ => rfl
  held := by simp
  pending := fun _ _ _ _ => rfl

/-- The Tracker returns to FREE at most once on the way. -/
theorem Aftermath.trans {f g : Bool} (h : Aftermath v w f) (k : Aftermath w x g) (hone : (f && g) = false) :
    Aftermath v x (f || g) where
  drivers := k.drivers.trans h.drivers
  shift := k.shift.trans h.shift
  monitors := k.monitors.trans h.monitors
  absent := k.absent.trans h.absent
  audit := by rw [k.audit, h.audit]
  pipe := by
    rw [k.pipe, h.pipe]
    cases f <;> cases g <;> rfl
  epoch := by
    rw [k.epoch, h.epoch]
    cases f <;> cases g <;> rfl
  marks := by
    rw [k.marks, h.marks]
    cases f <;> cases g <;> rfl
  zones := by
    rw [k.zones, h.zones]
    cases f <;> cases g <;> rfl
  schedule := fun y hy => by
    obtain ⟨hyw, hg⟩ := k.schedule y hy
    obtain ⟨hyv, hf⟩ := h.schedule y hyw
    refine ⟨hyv, fun hfg => ?_⟩
    cases f with
    | true => exact hf rfl
    | false => exact hg hfg
  latched := fun c hc => (k.latched c hc).trans (h.latched c hc)
  held := fun c => by
    rw [k.held, h.held, h.pipe]
    cases f with
    | false => simp
    | true =>
      obtain rfl : g = false := hone
      simp
  pending := fun q a hc hj => (k.pending q a hc hj).trans (h.pending q a hc hj)

theorem Later.aftermath (h : Later v w) : Aftermath v w false := by
  have htrk : w.trk = v.trk := (core_field State.trk (fun _ => rfl) h.rest).trans rfl
  exact {
    drivers := (core_field State.drivers (fun _ => rfl) h.rest).trans rfl
    shift := (core_field State.shift (fun _ => rfl) h.rest).trans rfl
    monitors := (core_field State.monitors (fun _ => rfl) h.rest).trans rfl
    absent := (core_field State.portAbsent (fun _ => rfl) h.rest).trans rfl
    audit := core_field State.audit (fun _ => rfl) h.rest
    pipe := (core_field State.pipe (fun _ => rfl) h.rest).trans rfl
    epoch := by rw [htrk]; rfl
    marks := (core_field State.marks (fun _ => rfl) h.rest).trans rfl
    zones := (core_field State.zones (fun _ => rfl) h.rest).trans rfl
    schedule := fun y hy => ⟨htrk ▸ hy, fun hf => nomatch hf⟩
    latched := h.latched
    held := fun c => by rw [h.held]; simp
    pending := fun q a hc _ => h.pending q a hc }

theorem State.leaving_aftermath (v : State) (j : Job) : Aftermath v (v.leaving j) false where
  drivers := rfl
  shift := rfl
  monitors := rfl
  absent := rfl
  audit := rfl
  pipe := rfl
  epoch := rfl
  marks := rfl
  zones := rfl
  schedule := fun _ hy => ⟨hy, fun h => nomatch h⟩
  latched := fun _ _ => rfl
  held := fun c => (Bool.and_true (v.signals.held c)).symm
  pending := fun _ _ _ _ => rfl

theorem State.windowsOff_aftermath (v : State) : Aftermath v v.windowsOff false where
  drivers := rfl
  shift := rfl
  monitors := rfl
  absent := rfl
  audit := rfl
  pipe := rfl
  epoch := rfl
  marks := rfl
  zones := rfl
  schedule := fun _ hy => ⟨List.mem_of_mem_filter hy, fun h => nomatch h⟩
  latched := fun _ _ => rfl
  held := fun c => (Bool.and_true (v.signals.held c)).symm
  pending := fun _ _ _ _ => rfl

/-- The Tracker returns to FREE in the state: an epoch is open, no job is RUNNING and no row is held (R7). -/
def State.goesFree (s : State) : Bool := s.trk.epoch.isSome && s.running.isNone && s.pipe.rows.isEmpty

theorem State.testFree_aftermath (hcond : v.audit.condition = .normal) : Aftermath v v.testFree v.goesFree := by
  have htest : v.testFree = if v.goesFree then v.returnToFree else v := rfl
  rw [htest]
  cases v.goesFree with
  | false => exact .refl v
  | true =>
    rw [if_pos rfl]
    have hcore := core_returnToFree hcond
    have hsignals := signals_returnToFree hcond
    generalize v.returnToFree = w at hcore hsignals
    have htrk : w.trk = v.freed.trk := core_field State.trk (fun _ => rfl) hcore
    have haudit : w.audit = v.audit := (core_field State.audit (fun _ => rfl) hcore).trans rfl
    exact {
      drivers := (core_field State.drivers (fun _ => rfl) hcore).trans rfl
      shift := (core_field State.shift (fun _ => rfl) hcore).trans rfl
      monitors := (core_field State.monitors (fun _ => rfl) hcore).trans rfl
      absent := (core_field State.portAbsent (fun _ => rfl) hcore).trans rfl
      audit := by rw [haudit]
      pipe := (core_field State.pipe (fun _ => rfl) hcore).trans rfl
      epoch := by rw [htrk]; rfl
      marks := (core_field State.marks (fun _ => rfl) hcore).trans rfl
      zones := (core_field State.zones (fun _ => rfl) hcore).trans rfl
      schedule := fun y hy => by
        rw [htrk, State.freed_schedule] at hy
        obtain ⟨hyv, hev⟩ := List.mem_filter.1 hy
        exact ⟨hyv, fun _ => by simpa using hev⟩
      latched := fun c _ => by rw [hsignals]; split <;> rfl
      held := fun c => by
        rw [hsignals]
        cases v.pipe.reserve <;> simp [Signals.foundMarks, Signals.finish, Bool.and_assoc]
      pending := fun q a _ _ => by rw [hsignals]; split <;> rfl }

end

end Sys2Proof.Machine

namespace Sys2Proof.Machine

section
variable {s v w b c : State} {j : Job} {id : Nat}

/-! ### The Tracker in FREE -/

theorem State.sync_of_no_epoch (h : s.trk.epoch = none) (p : Ply) : s.sync p = .off := by
  unfold State.sync
  rw [h]

theorem Aftermath.freed (h : Aftermath v w true) : v.Freed w := by
  refine ⟨h.epoch, by rw [h.pipe]; rfl, fun p => ⟨State.sync_of_no_epoch h.epoch p, ?_, ?_, ?_, fun y hy => ?_⟩, .inr (.inr ?_)⟩
  · rw [h.marks]
    exact PerPly.get_map _ _ _
  · refine (h.held (.markLost p)).trans ?_
    have hany : Ply.all.any (fun q => decide (StopCause.markLost q = .markLost p)) = true :=
      List.any_eq_true.2 ⟨p, p.mem_all, decide_eq_true rfl⟩
    rw [hany]
    simp
  · rw [h.zones]
    exact PerPly.get_all _ _
  · have hev := (h.schedule y hy).2 rfl
    constructor <;> rintro hy <;> rw [hy] at hev <;> cases hev
  · rw [h.pipe]
    rfl

/-! ### The test of R7 leaves the jobs -/

theorem State.testFree_eq (s : State) : s.testFree = if s.goesFree then s.returnToFree else s := rfl

theorem State.testFree_field (hcond : s.audit.condition = .normal) {α : Type} (f : State → α)
    (hf : ∀ x : State, f x.core = f x) (hfreed : f s.freed = f s) : f s.testFree = f s := by
  rw [State.testFree_eq]
  split
  · exact (core_field f hf (core_returnToFree hcond)).trans hfreed
  · rfl

theorem State.testFree_pending (hcond : s.audit.condition = .normal) : s.testFree.signals.pending = s.signals.pending := by
  rw [State.testFree_eq]
  split
  · rw [signals_returnToFree hcond]
    split <;> rfl
  · rfl

theorem State.testFree_latched (hcond : s.audit.condition = .normal) : s.testFree.signals.latched = s.signals.latched := by
  rw [State.testFree_eq]
  split
  · rw [signals_returnToFree hcond]
    split <;> rfl
  · rfl

theorem State.testFree_of_stays (h : s.goesFree = false) : s.testFree = s := by
  rw [State.testFree_eq, h]
  rfl

/-! ### A job ended -/

theorem core_raiseAt (s : State) (q : Port) (c : Attention) : (s.raiseAt q c).core = s.core := by
  obtain ⟨x, y, h⟩ := s.raiseAt_eq q c
  rw [h]
  rfl

theorem State.raiseAt_pending (s : State) (q p : Port) {c : Attention} (hc : c ≠ .stop) (a : Attention) :
    (s.raiseAt q c).signals.pending p a =
      (s.signals.pending p a || (decide (c = a) && decide (p = q) && !s.portAbsent q)) := by
  show (!decide (a = .stop) && AttentionSet.has ((s.raiseAt q c).port p).pending a) =
    ((!decide (a = .stop) && AttentionSet.has (s.port p).pending a) || _)
  rw [State.raiseAt_port]
  by_cases hp : p = q
  · subst hp
    cases hq : s.portAbsent p with
    | true => simp
    | false =>
      rw [if_pos ⟨rfl, rfl⟩, PortState.raised_has]
      by_cases ha : a = .stop
      · subst ha; simp [hc]
      · simp [ha]
  · rw [if_neg (fun h => hp h.1)]
    simp [hp]

theorem raiseAt_stop (s : State) (q : Port) (c : Attention) : (s.raiseAt q c).stop = s.stop := by
  obtain ⟨x, y, h⟩ := s.raiseAt_eq q c
  rw [h]
  rfl

/-- The state with the end record of a job formed and its recovery record removed (R134). -/
def State.concluded (s : State) (j : Job) : State := (s.formEnd j.id (j.drain.getD .complete)).removeRecord j.id

theorem State.endJob_eq (hj : s.job j.id = some j) : s.endJob j.id = (s.concluded j).raiseAt j.owner .jobEnd := by
  unfold State.endJob
  rw [hj]
  rfl

theorem State.endJob_field (hj : s.job j.id = some j) {α : Type} (f : State → α) (hf : ∀ x : State, f x.core = f x) :
    f (s.endJob j.id) = f (s.concluded j) := by
  rw [State.endJob_eq hj]
  exact core_field f hf (core_raiseAt _ _ _)

theorem State.endJob_stop (hj : s.job j.id = some j) : (s.endJob j.id).stop = s.stop := by
  rw [State.endJob_eq hj]
  exact raiseAt_stop _ _ _

theorem State.endJob_pending (hj : s.job j.id = some j) (p : Port) (a : Attention) :
    (s.endJob j.id).signals.pending p a =
      (s.signals.pending p a || (decide (.jobEnd = a) && decide (p = j.owner) && !s.portAbsent j.owner)) := by
  rw [State.endJob_eq hj]
  exact State.raiseAt_pending _ _ _ (by decide) _

theorem State.endJob_latched (hj : s.job j.id = some j) : (s.endJob j.id).signals.latched = s.signals.latched :=
  congrArg (fun u : StopUnit => StopSet.has u.latched) (State.endJob_stop hj)

theorem State.endJob_held (hj : s.job j.id = some j) : (s.endJob j.id).signals.held = s.signals.held :=
  congrArg (fun u : StopUnit => StopSet.has u.held) (State.endJob_stop hj)

theorem State.endJob_records (hj : s.job j.id = some j) :
    (s.endJob j.id).audit.records = s.audit.records.filter (fun z => decide (z.job ≠ j.id)) :=
  State.endJob_field hj (fun x => x.audit.records) fun _ => rfl

theorem State.endJob_aftermath (hj : s.job j.id = some j) : Aftermath s (s.endJob j.id) false where
  drivers := State.endJob_field hj State.drivers fun _ => rfl
  shift := State.endJob_field hj State.shift fun _ => rfl
  monitors := State.endJob_field hj State.monitors fun _ => rfl
  absent := State.endJob_field hj State.portAbsent fun _ => rfl
  audit := by rw [State.endJob_field hj State.audit fun _ => rfl]; rfl
  pipe := State.endJob_field hj State.pipe fun _ => rfl
  epoch := State.endJob_field hj (fun x => x.trk.epoch) fun _ => rfl
  marks := State.endJob_field hj State.marks fun _ => rfl
  zones := State.endJob_field hj State.zones fun _ => rfl
  schedule := fun y hy => by
    have htrk : (s.endJob j.id).trk = s.trk := State.endJob_field hj State.trk fun _ => rfl
    exact ⟨htrk ▸ hy, fun h => nomatch h⟩
  latched := fun c _ => congrFun (State.endJob_latched hj) c
  held := fun c => by rw [State.endJob_held hj]; simp
  pending := fun q a _ ha => by rw [State.endJob_pending hj]; simp [ha.symm]

theorem State.endJob_job (hj : s.job j.id = some j) :
    (s.endJob j.id).job j.id = some ((s.endJob j.id).endedAs j (j.drain.getD .complete) (j.draw.getD ⟨0, 0, 0⟩)) := by
  have hqueue : (s.endJob j.id).audit.queue = s.audit.queue := State.endJob_field hj (fun x => x.audit.queue) fun _ => rfl
  rw [State.endJob_field hj (fun x => x.job j.id) fun _ => rfl]
  unfold State.endedAs
  rw [hqueue]
  refine (find_id_map s.jobs _ (fun x => by split <;> rfl) j.id).trans ?_
  have hfind : s.jobs.find? (fun x => decide (x.id = j.id)) = some j := hj
  rw [hfind, Option.map_some, if_pos rfl]
  rfl

/-- What is found stands where a change leaves alone the elements sought. -/
theorem find_map_of_keeps {α : Type} {l : List α} {f : α → α} {p : α → Bool} (hp : ∀ x ∈ l, p (f x) = p x)
    (hf : ∀ x ∈ l, p x = true → f x = x) : (l.map f).find? p = l.find? p := by
  have hfind : l.find? (p ∘ f) = l.find? p := List.find?_congr hp
  rw [List.find?_map, hfind]
  cases h : l.find? p with
  | none => rfl
  | some x => rw [Option.map_some, hf x (List.mem_of_find?_eq_some h) (List.find?_some h)]

theorem State.endJob_job_ne (hj : s.job j.id = some j) (hid : id ≠ j.id) : (s.endJob j.id).job id = s.job id := by
  rw [State.endJob_field hj (fun x => x.job id) fun _ => rfl]
  refine find_map_of_keeps (fun x _ => ?_) fun x _ hx => ?_
  · split <;> rfl
  · have hxid : x.id = id := by simpa using hx
    exact if_neg (by rw [hxid]; exact hid)

theorem State.endJob_hasEnded (hj : s.job j.id = some j) :
    (s.endJob j.id).HasEnded j (j.drain.getD .complete) (j.draw.getD ⟨0, 0, 0⟩) := by
  refine ⟨State.endJob_job hj, fun z hz => ?_, fun habsent => ?_⟩
  · rw [State.endJob_records hj] at hz
    simpa using (List.mem_filter.1 hz).2
  · have habs : s.portAbsent j.owner = false := by rw [← habsent, (State.endJob_aftermath hj).absent]
    have hpending := State.endJob_pending hj j.owner .jobEnd
    rw [habs] at hpending
    simpa [State.signals] using hpending

/-- A job that is not RUNNING ends: what job is RUNNING stands (R125). -/
theorem State.endJob_running (hjobs : JobsOk s.jobs) (hj : s.job j.id = some j) (hstate : j.state ≠ .running) :
    (s.endJob j.id).running = s.running := by
  rw [State.endJob_field hj State.running fun _ => rfl]
  have hmem : ∀ x ∈ s.jobs, x.id = j.id → x.state ≠ .running := fun x hx hid => by
    have hx' : s.job x.id = some x := hjobs.find_id hx
    rw [hid, hj] at hx'
    cases hx'
    exact hstate
  refine find_map_of_keeps (fun x hx => ?_) fun x hx hrun => ?_
  · by_cases hid : x.id = j.id
    · simp [hid, hmem x hx hid]
    · simp [hid]
  · exact if_neg fun hid => hmem x hx hid (by simpa using hrun)

end

end Sys2Proof.Machine

namespace Sys2Proof.Machine

section
variable {s v w b c : State} {j n : Job}

/-! ### The follow-on test of a job that leaves RUNNING -/

theorem State.leaving_jobsOk (hjobs : JobsOk v.jobs) : JobsOk (v.leaving j).jobs :=
  hjobs.map_leaving _ (fun x => by split <;> rfl) fun x hx => by
    split at hx
    · cases hx
    · exact hx

/-- Which job is LOADED longest stands while the RUNNING one leaves. -/
theorem State.leaving_oldestLoaded_eq (hjobs : JobsOk v.jobs) (hrun : v.running = some j) :
    (v.leaving j).oldestLoaded = v.oldestLoaded := by
  have hid : ∀ x ∈ v.jobs, x.state = .loaded → x.id ≠ j.id := fun x hx hst hid => by
    have hx' : v.job x.id = some x := hjobs.find_id hx
    rw [hid, State.job_of_running hjobs hrun] at hx'
    cases hx'
    exact absurd ((State.running_mem hrun).2.symm.trans hst) (by decide)
  refine find_map_of_keeps (fun x hx => ?_) fun x hx hst => if_neg (hid x hx (by simpa using hst))
  by_cases hst : x.state = .loaded
  · rw [if_neg (hid x hx hst)]
  · split <;> simp [hst]

/-- The follow-on test that the job leaving RUNNING brings about (R130, R131). -/
theorem State.followOn_leaving (hjobs : JobsOk v.jobs) (hcond : v.audit.condition = .normal) (hrun : v.running = some j) :
    (v.leaving j).followOn j.plan = match v.oldestLoaded with
      | none => v.leaving j
      | some n => if n.follow then
          if n.plan.sameGeometry j.plan && decide (v.audit.records.length < recordCapacity) then (v.leaving j).startRunning n
          else (v.leaving j).changeover
        else v.leaving j := by
  unfold State.followOn
  rw [if_pos ⟨hcond, State.leaving_running hjobs hrun⟩, State.leaving_oldestLoaded_eq hjobs hrun]
  rfl

theorem State.follower_eq (s : State) (j : Job) :
    s.follower j = match s.oldestLoaded with
      | none => none
      | some n => if n.follow && (n.plan.sameGeometry j.plan && decide (s.audit.records.length < recordCapacity)) then some n
        else none := by
  have hcapacity : (s.audit.records.length < 4) = (s.audit.records.length < recordCapacity) := rfl
  unfold State.follower
  cases s.oldestLoaded with
  | none => rfl
  | some n => exact if_congr (by simp [Plan.sameGeometry, hcapacity, and_assoc]) rfl rfl

/-- The job that starts is the one RUNNING (R125). -/
theorem State.startRunning_running (hjobs : JobsOk s.jobs) (hnone : s.running = none) (hn : s.oldestLoaded = some n) :
    (s.startRunning n).running = some { n with state := .running } := by
  have hidle : ∀ x ∈ s.jobs, x.state ≠ .running := fun x hx => by simpa using (List.find?_eq_none.1 hnone) x hx
  have hfind : s.jobs.find? (fun x => decide (x.id = n.id)) = some n := hjobs.find_id (List.mem_of_find?_eq_some hn)
  refine (List.find?_map ..).trans ?_
  rw [show s.jobs.find? ((fun x => decide (x.state = .running)) ∘
      fun x => if x.id = n.id then { x with state := .running } else x) = some n from ?_, Option.map_some, if_pos rfl]
  refine (List.find?_congr fun x hx => ?_).trans hfind
  by_cases hid : x.id = n.id
  · simp [hid]
  · simp [hid, hidle x hx]

/-- The follow-on test starts a job where none is RUNNING (R125). -/
theorem State.followOn_jobsOk (hjobs : JobsOk s.jobs) (hnone : s.running = none) (plan : Plan) :
    JobsOk (s.followOn plan).jobs := by
  have hidle : ∀ x ∈ s.jobs, x.state ≠ .running := fun x hx => by simpa using (List.find?_eq_none.1 hnone) x hx
  have hchangeover : s.changeover.jobs = s.jobs := core_field State.jobs (fun _ => rfl) (by simp [State.changeover])
  unfold State.followOn
  split
  · split
    · exact hjobs
    · split
      · split
        · exact hjobs.start _ hidle
        · rw [hchangeover]
          exact hjobs
      · exact hjobs
  · exact hjobs

/-- In `b` the job that stood as `j`, RUNNING in `v`, has left RUNNING, COMPLETE, and the follow-on test is made, and the test of
R7; it has not ended. -/
structure Departed (v b : State) (j : Job) (freed : Bool) : Prop where
  job : b.job j.id = some { j with
    draw := some (v.handedValues j)
    state := .draining
    drain := some .complete }
  jobsOk : JobsOk b.jobs
  follower : match v.follower j with
    | some n => b.running = some { n with state := .running } ∧
      b.gen = { v.gen with
        phase := .sequence
        r := 0
        listCount := 0
        complete := false
        feed := if j.plan.source = .list then [] else v.gen.feed } ∧
      b.audit.records = v.audit.records ++ [RecoveryRecord.forJob n]
    | none => b.running = none ∧ b.gen = { v.gen with feed := if j.plan.source = .list then [] else v.gen.feed } ∧
      b.audit.records = v.audit.records ∧
      ∀ n, v.oldestLoaded = some n → b.job n.id = some n ∧
        (n.follow = true → b.signals.latched .changeover = true ∧
          ∀ p, v.portAbsent p = false → b.signals.pending p .changeover = true)
  after : Aftermath v b freed

theorem State.followOn_departed (hjobs : JobsOk v.jobs) (hcond : v.audit.condition = .normal) (hrun : v.running = some j) :
    Departed v ((v.leaving j).followOn j.plan) j false := by
  have hlater := (v.leaving j).followOn_later j.plan
  have hok := State.leaving_jobsOk (j := j) hjobs
  have hidle := State.leaving_running hjobs hrun
  have hold := State.leaving_oldestLoaded_eq hjobs hrun
  have hjob := (hlater.job j.id fun n hn => State.leaving_oldestLoaded hn).trans (State.leaving_job hjobs hrun)
  have hafter := (v.leaving_aftermath j).trans hlater.aftermath rfl
  have hstays : ∀ n, v.oldestLoaded = some n → (v.leaving j).job n.id = some n := fun n hn => by
    rw [← hold] at hn
    exact hok.find_id (List.mem_of_find?_eq_some hn)
  refine ⟨hjob, State.followOn_jobsOk hok hidle _, ?_, hafter⟩
  rw [State.follower_eq, State.followOn_leaving hjobs hcond hrun]
  cases hn : v.oldestLoaded with
  | none => exact ⟨hidle, rfl, rfl, fun n h => nomatch h⟩
  | some n =>
    dsimp only
    cases hf : n.follow with
    | false =>
      refine ⟨hidle, rfl, rfl, fun m hm => ?_⟩
      obtain rfl : n = m := Option.some.inj hm
      exact ⟨hstays n hn, fun h => by rw [hf] at h; cases h⟩
    | true =>
      cases hg : n.plan.sameGeometry j.plan && decide (v.audit.records.length < recordCapacity) with
      | true => exact ⟨State.startRunning_running hok hidle (hold.trans hn), rfl, rfl⟩
      | false =>
        have hcore : (v.leaving j).changeover.core = (v.leaving j).core := by simp [State.changeover]
        have hsignals : (v.leaving j).changeover.signals =
            ((v.leaving j).signals.raise v.portAbsent .changeover).latch .changeover := by
          unfold State.changeover
          rw [signals_latchEvent, signals_raiseBoth _ (by decide)]
          rfl
        have hrecords : (v.leaving j).changeover.audit.records = v.audit.records :=
          (core_field (fun x => x.audit.records) (fun _ => rfl) hcore).trans rfl
        refine ⟨(core_field State.running (fun _ => rfl) hcore).trans hidle, core_field State.gen (fun _ => rfl) hcore,
          hrecords, fun m hm => ?_⟩
        obtain rfl : n = m := Option.some.inj hm
        refine ⟨(core_field (fun x => x.job n.id) (fun _ => rfl) hcore).trans (hstays n hn), fun _ => ⟨?_, fun p hp => ?_⟩⟩
        · show ((v.leaving j).changeover.signals).latched .changeover = true
          rw [hsignals]
          simp [Signals.latch]
        · show ((v.leaving j).changeover.signals).pending p .changeover = true
          rw [hsignals]
          simp [Signals.latch, Signals.raise, hp]

theorem Departed.of_same {f g : Bool} (h : Departed v b j f) (hjobs : c.jobs = b.jobs) (hgen : c.gen = b.gen)
    (hrecords : c.audit.records = b.audit.records) (hlatched : c.signals.latched = b.signals.latched)
    (hpending : c.signals.pending = b.signals.pending) (hafter : Aftermath v c g) : Departed v c j g := by
  obtain ⟨hjob, hok, hfollower, -⟩ := h
  have hjob' : ∀ id, c.job id = b.job id := fun id => by unfold State.job; rw [hjobs]
  have hrunning : c.running = b.running := by unfold State.running; rw [hjobs]
  refine ⟨by rw [hjob']; exact hjob, by rw [hjobs]; exact hok, ?_, hafter⟩
  rw [hrunning, hgen, hrecords, hlatched, hpending]
  simp only [hjob']
  exact hfollower

/-- The Tracker, its epoch and rows as in `v`, returns to FREE with the jobs of `b` (R7). -/
def State.freedBy (v b : State) : Bool := v.trk.epoch.isSome && b.running.isNone && v.pipe.rows.isEmpty

theorem Departed.testFree (h : Departed v c j false) (hcond : v.audit.condition = .normal) :
    Departed v c.windowsOff.testFree j (v.freedBy c) := by
  have hcond' : c.windowsOff.audit.condition = .normal := by
    show c.audit.condition = _
    rw [h.after.audit]
    exact hcond
  have hgoes : c.windowsOff.goesFree = v.freedBy c := by
    unfold State.goesFree State.freedBy
    show (c.trk.epoch.isSome && c.running.isNone && c.pipe.rows.isEmpty) = _
    rw [h.after.epoch, h.after.pipe]
    rfl
  have hfield : ∀ {α : Type} (f : State → α), (∀ x : State, f x.core = f x) → f c.windowsOff.freed = f c.windowsOff →
      f c.windowsOff.testFree = f c.windowsOff := State.testFree_field hcond'
  refine h.of_same (hfield State.jobs (fun _ => rfl) rfl) (hfield State.gen (fun _ => rfl) rfl)
    (hfield (fun x => x.audit.records) (fun _ => rfl) rfl) (State.testFree_latched hcond') (State.testFree_pending hcond') ?_
  have hfree := State.testFree_aftermath hcond'
  rw [hgoes] at hfree
  have hafter := (h.after.trans c.windowsOff_aftermath rfl).trans hfree rfl
  exact hafter

/-- The RUNNING job has left RUNNING; the follow-on test is made, and where no job runs any more every window end is withdrawn and
the test of R7 made (R130, R131, R133). -/
theorem State.afterRunning_departed (hjobs : JobsOk v.jobs) (hcond : v.audit.condition = .normal) (hrun : v.running = some j) :
    let b := (v.leaving j).afterRunning j.plan
    Departed v b j (v.freedBy b) ∧ (b.running = none → ∀ y ∈ b.trk.schedule, ∀ p, y.ev ≠ .windowEnd p) := by
  intro b
  have hc := State.followOn_departed hjobs hcond hrun
  obtain ⟨c, hcdef⟩ : ∃ c, c = (v.leaving j).followOn j.plan := ⟨_, rfl⟩
  have hb : b = if c.running.isNone then c.windowsOff.testFree else c := by rw [hcdef]; rfl
  rw [← hcdef] at hc
  rw [hb]
  cases hrunning : c.running with
  | some n =>
    have hstays : v.freedBy c = false := by simp [State.freedBy, hrunning]
    simp only [Option.isNone_some, Bool.false_eq_true, if_false]
    exact ⟨hstays.symm ▸ hc, fun h => by rw [hrunning] at h; cases h⟩
  | none =>
    have hdeparted := hc.testFree hcond
    have hcond' : c.windowsOff.audit.condition = .normal := by
      show c.audit.condition = _
      rw [hc.after.audit]
      exact hcond
    have hsame : c.windowsOff.testFree.running = c.running :=
      (State.testFree_field hcond' State.running (fun _ => rfl) rfl).trans rfl
    have hfreed : v.freedBy c.windowsOff.testFree = v.freedBy c := by unfold State.freedBy; rw [hsame]
    simp only [Option.isNone_none, if_true]
    refine ⟨hfreed.symm ▸ hdeparted, fun _ y hy p hev => ?_⟩
    have hmem := ((State.testFree_aftermath hcond').schedule y hy).1
    have hoff := (List.mem_filter.1 hmem).2
    rw [hev] at hoff
    cases hoff

end

end Sys2Proof.Machine

namespace Sys2Proof.Machine

section
variable {s v w b c : State} {j x : Job}

/-! ### The job that leaves RUNNING ends where no row of it is held -/

theorem Aftermath.jobHasRow {f : Bool} (h : Aftermath v w f) (id : Nat) : w.jobHasRow id = v.jobHasRow id := by
  unfold State.jobHasRow
  rw [h.pipe]
  cases f <;> rfl

theorem Aftermath.goesFree (h : Aftermath v w (v.freedBy w)) : w.goesFree = false := by
  have hrows : w.pipe.rows = v.pipe.rows := by rw [h.pipe]; split <;> rfl
  unfold State.goesFree
  rw [h.epoch, hrows]
  cases hfreed : v.freedBy w with
  | true => rfl
  | false => exact hfreed

/-- In `w` a DRAINING job, whose record is `x`, has ended from `b` where no row of it is held; else nothing has changed (R134). -/
structure Concluded (b w : State) (x : Job) : Prop where
  outcome : if b.jobHasRow x.id = true then w.job x.id = some x else w.HasEnded x (x.drain.getD .complete) (x.draw.getD ⟨0, 0, 0⟩)
  running : w.running = b.running
  gen : w.gen = b.gen
  records : w.audit.records = b.audit.records.filter (fun z => b.jobHasRow x.id || decide (z.job ≠ x.id))
  job : ∀ id, id ≠ x.id → w.job id = b.job id
  latched : w.signals.latched = b.signals.latched
  pending : ∀ p a, b.signals.pending p a = true → w.signals.pending p a = true
  schedule : w.trk.schedule = b.trk.schedule
  after : Aftermath b w false

theorem State.concluded_of_draining (hjobs : JobsOk b.jobs) (hx : b.job x.id = some x) (hstate : x.state = .draining) :
    Concluded b (if b.jobHasRow x.id then b else b.endJob x.id) x := by
  cases hrow : b.jobHasRow x.id with
  | true =>
    exact {
      outcome := by rw [hrow]; exact hx
      running := rfl
      gen := rfl
      records := by rw [hrow]; simp
      job := fun _ _ => rfl
      latched := rfl
      pending := fun _ _ h => h
      schedule := rfl
      after := .refl b }
  | false =>
    exact {
      outcome := by rw [hrow]; exact State.endJob_hasEnded hx
      running := State.endJob_running hjobs hx (by rw [hstate]; decide)
      gen := State.endJob_field hx State.gen fun _ => rfl
      records := by rw [hrow]; exact State.endJob_records hx
      job := fun _ hid => State.endJob_job_ne hx hid
      latched := State.endJob_latched hx
      pending := fun p a h => by
        show (b.endJob x.id).signals.pending p a = true
        rw [State.endJob_pending hx, h, Bool.true_or]
      schedule := State.endJob_field hx (fun y => y.trk.schedule) fun _ => rfl
      after := State.endJob_aftermath hx }

/-- A job whose end is settled has no last row to report (R90). -/
theorem Concluded.reportLastRow (h : Concluded b w x) : w.reportLastRow x.id = w := by
  have houtcome := h.outcome
  unfold State.reportLastRow
  rw [h.after.jobHasRow]
  cases hrow : b.jobHasRow x.id with
  | true => split <;> simp
  | false =>
    rw [hrow] at houtcome
    obtain ⟨hended, -⟩ := houtcome
    rw [hended]
    exact if_neg (fun hstate => nomatch hstate.1)

/-- The record of the RUNNING job as it leaves RUNNING, COMPLETE (R54, R133). -/
def State.drainedAs (v : State) (j : Job) : Job :=
  { j with
    draw := some (v.handedValues j)
    state := .draining
    drain := some .complete }

theorem Signals.pending_has {p : Port} {a : Attention} (ha : a ≠ .stop) :
    s.signals.pending p a = AttentionSet.has (s.port p).pending a := by
  simp [State.signals, ha]

theorem Departed.leftRunning (hjobs : JobsOk v.jobs) (hrun : v.running = some j) (h : Departed v b j (v.freedBy b))
    (hwindows : b.running = none → ∀ y ∈ b.trk.schedule, ∀ p, y.ev ≠ .windowEnd p) (k : Concluded b w (v.drainedAs j)) :
    v.LeftRunning w j .complete := by
  have hrow : b.jobHasRow j.id = w.jobHasRow j.id := (k.after.jobHasRow _).symm
  have hafter : Aftermath v w (v.freedBy b) := by simpa using h.after.trans k.after (by simp)
  have hrows : w.pipe.rows = v.pipe.rows := by rw [hafter.pipe]; split <;> rfl
  have hrecords : w.audit.records = b.audit.records.filter (fun z => w.jobHasRow j.id || decide (z.job ≠ j.id)) := by
    rw [k.records, ← hrow]
    rfl
  refine ⟨?_, ?_, ?_⟩
  · have houtcome := k.outcome
    rw [show b.jobHasRow (v.drainedAs j).id = w.jobHasRow j.id from hrow] at houtcome
    exact houtcome
  · have hfollower := h.follower
    cases hf : v.follower j with
    | some n =>
      rw [hf] at hfollower
      obtain ⟨hrunning, hgen, hrec⟩ := hfollower
      exact ⟨k.running.trans hrunning, k.gen.trans hgen, by rw [hrecords, hrec]⟩
    | none =>
      rw [hf] at hfollower
      obtain ⟨hrunning, hgen, hrec, hloaded⟩ := hfollower
      refine ⟨k.running.trans hrunning, k.gen.trans hgen, by rw [hrecords, hrec], ?_, fun n hn => ?_⟩
      · rw [k.schedule]
        exact hwindows hrunning
      · obtain ⟨hjob, hchangeover⟩ := hloaded n hn
        have hid : n.id ≠ j.id := State.leaving_oldestLoaded (s := v) (by rw [State.leaving_oldestLoaded_eq hjobs hrun, hn])
        refine ⟨(k.job n.id hid).trans hjob, fun hfollow => ?_⟩
        obtain ⟨hlatched, hpending⟩ := hchangeover hfollow
        refine ⟨(congrFun k.latched _).trans hlatched, fun p hp => ?_⟩
        rw [← Signals.pending_has (by decide)]
        exact k.pending p _ (hpending p hp)
  · have hfreed : (v.trk.epoch ≠ none ∧ w.running = none ∧ w.pipe.rows = []) ↔ v.freedBy b = true := by
      rw [hrows, k.running]
      simp [State.freedBy, Option.isSome_iff_ne_none, and_assoc]
    rw [if_congr hfreed rfl rfl]
    cases hf : v.freedBy b with
    | true =>
      rw [hf] at hafter
      exact hafter.freed
    | false =>
      rw [hf] at hafter
      exact ⟨hafter.epoch, hafter.marks, hafter.zones⟩

/-- The RUNNING job drains COMPLETE: what has become of it, and nothing more to report (R132 to R134, R7). -/
theorem State.drainJob_leftRunning (hjobs : JobsOk v.jobs) (hcond : v.audit.condition = .normal) (hrun : v.running = some j)
    (hw : w = v.drainJob j.id .complete) :
    v.LeftRunning w j .complete ∧ Aftermath v w (v.freedBy w) ∧ w.reportLastRow j.id = w ∧ w.testFree = w := by
  obtain ⟨hb, hwindows⟩ := State.afterRunning_departed hjobs hcond hrun
  rw [State.drainJob_of_running hjobs hrun] at hw
  generalize (v.leaving j).afterRunning j.plan = b at hb hwindows hw
  have hk : Concluded b w (v.drainedAs j) := hw ▸ State.concluded_of_draining (x := v.drainedAs j) hb.jobsOk hb.job rfl
  have hfreed : v.freedBy b = v.freedBy w := by unfold State.freedBy; rw [hk.running]
  have hafter : Aftermath v w (v.freedBy w) := by
    rw [← hfreed]
    simpa using hb.after.trans hk.after (by simp)
  exact ⟨hb.leftRunning hjobs hrun hwindows hk, hafter, hk.reportLastRow, State.testFree_of_stays hafter.goesFree⟩

end

end Sys2Proof.Machine

namespace Sys2Proof.Machine

section
variable {s t u v w : State} {j : Job} {reason : EndReason} {d : DrawValues}

/-! ### What a start of sending, and the state before, leave of these claims -/

theorem startSending_pending (t : State) (p : Port) : (t.startSending.port p).pending = (t.port p).pending := by
  rw [State.startSending_port, PortState.started_pending]

theorem State.HasEnded.startSending (h : t.HasEnded j reason d) : t.startSending.HasEnded j reason d := by
  obtain ⟨hjob, hrecords, hpending⟩ := h
  exact ⟨hjob, hrecords, fun habsent => by rw [startSending_pending]; exact hpending habsent⟩

theorem State.LeftRunning.startSending (h : v.LeftRunning t j reason) : v.LeftRunning t.startSending j reason := by
  obtain ⟨houtcome, hfollower, hfree⟩ := h
  refine ⟨?_, ?_, hfree⟩
  · rw [show t.startSending.jobHasRow j.id = t.jobHasRow j.id from rfl]
    cases hrow : t.jobHasRow j.id with
    | true =>
      rw [hrow] at houtcome
      exact houtcome
    | false =>
      rw [hrow] at houtcome
      exact State.HasEnded.startSending houtcome
  · cases hf : v.follower j with
    | some n =>
      rw [hf] at hfollower
      exact hfollower
    | none =>
      rw [hf] at hfollower
      obtain ⟨hrunning, hgen, hrecords, hwindows, hloaded⟩ := hfollower
      refine ⟨hrunning, hgen, hrecords, hwindows, fun n hn => ?_⟩
      obtain ⟨hjob, hchangeover⟩ := hloaded n hn
      refine ⟨hjob, fun hfollow => ?_⟩
      obtain ⟨hlatched, hpending⟩ := hchangeover hfollow
      exact ⟨hlatched, fun p hp => by rw [startSending_pending]; exact hpending p hp⟩

/-- Of the state before, the claim that a job has left RUNNING reads a few fields. -/
theorem State.LeftRunning.of_source (h : v.LeftRunning t j reason) (hgen : u.gen = v.gen) (hjobs : u.jobs = v.jobs)
    (hrecords : u.audit.records = v.audit.records) (habsent : u.portAbsent = v.portAbsent)
    (hepoch : u.trk.epoch = v.trk.epoch) (hmarks : u.marks = v.marks) (hzones : u.zones = v.zones) :
    u.LeftRunning t j reason := by
  have hloaded : u.oldestLoaded = v.oldestLoaded := by unfold State.oldestLoaded; rw [hjobs]
  have hfollower : u.follower j = v.follower j := by unfold State.follower; rw [hloaded, hrecords]
  have hfreed : u.Freed t = v.Freed t := by unfold State.Freed; rw [hmarks]
  unfold State.LeftRunning
  rw [hgen, hfollower, hrecords, hloaded, habsent, hepoch, hfreed, hmarks, hzones]
  exact h

/-! ### What the Job Table and the Tracker make of a row that has left (R84, R90, R132, R134, R7) -/

/-- The job drains: it is RUNNING, its draw is complete, and it has no lane in flight and, if it is STRICT, no WAITING entry
(R132). -/
def State.spent (v : State) (j : Job) : Bool :=
  decide (j.state = .running) && v.gen.complete && decide (v.jobInFlight j.id = 0) &&
    (!j.strict || !v.audit.queue.any (fun e => e.isWaiting j.id))

/-- The job ends: it is DRAINING and no row of it is held (R134). -/
def State.lastLeft (v : State) (j : Job) : Bool := decide (j.state = .draining) && !v.jobHasRow j.id

theorem AuditStore.waiting_eq_zero (a : AuditStore) (id : Nat) : decide (a.waiting id = 0) = !a.queue.any (fun e => e.isWaiting id) := by
  rw [Bool.eq_iff_iff]
  simp [AuditStore.waiting, List.filter_eq_nil_iff]

theorem State.reportInFlight_eq (hcond : v.audit.condition = .normal) (hj : v.job j.id = some j) :
    v.reportInFlight j.id = if v.spent j then v.drainJob j.id .complete else v := by
  have hdrain : v.drainCondition j = (v.gen.complete &&
      (!j.strict || !v.audit.queue.any (fun e => e.isWaiting j.id) && decide (v.jobInFlight j.id = 0))) := by
    unfold State.drainCondition Job.strict
    rw [AuditStore.waiting_eq_zero]
    cases j.plan.accounting <;> rfl
  unfold State.reportInFlight State.testDrain
  rw [hj]
  simp only [hcond, hdrain, true_and]
  unfold State.spent
  by_cases hflight : v.jobInFlight j.id = 0
  · by_cases hstate : j.state = .running <;> simp [hflight, hstate]
  · simp [hflight]

theorem State.reportLastRow_eq (hj : v.job j.id = some j) :
    v.reportLastRow j.id = if v.lastLeft j then v.endJob j.id else v := by
  unfold State.reportLastRow State.lastLeft
  rw [hj]
  simp

/-- In `t` the Job Table and the Tracker have done what follows on a row of job `j` that has left in `v`. -/
structure Reported (v t : State) (j : Job) : Prop where
  after : Aftermath v t (v.freedBy t)
  spent : v.spent j = true → v.LeftRunning t j .complete
  gen : v.spent j = false → t.gen = v.gen
  running : v.spent j = false → t.running = v.running
  job : v.spent j = false → ∀ id, id ≠ j.id → t.job id = v.job id
  last : v.spent j = false → v.lastLeft j = true → t.HasEnded j (j.drain.getD .complete) (j.draw.getD ⟨0, 0, 0⟩) ∧
    t.audit.records = v.audit.records.filter (fun z => decide (z.job ≠ j.id))
  stays : v.spent j = false → v.lastLeft j = false → t.jobs = v.jobs ∧ t.audit.records = v.audit.records
  stop : v.spent j = false → v.freedBy t = false → t.stop = v.stop

theorem State.spent_running (h : v.spent j = true) : j.state = .running := by
  simp only [State.spent, Bool.and_eq_true, decide_eq_true_eq] at h
  exact h.1.1.1

/-- The job drains. -/
theorem State.reported_of_spent (hjobs : JobsOk v.jobs) (hcond : v.audit.condition = .normal) (hrun : v.running = some j)
    (hspent : v.spent j = true) : Reported v (v.drainJob j.id .complete) j := by
  obtain ⟨hleft, hafter, -⟩ := State.drainJob_leftRunning hjobs hcond hrun rfl
  have hno : v.spent j ≠ false := by rw [hspent]; decide
  exact ⟨hafter, fun _ => hleft, fun h => absurd h hno, fun h => absurd h hno, fun h => absurd h hno, fun h => absurd h hno,
    fun h => absurd h hno, fun h => absurd h hno⟩

/-- The Tracker stays as it is, and so does the job: nothing follows. -/
theorem State.reported_of_stays (hspent : v.spent j = false) (hlast : v.lastLeft j = false) (hstays : v.goesFree = false) :
    Reported v v j := by
  have hafter : Aftermath v v (v.freedBy v) := by
    rw [show v.freedBy v = false from hstays]
    exact .refl v
  have hno : v.spent j ≠ true := by rw [hspent]; decide
  have hno' : v.lastLeft j ≠ true := by rw [hlast]; decide
  exact ⟨hafter, fun h => absurd h hno, fun _ => rfl, fun _ => rfl, fun _ _ _ => rfl, fun _ h => absurd h hno',
    fun _ _ => ⟨rfl, rfl⟩, fun _ _ => rfl⟩

/-- The DRAINING job ends, and the Tracker may return to FREE. -/
theorem State.reported_of_last (hjobs : JobsOk v.jobs) (hcond : v.audit.condition = .normal) (hj : v.job j.id = some j)
    (hspent : v.spent j = false) (hlast : v.lastLeft j = true) : Reported v (v.endJob j.id).testFree j := by
  have hended := State.endJob_hasEnded hj
  have hafter := State.endJob_aftermath hj
  have hrunning := State.endJob_running hjobs hj (by
    simp only [State.lastLeft, Bool.and_eq_true, decide_eq_true_eq] at hlast
    rw [hlast.1]
    decide)
  have hjob := fun id => State.endJob_job_ne (id := id) hj
  have hgen : (v.endJob j.id).gen = v.gen := State.endJob_field hj State.gen fun _ => rfl
  have hrecords := State.endJob_records hj
  have hstop := State.endJob_stop hj
  generalize v.endJob j.id = e at hended hafter hrunning hjob hgen hrecords hstop
  have hcond' : e.audit.condition = .normal := by rw [hafter.audit]; exact hcond
  have hfield : ∀ {α : Type} (f : State → α), (∀ x : State, f x.core = f x) → f e.freed = f e → f e.testFree = f e :=
    State.testFree_field hcond'
  have haudit : e.testFree.audit = e.audit := hfield State.audit (fun _ => rfl) rfl
  have hrun : e.testFree.running = e.running := hfield State.running (fun _ => rfl) rfl
  have hgoes : e.goesFree = v.freedBy e.testFree := by
    unfold State.goesFree State.freedBy
    rw [hrun, hafter.epoch, hafter.pipe]
    rfl
  have htest := State.testFree_aftermath hcond'
  rw [hgoes] at htest
  have hno : v.spent j ≠ true := by rw [hspent]; decide
  have hno' : v.lastLeft j ≠ false := by rw [hlast]; decide
  refine ⟨by simpa using hafter.trans htest rfl, fun h => absurd h hno, fun _ => (hfield State.gen (fun _ => rfl) rfl).trans hgen,
    fun _ => hrun.trans hrunning, fun _ id hid => (hfield (fun x => x.job id) (fun _ => rfl) rfl).trans (hjob id hid),
    fun _ _ => ⟨?_, by rw [haudit]; exact hrecords⟩, fun _ h => absurd h hno', fun _ h => ?_⟩
  · obtain ⟨hself, hnone, hpending⟩ := hended
    refine ⟨?_, by rw [haudit]; exact hnone, fun habsent => ?_⟩
    · rw [hfield (fun x => x.job j.id) (fun _ => rfl) rfl]
      unfold State.endedAs at hself ⊢
      rw [haudit]
      exact hself
    · rw [hfield State.portAbsent (fun _ => rfl) rfl] at habsent
      rw [← Signals.pending_has (by decide), State.testFree_pending hcond', Signals.pending_has (by decide)]
      exact hpending habsent
  · rw [← hgoes] at h
    rw [State.testFree_of_stays h, hstop]

/-- The reports of a row that has left, and the test of R7. -/
theorem State.reports_reported (hjobs : JobsOk v.jobs) (hcond : v.audit.condition = .normal) (hj : v.job j.id = some j)
    (hstate : j.state = .running ∨ j.state = .draining) :
    Reported v ((v.reportInFlight j.id).reportLastRow j.id).testFree j := by
  have hmem : j ∈ v.jobs := List.mem_of_find?_eq_some hj
  have hrun : j.state = .running → v.running = some j := fun hs => by
    cases hr : v.running with
    | none => exact absurd hs (by simpa using List.find?_eq_none.1 hr j hmem)
    | some x =>
      obtain ⟨hx, hxs⟩ := State.running_mem hr
      rw [hjobs.running_unique hx hmem hxs hs]
  rw [State.reportInFlight_eq hcond hj]
  cases hspent : v.spent j with
  | true =>
    have hrunning := hrun (State.spent_running hspent)
    obtain ⟨-, -, hreport, htest⟩ := State.drainJob_leftRunning hjobs hcond hrunning rfl
    rw [if_pos rfl, hreport, htest]
    exact State.reported_of_spent hjobs hcond hrunning hspent
  | false =>
    rw [if_neg (by decide), State.reportLastRow_eq hj]
    cases hlast : v.lastLeft j with
    | true =>
      rw [if_pos rfl]
      exact State.reported_of_last hjobs hcond hj hspent hlast
    | false =>
      have hstays : v.goesFree = false := by
        rcases hstate with hs | hs
        · simp [State.goesFree, hrun hs]
        · have hrow : v.jobHasRow j.id = true := by simpa [State.lastLeft, hs] using hlast
          have hrows : v.pipe.rows ≠ [] := fun hnil => by simp [State.jobHasRow, hnil] at hrow
          simp [State.goesFree, hrows]
      rw [if_neg (by decide), State.testFree_of_stays hstays]
      exact State.reported_of_stays hspent hlast hstays

end

end Sys2Proof.Machine

namespace Sys2Proof.Machine

section
variable {s t v : State} {r : Row} {j : Job} {y : Scheduled} {k : Nat} {room : Bool}

/-! ### Delivery (R85, R88) -/

/-- The row of an index made MARKED if it is held and was not yet; the delivery position stands, and is no part of the work (R85). -/
theorem State.ensureMarked_marks (hr : s.row k = some r) (hmem : y ∈ s.trk.schedule) (hy : y.ev = .delivery k) :
    (∃ x, (s.ensureMarked k).row k = some x ∧ x.stage = .marked) ∧
    (s.ensureMarked k).entries (.delivery k) = s.entries (.delivery k) ∧
    (s.withoutEntry y).ensureMarked k = (s.ensureMarked k).withoutEntry y := by
  obtain rfl := State.row_k hr
  have hpulse : ∀ l, y.ev ≠ .pulseEnd l := fun l => by rw [hy]; simp
  have hends : ∀ l, PosEvent.pulseEnd l ≠ .delivery r.k := fun l => by simp
  cases hstage : r.stage with
  | opened =>
    have hentries : (s.mergeWork r).entries (.delivery r.k) = s.entries (.delivery r.k) := entries_mergeWork fun _ => by simp
    rw [State.ensureMarked_opened hr hstage, State.ensureMarked_opened (s := s.withoutEntry y) hr hstage,
      State.mergeWork_withoutEntry]
    refine ⟨⟨_, State.row_markerWork (r := r.judged (s.policyOf r.job)) (State.row_mergeWork hr), rfl⟩,
      (entries_pulses hends _ _ _).trans hentries, State.markerWork_withoutEntry hpulse ?_ _⟩
    exact mem_of_entries (hy ▸ hentries) hmem
  | merged =>
    rw [State.ensureMarked_merged hr hstage, State.ensureMarked_merged (s := s.withoutEntry y) hr hstage]
    exact ⟨⟨_, State.row_markerWork hr, rfl⟩, entries_pulses hends _ _ _, State.markerWork_withoutEntry hpulse hmem _⟩
  | marked =>
    rw [State.ensureMarked_past hr hstage, State.ensureMarked_past (s := s.withoutEntry y) hr hstage]
    exact ⟨⟨r, hr, hstage⟩, rfl, rfl⟩

/-- Row k retired if it is MARKED (R88). -/
def State.retireMarked (s : State) (k : Nat) : State :=
  match s.row k with
  | some r => if r.stage = .marked then s.retire r else s
  | none => s

theorem State.fireDelivery_due (h : s.trk.dueEntry (.delivery k) = some y) :
    s.fireDelivery k = ((s.withoutEntry y).ensureMarked k).retireMarked k := State.fire_due h _

theorem State.fireDelivery_marked (h : s.trk.dueEntry (.delivery k) = some y) (hr : s.row k = some r)
    (hmarked : r.stage = .marked) : s.fireDelivery k = (s.withoutEntry y).retire r := by
  have hrow : (s.withoutEntry y).row k = some r := hr
  rw [State.fireDelivery_due h, State.ensureMarked_past hrow hmarked, State.retireMarked, hrow]
  exact if_pos hmarked

/-- A delivery does first what merge and marker work the row still needs (R85). -/
theorem State.fireDelivery_ensureMarked (h : s.trk.dueEntry (.delivery k) = some y) (hr : s.row k = some r) :
    s.fireDelivery k = (s.ensureMarked k).fireDelivery k := by
  have hev := Tracker.dueEntry_ev h
  obtain ⟨⟨x, hx, hmarked⟩, hentries, hwithout⟩ :=
    State.ensureMarked_marks hr (List.mem_of_find?_eq_some h) hev
  have hdue : (s.ensureMarked k).trk.dueEntry (.delivery k) = some y := (State.dueEntry_of_entries hentries).trans h
  have hrow : ((s.ensureMarked k).withoutEntry y).row k = some x := hx
  rw [State.fireDelivery_due h, State.fireDelivery_due hdue, hwithout, State.ensureMarked_past hrow hmarked]

/-- The marker position of a row taken at H, with no frame begun: the merge and marker work that the row still needs (R85). -/
theorem State.ensureMarked_of_marker {w : State} (hbusy : ∀ p, s.PortBusy p)
    (h : exec (.marker k) (s.setTrk { s.trk with schedule := ⟨s.trk.h, .marker k⟩ :: s.trk.schedule }) = .next w) :
    w = s.ensureMarked k := by
  have hdue := s.dueEntry_at_h (.marker k)
  have hwithout := s.withoutEntry_at_h (.marker k)
  obtain ⟨x, hx⟩ : ∃ x, x = s.setTrk { s.trk with schedule := ⟨s.trk.h, .marker k⟩ :: s.trk.schedule } := ⟨_, rfl⟩
  have hbusy' : ∀ p, x.PortBusy p := by rw [hx]; exact hbusy
  rw [← hx] at h hdue hwithout
  have hfire : w = (x.fireMarker k).startSending := (Host.Outcome.next.inj h).symm
  have hidle : (x.fireMarker k).startSending = x.fireMarker k :=
    State.startSending_of_busy (State.fireEvent_busy (ev := .marker k) hbusy')
  rw [hfire, hidle, State.fireMarker_due hdue, hwithout]

/-! ### A row that has left, and what follows, together -/

theorem RowLeft.field (h : RowLeft s v r j room) {α : Type} (f : State → α) (hf : ∀ x : State, f x.core = f x) :
    f v = f ((((((s.setJobs v.jobs).setShift v.shift).setAudit v.audit).setMonitors v.monitors).setPipe v.pipe).setTrk
      { s.trk with schedule := v.trk.schedule }) := core_field f hf h.rest

theorem RowLeft.gen (h : RowLeft s v r j room) : v.gen = s.gen := h.field State.gen fun _ => rfl
theorem RowLeft.drivers (h : RowLeft s v r j room) : v.drivers = s.drivers := h.field State.drivers fun _ => rfl
theorem RowLeft.absent (h : RowLeft s v r j room) : v.portAbsent = s.portAbsent := h.field State.portAbsent fun _ => rfl
theorem RowLeft.marks (h : RowLeft s v r j room) : v.marks = s.marks := h.field State.marks fun _ => rfl
theorem RowLeft.zones (h : RowLeft s v r j room) : v.zones = s.zones := h.field State.zones fun _ => rfl
theorem RowLeft.epoch (h : RowLeft s v r j room) : v.trk.epoch = s.trk.epoch := h.field (fun x => x.trk.epoch) fun _ => rfl

theorem Row.counted_id (r : Row) (void : Nat) (z : Job) : (r.counted void z).id = z.id := by
  unfold Row.counted
  split <;> rfl

theorem RowLeft.jobsOk (h : RowLeft s v r j room) (hjobs : JobsOk s.jobs) : JobsOk v.jobs := by
  rw [h.jobs]
  exact hjobs.map _ (r.counted_id _) (r.counted_state _)

theorem RowLeft.running (h : RowLeft s v r j room) : v.running.map Job.id = s.running.map Job.id := by
  have hrunning : v.running = s.running.map (r.counted (s.recordsOf r j).length) := by
    unfold State.running
    rw [h.jobs]
    exact find_state_map s.jobs _ (r.counted_state _) .running
  rw [hrunning, Option.map_map]
  exact congrArg (fun f => s.running.map f) (funext (r.counted_id _))

/-- The record of the row's job once the row has left. -/
def State.tallied (s : State) (r : Row) (j : Job) : Job :=
  { j with tallies := r.tallied (s.recordsOf r j).length j.tallies }

theorem State.job_id {id : Nat} (h : s.job id = some j) : j.id = id := by simpa using List.find?_some h

theorem State.counted_eq_tallied (hj : s.job r.job = some j) : r.counted (s.recordsOf r j).length j = s.tallied r j :=
  if_pos (State.job_id hj)

theorem RowLeft.job (h : RowLeft s v r j room) (hj : s.job r.job = some j) :
    v.job (s.tallied r j).id = some (s.tallied r j) := by
  have hid : (s.tallied r j).id = r.job := (State.job_id hj : j.id = r.job)
  have hfind : s.jobs.find? (fun z => decide (z.id = r.job)) = some j := hj
  unfold State.job
  rw [hid, h.jobs, find_id_map _ _ (r.counted_id _), hfind, Option.map_some, State.counted_eq_tallied hj]

/-- The Job Table once the row has left: the record of the row's job alone is changed (R88, R124). -/
theorem RowLeft.jobs_eq (h : RowLeft s v r j room) (hjobs : JobsOk s.jobs) (hj : s.job r.job = some j) :
    v.jobs = s.jobs.map (fun z => if z.id = r.job then s.tallied r j else z) := by
  rw [h.jobs]
  refine List.map_congr_left fun z hz => ?_
  by_cases hid : z.id = r.job
  · have hzj : z = j := by
      have hfind : s.job z.id = some z := hjobs.find_id hz
      rw [hid, hj] at hfind
      exact (Option.some.inj hfind).symm
    rw [if_pos hid, hzj, State.counted_eq_tallied hj]
  · rw [if_neg hid]
    exact if_neg hid

/-- The row's stop causes: just those of the monitors that alarm with stop enable (R165). -/
theorem any_monitor (f : Mon → Bool) (i : Mon) : Mon.all.any (fun m => f m && decide (StopCause.monitor m = .monitor i)) = f i := by
  rw [Bool.eq_iff_iff, List.any_eq_true]
  constructor
  · rintro ⟨m, -, hm⟩
    obtain ⟨hf, hmi⟩ := Bool.and_eq_true_iff.1 hm
    obtain rfl : m = i := StopCause.monitor.inj (of_decide_eq_true hmi)
    exact hf
  · exact fun hf => ⟨i, Mon.mem_all i, by simp [hf]⟩

theorem RowLeft.monitor_latched (h : RowLeft s v r j room) (i : Mon) :
    v.signals.latched (.monitor i) = (s.signals.latched (.monitor i) || (s.alarms r i && (s.monitors.get i).stopEnable)) := by
  rw [h.latched, any_monitor (fun m => s.alarms r m && (s.monitors.get m).stopEnable)]

/-- The monitors' and the make-up queue's attentions, and no other (R151, R165). -/
theorem RowLeft.attentions (h : RowLeft s v r j room) {q : Port} (hq : s.portAbsent q = false) :
    v.signals.pending q .monitor = (s.signals.pending q .monitor || Mon.all.any (s.alarms r)) ∧
    v.signals.pending q .makeUp = (s.signals.pending q .makeUp || (s.recordsOf r j).any VoidRecord.notQueued) := by
  rw [h.pending, h.pending, hq]
  simp

/-- The pipeline once the row has left and the Tracker has returned to FREE or not (R7, R76, R79). -/
theorem Reported.pipe {T : Job} (h : Reported v t T) (hleft : RowLeft s v r j room) {ep : Epoch} (hep : s.trk.epoch = some ep) :
    t.pipe = { s.pipe with
      rows := s.others r
      nextIndex := if t.trk.epoch = none then none else s.pipe.nextIndex
      reserve := s.pipe.reserve && t.trk.epoch.isSome && !(decide (0 < r.numbered) && room) } := by
  rw [h.after.pipe, h.after.epoch, hleft.epoch, hep, hleft.pipe]
  cases v.freedBy t <;> simp

theorem Reported.epoch {T : Job} (h : Reported v t T) (hleft : RowLeft s v r j room) {ep : Epoch} (hep : s.trk.epoch = some ep) :
    t.trk.epoch = if t.running = none ∧ s.others r = [] then none else some ep := by
  have hfreed : v.freedBy t = true ↔ t.running = none ∧ s.others r = [] := by
    unfold State.freedBy
    rw [hleft.epoch, hep, hleft.pipe]
    simp
  rw [h.after.epoch, if_congr hfreed rfl rfl, hleft.epoch, hep]

theorem Reported.freed_of_epoch {T : Job} (h : Reported v t T) (hleft : RowLeft s v r j room) {ep : Epoch}
    (hep : s.trk.epoch = some ep) : v.freedBy t = true ↔ t.trk.epoch = none := by
  rw [h.after.epoch, hleft.epoch, hep]
  cases v.freedBy t <;> simp

theorem Reported.freed {T : Job} (h : Reported v t T) (hleft : RowLeft s v r j room) {ep : Epoch}
    (hep : s.trk.epoch = some ep) (hnone : t.trk.epoch = none) : s.Freed t := by
  have hafter := h.after
  rw [(h.freed_of_epoch hleft hep).2 hnone] at hafter
  have hfreed := hafter.freed
  unfold State.Freed at hfreed ⊢
  rw [hleft.marks] at hfreed
  exact hfreed

/-- A reserve condition that has ended is not held (R79, R166). -/
theorem Reported.reserve_held {T : Job} (h : Reported v t T) (hleft : RowLeft s v r j room) (hset : s.pipe.reserve = true)
    (hended : t.pipe.reserve = false) : t.signals.held .voidReserve = false := by
  rw [h.after.held, hleft.held, hset]
  rw [h.after.pipe] at hended
  cases hv : v.pipe.reserve with
  | false => simp
  | true =>
    cases hfreed : v.freedBy t with
    | false =>
      rw [hfreed] at hended
      exact absurd (hv.symm.trans hended) (by decide)
    | true => simp

/-- Nothing is latched and no level ends where no monitor alarms, no job drains and the reserve condition stands. -/
theorem Reported.quiet {T : Job} (h : Reported v t T) (hleft : RowLeft s v r j room) {ep : Epoch} (hep : s.trk.epoch = some ep)
    (halarms : ∀ i, s.alarms r i = false) (hspent : v.spent T = false) (hopen : t.trk.epoch = some ep)
    (hreserve : t.pipe.reserve = s.pipe.reserve) : t.stop = s.stop ∧ t.marks = s.marks ∧ t.zones = s.zones := by
  have hfreed : v.freedBy t = false := by
    cases hf : v.freedBy t with
    | false => rfl
    | true =>
      rw [(h.freed_of_epoch hleft hep).1 hf] at hopen
      cases hopen
  have hafter := h.after
  rw [hfreed] at hafter
  have hpipe : t.pipe = v.pipe := hafter.pipe
  refine ⟨(h.stop hspent hfreed).trans (hleft.stop halarms ?_), (hafter.marks).trans hleft.marks, (hafter.zones).trans hleft.zones⟩
  rw [← hpipe]
  exact hreserve

end

end Sys2Proof.Machine

namespace Sys2Proof.Machine

section
variable {s t v : State} {r : Row} {j : Job} {y : Scheduled} {k : Nat} {room : Bool}

/-- The sequences of a row's void records follow one another (R146). -/
theorem State.recordsOf_sequence (s : State) (r : Row) (j : Job) (i : Nat) (x : VoidRecord) :
    (s.recordsOf r j)[i]? = some x → x.sequence = (match i with
      | 0 => s.audit.nextSequence
      | i + 1 => (match (s.recordsOf r j)[i]? with
        | some w => if w.sequence = 2 ^ 32 - 1 then 1 else w.sequence + 1
        | none => 0)) := by
  have hsequence := Row.voidRecords_sequence r j.owner j.strict s.trk.h r.lanes s.audit.nextSequence s.audit.queue 1
  intro hx
  cases i with
  | zero => exact hsequence 0 x hx
  | succ i =>
    obtain ⟨hlt, -⟩ := List.getElem?_eq_some_iff.1 hx
    have hprev : (s.recordsOf r j)[i]? = some (s.recordsOf r j)[i] := List.getElem?_eq_getElem (Nat.lt_of_succ_lt hlt)
    rw [hsequence (i + 1) x hx, Function.iterate_succ_apply', ← hsequence i _ hprev]
    dsimp only
    rw [hprev]
    rfl

/-- A delivery that is due: the row has left, and the Job Table and the Tracker have done what follows (R88, R90). -/
theorem State.fireDelivery_reported (hdue : s.trk.dueEntry (.delivery k) = some y) (hr : s.row k = some r)
    (hmarked : r.stage = .marked) (hjobs : JobsOk s.jobs) (hj : s.job r.job = some j)
    (hstate : j.state = .running ∨ j.state = .draining) (hcond : s.audit.condition = .normal) :
    ∃ v, RowLeft (s.withoutEntry y) v r j (s.roomLeft r j) ∧ JobsOk v.jobs ∧
      Reported v (s.fireDelivery k) (s.tallied r j) := by
  have hleft : RowLeft (s.withoutEntry y) ((s.withoutEntry y).left r) r j (s.roomLeft r j) := State.left_left hcond hj
  have hid : ((s.withoutEntry y).tallied r j).id = r.job := (State.job_id hj : j.id = r.job)
  have hcond' : ((s.withoutEntry y).left r).audit.condition = .normal := by rw [hleft.audit]; exact hcond
  have hreported := State.reports_reported (hleft.jobsOk hjobs) hcond' (hleft.job hj) hstate
  rw [hid, ← State.retire_eq, ← State.fireDelivery_marked hdue hr hmarked] at hreported
  exact ⟨_, hleft, hleft.jobsOk hjobs, hreported⟩

/-- The row's job does not drain: the Generator and the other jobs stand, and the job too, unless it ends (R134). -/
theorem Reported.kept (h : Reported v t (s.tallied r j)) (hleft : RowLeft s v r j room) (hok : JobsOk v.jobs)
    (hid : j.id = r.job) (hspent : v.spent (s.tallied r j) = false) :
    t.gen = s.gen ∧ t.running.map Job.id = s.running.map Job.id ∧
      (∀ z ∈ v.jobs, z.id ≠ r.job → t.job z.id = some z) ∧
      (v.lastLeft (s.tallied r j) = true →
        t.startSending.HasEnded (s.tallied r j) (j.drain.getD .complete) (j.draw.getD ⟨0, 0, 0⟩) ∧
        t.audit.records = v.audit.records.filter (fun z => decide (z.job ≠ r.job))) ∧
      (v.lastLeft (s.tallied r j) = false → t.jobs = v.jobs ∧ t.audit.records = v.audit.records) := by
  refine ⟨(h.gen hspent).trans hleft.gen, by rw [h.running hspent]; exact hleft.running, fun z hz hzid => ?_, fun hlast => ?_,
    h.stays hspent⟩
  · rw [h.job hspent z.id fun hz => hzid (hz.trans hid)]
    exact hok.find_id hz
  · obtain ⟨hended, hrecords⟩ := h.last hspent hlast
    rw [← hid]
    exact ⟨hended.startSending, hrecords⟩

end

/-- Settles O36: the row is disposed of, sampled and dropped (`RowLeft`), and what follows in the Job Table and the Tracker is one of
three (`Reported`): the RUNNING job drains, the DRAINING job ends, or nothing changes. -/
theorem deliveryRetiresTheRow : Obligations.DeliveryRetiresTheRow := by
  intro s k
  refine ⟨fun hdue => congrArg finish (State.fire_none hdue _), fun y r w hdue hr _ hbusy hw => ?_, ?_⟩
  · rw [State.ensureMarked_of_marker hbusy hw]
    exact congrArg finish (State.fireDelivery_ensureMarked hdue hr)
  · intro y r j ep hdue hr hmarked hjobs hj hstate hep hcond hcons strict queueAt voids good blank up alarmed tallied others u spent
      last fits
    obtain rfl := State.row_k hr
    obtain ⟨v, hleft, hok, hreported⟩ := State.fireDelivery_reported hdue hr hmarked hjobs hj hstate hcond
    have hid : (s.tallied r j).id = r.job := (State.job_id hj : j.id = r.job)
    have hexec : exec (.delivery r.k) s = .next (s.fireDelivery r.k).startSending := rfl
    generalize s.fireDelivery r.k = t at hreported hexec
    have hvoids : (s.recordsOf r j).map VoidRecord.ofLane = voids := r.voidRecords_ofLane _ _ _ _ _
    have hlength : voids.length = (s.recordsOf r j).length := by rw [← hvoids, List.length_map]
    have htallied : s.tallied r j = tallied := by
      unfold State.tallied Row.tallied
      rw [← hlength]
      rfl
    have hujobs : v.jobs = u.jobs := by
      rw [hleft.jobs_eq hjobs hj]
      show s.jobs.map (fun z => if z.id = r.job then s.tallied r j else z) = _
      rw [htallied]
      rfl
    have hurecords : v.audit.records = u.audit.records := by
      rw [hleft.audit]
      show s.audit.records.map (r.recorded (s.recordsOf r j).length) = _
      rw [← hlength]
      rfl
    have huqueue : v.audit.queue = u.audit.queue := by
      rw [hleft.audit]
      rfl
    have hfits : s.roomLeft r j = fits := by
      unfold State.roomLeft
      rw [← hlength]
      rfl
    have hspent : v.spent (s.tallied r j) = spent := by
      unfold State.spent State.jobInFlight
      rw [hleft.gen, hleft.pipe, huqueue, hid]
      rfl
    have hlast : v.lastLeft (s.tallied r j) = last := by
      unfold State.lastLeft State.jobHasRow
      rw [hleft.pipe, hid]
      rfl
    have htrecs : t.audit.inFlight = s.audit.inFlight ++ s.recordsOf r j := by
      rw [hreported.after.audit, hleft.audit]
      rfl
    have hshift : t.shift = { s.shift with
        rows := satAdd s.shift.rows 1
        good := up good s.shift.good
        void := up voids.length s.shift.void
        blank := up blank s.shift.blank } := by
      rw [hreported.after.shift, hleft.shift, hlength]
      rfl
    have hpipe := hreported.pipe hleft (ep := ep) hep
    rw [hfits] at hpipe
    refine ⟨t.startSending, s.recordsOf r j, hexec, htrecs, hvoids, fun x hx => Row.voidRecords_mem _ _ _ _ _ _ _ _ x hx,
      s.recordsOf_sequence r j, ?_, ?_, ?_, hshift, fun i => ?_, fun i => ?_, fun q hq => ?_, hreported.epoch hleft hep,
      fun h => hreported.freed (s := s.withoutEntry y) hleft hep h, hpipe,
      fun hset hended => hreported.reserve_held (s := s.withoutEntry y) hleft hset hended, fun h => ?_, fun h => ?_,
      fun halarms h hopen hreserve => ?_⟩
    · rw [show t.startSending.audit = t.audit from rfl, hreported.after.audit, hleft.audit]
      rfl
    · rw [show t.startSending.audit = t.audit from rfl, hreported.after.audit]
      exact huqueue
    · exact hreported.after.drivers.trans hleft.drivers
    · rw [show t.startSending.monitors = t.monitors from rfl, hreported.after.monitors]
      exact hleft.monitors i
    · exact (hreported.after.latched (.monitor i) (by simp)).trans (hleft.monitor_latched i)
    · obtain ⟨hmonitor, hmakeUp⟩ := hleft.attentions (q := q) hq
      have hpending := fun a => hreported.after.pending q a
      rw [startSending_pending, ← Signals.pending_has (by decide), ← Signals.pending_has (by decide),
        ← Signals.pending_has (by decide), ← Signals.pending_has (by decide), hpending _ (by decide) (by decide),
        hpending _ (by decide) (by decide)]
      exact ⟨hmonitor, hmakeUp⟩
    · have hspentLeft := (hreported.spent (hspent.trans h)).startSending
      rw [← htallied]
      exact hspentLeft.of_source hleft.gen.symm hujobs.symm hurecords.symm hleft.absent.symm hleft.epoch.symm hleft.marks.symm
        hleft.zones.symm
    · rw [← htallied, ← hujobs, ← hurecords, ← hlast]
      exact hreported.kept (s := s.withoutEntry y) hleft hok hid (hspent.trans h)
    · exact hreported.quiet (s := s.withoutEntry y) hleft hep halarms (hspent.trans h) hopen hreserve

end Sys2Proof.Machine

namespace Sys2Proof.Machine

/-! ## Invariants that every move keeps -/

/-- A property that every move keeps, that a change of the Tracker alone keeps, and that a power-up keeps, is kept by every
step: each command is a run of moves, but for the Tracker's own move at an encoder count and the power-up. -/
theorem keptByStep_of_moves {inv : State → Prop} (hqueue : ∀ s rest, inv s → inv (s.setPending rest))
    (hmove : ∀ s t, Move true s t → inv s → inv t) (htrk : ∀ s x, inv s → inv (s.setTrk x))
    (hpower : ∀ s st, inv s → inv (s.powerUp st)) : KeptByStep inv := by
  have hcourse : ∀ {s t}, Course s t → inv s → inv t := fun h =>
    h.induct (P := fun a b => inv a → inv b) (fun _ => id) (fun _ _ _ h k hs => k (h hs)) hmove
  refine keptByStep_of_exec hqueue fun i s t h hs => ?_
  by_cases hi : Outside i
  · cases i with
    | powerUp st => exact hcourse ((Course.refl (s.powerUp st)).finished h) (hpower s st hs)
    | forwardCount => exact hcourse (exec_forward s t h) (htrk _ _ (hcourse (s.caughtUp_turn _).course hs))
    | reverseCount => exact hcourse (exec_reverse s t h) (htrk _ _ (hcourse (s.caughtUp_turn _).course hs))
    | _ => exact hi.elim
  · exact hcourse (exec_course i s t hi h) hs

/-! ## Orders, zone lists and trends (R32, R42, R100, R104) -/

theorem Move.keeps_ordersOk {io : Bool} {s t : State} (h : Move io s t) (hs : ∀ d, (s.drivers.get d).OrdersOk) :
    ∀ d, (t.drivers.get d).OrdersOk := by
  cases h with
  | drivers x hx => exact fun d => hx d (hs d)
  | port p x _ _ => cases p <;> exact hs
  | _ => exact hs

theorem Move.keeps_zonesBounded {io : Bool} {s t : State} (h : Move io s t) (hs : ZonesBounded s.zones) :
    ZonesBounded t.zones := by
  cases h with
  | zones x hx => exact hx hs
  | port p x _ _ => cases p <;> exact hs
  | _ => exact hs

theorem Move.keeps_trendsBounded {io : Bool} {s t : State} (h : Move io s t) (hs : TrendsBounded s.marks s.plies) :
    TrendsBounded t.marks t.plies := by
  cases h with
  | ply x y hx => exact fun p => hx p (hs p)
  | port p x _ _ => cases p <;> exact hs
  | _ => exact hs

/-- Settles O43: every move keeps the three bounds, and a power-up gives the drivers, zones and marks their reset values. -/
theorem ordersZonesAndTrendsStayBounded : Obligations.OrdersZonesAndTrendsStayBounded := by
  obtain ⟨-, -, horders, hzones, htrends, -⟩ := resetMeetsTheInvariants
  exact ⟨keptByStep_of_moves (fun _ _ => id) (fun _ _ => Move.keeps_ordersOk) (fun _ _ => id) (fun _ _ _ => horders),
    keptByStep_of_moves (fun _ _ => id) (fun _ _ => Move.keeps_zonesBounded) (fun _ _ => id) (fun _ _ _ => hzones),
    keptByStep_of_moves (fun _ _ => id) (fun _ _ => Move.keeps_trendsBounded) (fun _ _ => id) (fun _ _ _ => htrends)⟩

end Sys2Proof.Machine

namespace Sys2Proof.Machine

/-! ## The IMPRINT order: its tag and its lanes (R103, R104) -/

/-- The tag given lies `passed` values past the next tag, each value passed over being held by an order (R104). -/
theorem freeTag_passes (orders : List Order) (n : Nat) (t : Byte) : ∃ passed ≤ n,
    freeTag orders n t = t + BitVec.ofNat 8 passed ∧ ∀ i < passed, t + BitVec.ofNat 8 i ∈ orders.map Order.tag := by
  induction n generalizing t with
  | zero => exact ⟨0, le_rfl, by simp [freeTag], fun _ hi => absurd hi (Nat.not_lt_zero _)⟩
  | succ n ih =>
    by_cases hfree : tagFree orders t = true
    · exact ⟨0, Nat.zero_le _, by simp [freeTag, hfree], fun _ hi => absurd hi (Nat.not_lt_zero _)⟩
    · have hnext : ∀ i, t + 1 + BitVec.ofNat 8 i = t + BitVec.ofNat 8 (i + 1) := fun i => by bv_omega
      obtain ⟨passed, hle, htag, hheld⟩ := ih (t + 1)
      refine ⟨passed + 1, Nat.succ_le_succ hle, ?_, fun i hi => ?_⟩
      · rw [freeTag, if_neg hfree, htag, hnext]
      · cases i with
        | zero => simpa using mt (tagFree_iff orders t).2 hfree
        | succ i =>
          rw [← hnext]
          exact hheld i (Nat.lt_of_succ_lt_succ hi)

/-- Values that differ and are all held by orders are no more than the orders. -/
theorem passed_le_length {orders : List Order} {t : Byte} {passed : Nat} (hlt : passed ≤ 256)
    (hheld : ∀ i < passed, t + BitVec.ofNat 8 i ∈ orders.map Order.tag) : passed ≤ orders.length := by
  have hnodup : ((List.range passed).map (fun i => t + BitVec.ofNat 8 i)).Nodup := by
    refine List.Nodup.map_on (fun i hi j hj hij => ?_) List.nodup_range
    rw [List.mem_range] at hi hj
    bv_omega
  have hsub : (List.range passed).map (fun i => t + BitVec.ofNat 8 i) ⊆ orders.map Order.tag := by
    intro u hu
    obtain ⟨i, hi, rfl⟩ := List.mem_map.1 hu
    exact hheld i (List.mem_range.1 hi)
  simpa using (hnodup.subperm hsub).length_le

/-- The lane entries of an order, as the numbered lanes picked out in order (R103). -/
theorem laneEntries_eq (o : Orientation) (ls : List LaneRec) (n : Nat) : laneEntries o n ls =
    (ls.zipIdx n).filterMap (fun (l, no) => l.number.map (fun x => ⟨no, o.arrange x.str⟩)) := by
  induction ls generalizing n with
  | nil => rfl
  | cons l ls ih =>
    cases hl : l.number <;> simp [laneEntries, hl, ih]

/-! ## A send position taken (R82, R102) -/

theorem CauseSet.ofList_singleton (c : VoidCause) : CauseSet.ofList [c] = BitVec.twoPow 15 c.bit := BitVec.zero_or

/-- The row with an order state of ply p and a cause on every numbered lane (R82, R83). -/
def Row.notOrdered (r : Row) (p : Ply) (order : OrderState) (c : VoidCause) : Row :=
  { r with
    plies := r.plies.map (fun z => if z.ply = p then { z with order := order } else z)
    lanes := r.lanes.map (fun l =>
      if l.isNumbered then { l with causes := l.causes ||| CauseSet.ofList [c] } else l) }

theorem Row.notOrdered_eq (r : Row) (p : Ply) (order : OrderState) (c : VoidCause) :
    (r.updPly p (fun x => { x with order := order })).addCause c = r.notOrdered p order c := by
  simp only [Row.notOrdered, Row.addCause, Row.updPly, LaneRec.addCause, CauseSet.insert, CauseSet.ofList_singleton]

theorem State.updOpenRow_eq (s : State) (k : Nat) (f : Row → Row) : s.updOpenRow k f =
    s.setPipe { s.pipe with rows := s.pipe.rows.map (fun r => if r.k = k ∧ r.stage = .opened then f r else r) } := by
  simp only [State.updOpenRow, State.updRow, State.setRows, ite_and]

section
variable {s : State} {q : SendRequest}

/-- The pending request of the ply and row no longer pending. -/
def State.withoutRequest (s : State) (q : SendRequest) : State :=
  s.setRequests (s.requests.filter (fun x => !(decide (x.ply = q.ply) && decide (x.row = q.row))))

theorem State.fireSend_due {p : Ply} {k : Nat} {y : Scheduled} (hdue : s.trk.dueEntry (.send p k) = some y)
    (hfind : s.requests.find? (fun x => decide (x.ply = p) && decide (x.row = k)) = some q) :
    s.fireSend p k = (s.withoutEntry y).takeSend q := by
  have hkept : (s.withoutEntry y).requests.find? (fun x => decide (x.ply = p) && decide (x.row = k)) = some q := hfind
  unfold State.fireSend
  rw [State.fire_due hdue, hkept]

/-- A DOWN driver is sent nothing (R102). -/
theorem State.takeSend_down (h : (s.drivers.get q.ply.driver).state = .down) : s.takeSend q =
    ((s.withoutRequest q).countDriver q.ply.driver (fun c => { c with notSentDown := satAdd c.notSentDown 1 })).updOpenRow
      q.row (fun r => r.notOrdered q.ply .notSentDown .driverDown) := by
  simp only [← Row.notOrdered_eq]
  exact if_pos h

/-- A driver with four orders outstanding is sent nothing (R102). -/
theorem State.takeSend_overrun (h : (s.drivers.get q.ply.driver).state ≠ .down)
    (hfull : 4 ≤ (s.drivers.get q.ply.driver).orders.length) : s.takeSend q =
    ((s.withoutRequest q).countDriver q.ply.driver (fun c => { c with overrun := satAdd c.overrun 1 })).updOpenRow
      q.row (fun r => r.notOrdered q.ply .overrun .headOverrun) := by
  simp only [← Row.notOrdered_eq]
  exact (if_neg h).trans (if_pos hfull)

/-- The order goes out, built from the lanes of the row (R102, R103). -/
theorem State.takeSend_sent {r : Row} (h : (s.drivers.get q.ply.driver).state ≠ .down)
    (hroom : (s.drivers.get q.ply.driver).orders.length < 4) (hr : s.row q.row = some r) : s.takeSend q =
    (((s.withoutRequest q).updDriver q.ply.driver
        (fun x => x.sent (buildOrder (s.drivers.get q.ply.driver) q r.lanes))).sendHead
      (.imprint q.ply.driver (buildOrder (s.drivers.get q.ply.driver) q r.lanes))).updOpenRow q.row
      (fun r => r.updPly q.ply (fun x => { x with order := .sent })) := by
  have hlanes : (s.withoutRequest q).rowLanes q.row = r.lanes := by
    have hrow : (s.withoutRequest q).row q.row = some r := hr
    unfold State.rowLanes
    rw [hrow]
  rw [← hlanes]
  exact (if_neg h).trans (if_neg (Nat.not_le.2 hroom))

end

/-- Settles O40: the three outcomes of a send position, the order's tag and lanes written out. -/
theorem sendPositionSendsOrCounts : Obligations.SendPositionSendsOrCounts := by
  intro s p k
  refine ⟨fun hdue => congrArg finish (State.fire_none hdue _), fun y q hdue hfind => ?_⟩
  obtain ⟨rfl, rfl⟩ : q.ply = p ∧ q.row = k := by simpa using List.find?_some hfind
  have hexec : exec (.sendPosition q.ply q.row) s = finish ((s.withoutEntry y).takeSend q) :=
    congrArg finish (State.fireSend_due hdue hfind)
  intro d taken rows
  rw [hexec]
  refine ⟨fun hdown => ?_, fun hup hfull => ?_, fun hup hroom r hr => ?_⟩
  · rw [State.takeSend_down (s := s.withoutEntry y) hdown, State.updOpenRow_eq]
    rfl
  · rw [State.takeSend_overrun (s := s.withoutEntry y) hup hfull, State.updOpenRow_eq]
    rfl
  · obtain ⟨passed, hle, htag, hheld⟩ := freeTag_passes d.orders 4 d.nextTag
    have hfree := freeTag_free d.orders hroom d.nextTag
    rw [htag] at hfree
    refine ⟨passed, passed_le_length (by omega) hheld, fun o ho he => hfree (he ▸ List.mem_map_of_mem ho),
      fun i hi => List.mem_map.1 (hheld i hi), ?_⟩
    have hbuilt : buildOrder d q r.lanes =
        { tag := d.nextTag + BitVec.ofNat 8 passed, ply := q.ply, row := q.row, fire := q.fire, send := q.send
          dropClass := d.dropClass
          lanes := (r.lanes.zipIdx 1).filterMap (fun (l, no) => l.number.map (fun n =>
            ⟨no, match d.orientation with | .normal => n.str | .inverted => n.str.reverse⟩)) } := by
      rw [← htag, buildOrder, laneEntries_eq]
      rfl
    rw [State.takeSend_sent (s := s.withoutEntry y) hup hroom hr, State.updOpenRow_eq]
    have hdriver : (s.withoutEntry y).drivers.get q.ply.driver = d := rfl
    rw [hdriver, hbuilt]
    rfl

end Sys2Proof.Machine

namespace Sys2Proof

theorem Driver.ofNumber_number (d : Driver) : Driver.ofNumber d.number = some d := by cases d <;> rfl

theorem Driver.number_bounds (d : Driver) : 1 ≤ d.number ∧ d.number ≤ 3 := by cases d <;> decide

theorem Driver.ofNumber_outside {n : Nat} (h : n < 1 ∨ 3 < n) : Driver.ofNumber n = none := by
  refine List.find?_eq_none.2 fun d _ hd => ?_
  have := d.number_bounds
  simp only [decide_eq_true_eq] at hd
  omega

theorem Straps.driverInstalled_eq_false {st : Straps} {d : Driver} : st.driverInstalled d = false ↔
    ∀ p ∈ Ply.all, p.driver = d → st.installed p = false := by
  simp [Straps.driverInstalled]

end Sys2Proof

namespace Sys2Proof.Machine

/-! ## Set Driver and Read Driver (R99, R113) -/

theorem inRange_eq_false {v : Option Nat} {lo hi : Nat} :
    inRange v lo hi = false ↔ (∃ n ∈ v, n < lo) ∨ ∃ n ∈ v, hi < n := by
  cases v with
  | none => simp [inRange]
  | some n =>
    simp only [inRange, Bool.and_eq_false_iff, decide_eq_false_iff_not, not_le, Option.mem_some_iff, exists_eq_left']

/-- The range tests of Set Driver: a presence byte above 1, or a present setting outside Table 6-2 (R99). -/
theorem driverInRange_eq_false {body : List Byte} {f : DriverFields} (hf : decodeDriverFields body = f) :
    driverInRange body = false ↔ (1 < fieldAt 1 1 body ∨ 1 < fieldAt 3 1 body ∨ 1 < fieldAt 7 1 body) ∨
      (∃ n ∈ f.orientation, 1 < n) ∨ (∃ n ∈ f.lead, 4095 < n) ∨ (∃ n ∈ f.dropClass, n = 0) ∨ (∃ n ∈ f.dropClass, 3 < n) := by
  simp only [driverInRange, hf, isFlag, Bool.and_eq_false_iff, inRange_eq_false, Nat.not_lt_zero, Nat.lt_one_iff, and_false,
    exists_false, false_or, decide_eq_false_iff_not, not_le, or_assoc]

theorem decodeOrientation_of_le {n : Nat} (h : n ≤ 1) :
    decodeOrientation n = some (if n = 0 then .normal else .inverted) := by
  interval_cases n <;> rfl

/-- The present settings taken, the orientation being in its range (R99). -/
theorem DriverFields.over_eq {f : DriverFields} (h : ¬∃ n ∈ f.orientation, 1 < n) (v : DriverRec) : f.over v =
    { v with
      orientation := (match f.orientation with
        | some n => if n = 0 then .normal else .inverted
        | none => v.orientation)
      lead := f.lead.getD v.lead
      dropClass := f.dropClass.getD v.dropClass } := by
  unfold DriverFields.over
  cases ho : f.orientation with
  | none => rfl
  | some n =>
    have hle : n ≤ 1 := Nat.not_lt.1 fun hlt => h ⟨n, ho, hlt⟩
    simp only [decodeOrientation_of_le hle, Option.getD_some]

theorem State.updDriver_holding (s : State) (p : Port) (r : Request) (d : Driver) (f : DriverRec → DriverRec) :
    (s.holding p r).updDriver d f = (s.updDriver d f).holding p r := by cases p <;> rfl

section
variable {s : State} {port : Port} {body : List Byte} {d : Driver} {f : DriverFields}

theorem exec_setDriver_outside (tag : Byte) (hlen : body.length = 11) (htakes : s.Takes port .setDriver)
    (h : fieldAt 0 1 body < 1 ∨ 3 < fieldAt 0 1 body) :
    exec (.setDriver port tag body) s = .next (s.answered port 0x24 tag (.refusal .range)) := by
  refine request_taken htakes (by simp [bodyLengthOk, hlen]) (by omega) ?_ htakes.1.2.1
  rw [serve]
  simp only [serveSetDriver, Driver.ofNumber_outside h]
  rfl

/-- Set Driver of a driver's number: its tests in order, and the present settings taken (R99). -/
theorem exec_setDriver (tag : Byte) (hlen : body.length = 11) (htakes : s.Takes port .setDriver)
    (hd : fieldAt 0 1 body = d.number) (hf : decodeDriverFields body = f) :
    exec (.setDriver port tag body) s = .next (
      if s.straps.driverInstalled d = false then s.answered port 0x24 tag (.refusal .plies)
      else if driverInRange body = false then s.answered port 0x24 tag (.refusal .range)
      else if (f.orientation.isSome ∨ f.lead.isSome ∨ f.dropClass.isSome) ∧ s.trk.epoch.isSome then
        s.answered port 0x24 tag .busy
      else (s.updDriver d f.over).answered port 0x24 tag .plain) := by
  have hok : bodyLengthOk .setDriver body = true := by simp [bodyLengthOk, hlen]
  have hserve : ∀ u : State, serve .setDriver port body u =
      if u.straps.driverInstalled d = false then refuse .plies u
      else if driverInRange body = false then refuse .range u
      else if (f.orientation.isSome ∨ f.lead.isSome ∨ f.dropClass.isSome) ∧ u.trk.epoch.isSome then busyReply u
      else okReply .none (u.updDriver d f.over) := by
    intro u
    rw [serve]
    simp only [serveSetDriver, hd, Driver.ofNumber_number, hf]
  have hheld := htakes.1.2.1
  split_ifs with hinst hrange hbusy
  · refine request_taken htakes hok (by omega) ?_ hheld
    rw [hserve, State.straps_holding, if_pos hinst]
    rfl
  · refine request_taken htakes hok (by omega) ?_ hheld
    rw [hserve, State.straps_holding, if_neg hinst, if_pos hrange]
    rfl
  · refine request_taken htakes hok (by omega) ?_ hheld
    rw [hserve, State.straps_holding, State.trk_holding, if_neg hinst, if_neg hrange, if_pos hbusy]
    rfl
  · refine request_taken htakes hok (by omega) ?_ (by cases port <;> exact hheld)
    rw [hserve, State.straps_holding, State.trk_holding, if_neg hinst, if_neg hrange, if_neg hbusy,
      State.updDriver_holding]
    rfl

theorem serveReadDriver_driver (h : fieldAt 0 1 body = d.number) (s : State) :
    serveReadDriver port body s = (.okay (.driver (s.drivers.get d)), s) := by
  simp only [serveReadDriver, h, Driver.ofNumber_number]
  rfl

theorem serveReadDriver_outside (h : fieldAt 0 1 body < 1 ∨ 3 < fieldAt 0 1 body) (s : State) :
    serveReadDriver port body s = (.refusal .range, s) := by
  simp only [serveReadDriver, Driver.ofNumber_outside h]
  rfl

end

/-- Settles O50: Set Driver by its tests in order, each in the terms of the body's fields; Read Driver by its driver number. -/
theorem driverSettings : Obligations.DriverSettings := by
  intro s port tag body f
  refine ⟨fun htakes hlen => ?_, fun hready hlen => ⟨fun hout => ?_, fun d hd => ?_⟩⟩
  · intro out reply
    refine ⟨exec_setDriver_outside tag hlen htakes, fun d hd => ?_⟩
    have hexec : out = _ := exec_setDriver (f := f) tag hlen htakes hd rfl
    have hrange := driverInRange_eq_false (body := body) (f := f) rfl
    have hbusy : (f.orientation.isSome ∨ f.lead.isSome ∨ f.dropClass.isSome) ∧ s.trk.epoch.isSome ↔
        (f.orientation ≠ none ∨ f.lead ≠ none ∨ f.dropClass ≠ none) ∧ s.trk.epoch ≠ none := by
      simp only [Option.isSome_iff_ne_none]
    simp only [Straps.driverInstalled_eq_false, hrange, hbusy] at hexec
    rw [hexec]
    split_ifs with hinst hbad hheld
    · rfl
    · rfl
    · rfl
    · exact congrArg (fun v => reply (s.setDrivers (s.drivers.set d v)) .plain)
        (DriverFields.over_eq (fun horient => hbad (.inr (.inl horient))) (s.drivers.get d))
  · exact request_read hready rfl (by simp [bodyLengthOk, hlen]) (by omega)
      (by rw [serve, serveReadDriver_outside (hout.imp_left (by omega))])
  · exact request_read hready rfl (by simp [bodyLengthOk, hlen]) (by omega)
      (by rw [serve, serveReadDriver_driver hd, State.drivers_holding])

end Sys2Proof.Machine

namespace Sys2Proof.Machine

/-! ## READY notices and discards (R97, R109) -/

/-- A READY notice in a consistent Stop Unit: the orders abandoned, the end of DRIVER_DOWN reported, SYNC sent (R109). -/
theorem State.takeReady_eq {s : State} (h : s.stop.Consistent) (d : Driver) : s.takeReady d =
    ((s.setDrivers (s.drivers.set d (s.drivers.get d).restarted)).setStop
      { s.stop with held := StopSet.erase s.stop.held (.driverDown d) }).sendHead (.sync d s.trk.a s.trk.h) := by
  unfold State.takeReady
  rw [State.endLevel_of_consistent (by exact h)]
  rfl

/-- Settles O42: the end of the DOWN condition moves no line-stop output, so a READY notice is one equation of the state. -/
theorem readyNoticeAndLinkErrors : Obligations.ReadyNoticeAndLinkErrors := by
  intro s d hcons
  exact ⟨congrArg finish (State.takeReady_eq hcons d), rfl, rfl⟩

end Sys2Proof.Machine

namespace Sys2Proof

theorem Lane.ofNumber_number (l : Lane) : Lane.ofNumber l.number = some l := by cases l <;> rfl

theorem Lane.number_bounds (l : Lane) : 1 ≤ l.number ∧ l.number ≤ 4 := by cases l <;> decide

theorem Lane.ofNumber_outside {n : Nat} (h : n = 0 ∨ 4 < n) : Lane.ofNumber n = none := by
  refine List.find?_eq_none.2 fun l _ hl => ?_
  have := l.number_bounds
  simp only [decide_eq_true_eq] at hl
  omega

end Sys2Proof

namespace Sys2Proof.Machine

/-! ## Reading a result (R117) -/

/-- The reading of a well-formed result: NOREAD, or its digits. -/
def LaneRead.ofDigits : Option (List Digit) → LaneRead
  | none => .noRead
  | some ds => .digits ds

theorem readDigits_map_digit (ds : List Digit) : readDigits (ds.map .digit) = some ds := by
  induction ds with
  | nil => rfl
  | cons d ds ih => rw [List.map_cons, readDigits, ih, Option.map_some]

theorem readDigits_of_other_mem {cs : List ReadChar} (h : .other ∈ cs) : readDigits cs = none := by
  induction cs with
  | nil => simp at h
  | cons c cs ih =>
    cases c with
    | other => rfl
    | digit d =>
      have hrest : .other ∈ cs := by simpa using h
      rw [readDigits, ih hrest, Option.map_none]

theorem parseRead_noRead (l : Lane) : parseRead (.noRead l.number) = some (l, .noRead) := by
  rw [parseRead, Lane.ofNumber_number, Option.map_some]

theorem parseRead_string (l : Lane) {ds : List Digit} (hne : 1 ≤ ds.length) (hle : ds.length ≤ 16) :
    parseRead (.string l.number (ds.map .digit)) = some (l, .digits ds) := by
  have hlen : ¬((ds.map ReadChar.digit).length = 0 ∨ 16 < (ds.map ReadChar.digit).length) := by
    rw [List.length_map]
    omega
  simp only [parseRead, if_neg hlen, Lane.ofNumber_number, readDigits_map_digit]

/-- A result is malformed where neither a string nor a NOREAD of it passes the tests (R117). -/
theorem parseRead_eq_none {r : ReadReport}
    (hstring : ∀ l ds, r = .string l ds → ds.length = 0 ∨ 16 < ds.length ∨ l = 0 ∨ 4 < l ∨ .other ∈ ds)
    (hnoRead : ∀ l, r = .noRead l → l = 0 ∨ 4 < l) : parseRead r = none := by
  cases r with
  | corrupted => rfl
  | noRead lane => rw [parseRead, Lane.ofNumber_outside (hnoRead lane rfl), Option.map_none]
  | string lane chars =>
    by_cases hlen : chars.length = 0 ∨ 16 < chars.length
    · rw [parseRead, if_pos hlen]
    · have hrest : (lane = 0 ∨ 4 < lane) ∨ .other ∈ chars := by
        have := hstring lane chars rfl
        tauto
      simp only [parseRead, if_neg hlen]
      rcases hrest with hlane | hother
      · rw [Lane.ofNumber_outside hlane]
      · rw [readDigits_of_other_mem hother]
        cases Lane.ofNumber lane <;> rfl

/-! ## The expectation a result is matched to (R119) -/

section
variable {h : Pos} {l : Lane} {e : Expectation} {older younger : List Expectation}

/-- An expectation ahead, or no longer awaiting the lane, is not the one a result is matched to. -/
theorem not_due_of_ahead_or_settled {f : Expectation} (hf : isAhead f.pos h = true ∨ inLanes f.awaited l = false) :
    ¬(!isAhead f.pos h && inLanes f.awaited l) = true := by
  rcases hf with hf | hf <;> simp [hf]

theorem dueExpectation_eq_none {es : List Expectation}
    (hes : ∀ f ∈ es, isAhead f.pos h = true ∨ inLanes f.awaited l = false) : dueExpectation h l es = none :=
  List.find?_eq_none.2 fun f hf => not_due_of_ahead_or_settled (hes f hf)

theorem dueExpectation_oldest (holder : ∀ f ∈ older, isAhead f.pos h = true ∨ inLanes f.awaited l = false)
    (hpos : isAhead e.pos h = false) (hlane : inLanes e.awaited l = true) :
    dueExpectation h l (older ++ e :: younger) = some e := by
  have hnone : older.find? (fun f => !isAhead f.pos h && inLanes f.awaited l) = none := dueExpectation_eq_none holder
  simp [dueExpectation, List.find?_append, hnone, hpos, hlane]

theorem settleExpectation_append (k : Nat) (l : Lane) (es fs : List Expectation) :
    settleExpectation k l (es ++ fs) = settleExpectation k l es ++ settleExpectation k l fs := by
  simp only [settleExpectation, List.map_append, List.filter_append]

/-- Expectations of other rows, each still awaiting a lane, stand as they are. -/
theorem settleExpectation_others {k : Nat} (l : Lane) {es : List Expectation} (hrow : ∀ f ∈ es, f.row ≠ k)
    (hawaited : ∀ f ∈ es, f.awaited ≠ 0) : settleExpectation k l es = es := by
  have hmap : es.map (fun f => if f.row = k then { f with awaited := dropLane f.awaited l } else f) = es :=
    (List.map_congr_left fun f hf => if_neg (hrow f hf)).trans (List.map_id' es)
  rw [settleExpectation, hmap]
  exact List.filter_eq_self.2 fun f hf => decide_eq_true (hawaited f hf)

theorem settleExpectation_matched (e : Expectation) (l : Lane) : settleExpectation e.row l [e] =
    if dropLane e.awaited l = 0 then [] else [{ e with awaited := dropLane e.awaited l }] := by
  by_cases hleft : dropLane e.awaited l = 0#4 <;> simp [settleExpectation, hleft]

/-- One lane of the matched expectation is no longer awaited; the expectation leaves with its last one (R116, R119). -/
theorem settleExpectation_oldest (l : Lane) (hrow : ∀ f ∈ older ++ younger, f.row ≠ e.row)
    (hawaited : ∀ f ∈ older ++ younger, f.awaited ≠ 0) : settleExpectation e.row l (older ++ e :: younger) =
      older ++ (if dropLane e.awaited l = 0 then [] else [{ e with awaited := dropLane e.awaited l }]) ++ younger := by
  obtain ⟨hrowOlder, hrowYounger⟩ := List.forall_mem_append.1 hrow
  obtain ⟨hawaitedOlder, hawaitedYounger⟩ := List.forall_mem_append.1 hawaited
  rw [List.append_cons, settleExpectation_append, settleExpectation_append, settleExpectation_matched,
    settleExpectation_others l hrowOlder hawaitedOlder, settleExpectation_others l hrowYounger hawaitedYounger]

end

/-! ## Judging a result (R120) -/

theorem ReadCounts.outcome_eq (c : ReadCounts) (st : ReadState) : c.outcome st =
    { c with
      matched := if st = .matched then satAdd c.matched 1 else c.matched
      misread := if st = .misread then satAdd c.misread 1 else c.misread
      noRead := if st = .noRead then satAdd c.noRead 1 else c.noRead } := by
  cases st <;> rfl

theorem Lane.number_eq_succ_iff (l : Lane) (i : Nat) : i + 1 = l.number ↔ i = l.index := Nat.succ_inj

/-- What a row records of an outcome: the lane's read state on the ply, and for MISREAD the cause and the count. -/
theorem Row.readOutcome_eq (w : Row) (p : Ply) (l : Lane) (st : ReadState) : w.readOutcome p l st =
    { w with
      plies := w.plies.map (fun z => if z.ply = p then { z with reads := z.reads.set l st } else z)
      lanes := w.lanes.mapIdx (fun i y =>
        if st = .misread ∧ i = l.index ∧ y.isNumbered then
          { y with causes := CauseSet.insert y.causes .misread } else y)
      misreads := if st = .misread then w.misreads + 1 else w.misreads } := by
  by_cases hst : st = .misread
  · simp only [Row.readOutcome, Row.updPly, Row.addCauseAt, LaneRec.addCause, List.mem_singleton,
      Lane.number_eq_succ_iff, hst, if_true, true_and, ite_and]
  · have hlanes : w.lanes.mapIdx (fun _ y => y) = w.lanes := List.ext_getElem (by simp) (by simp)
    simp only [Row.readOutcome, Row.updPly, hst, if_false, false_and, hlanes]

theorem Row.printedAt_eq {w : Row} {l : Lane} {x : LaneRec} {n : LaneNumber} (hx : w.lanes[l.index]? = some x)
    (hn : x.number = some n) : w.printedAt l = n.str := by
  simp only [Row.printedAt, hx, hn]

/-! ## A result of an installed ply (R117 to R119) -/

@[simp] theorem State.updReader_updReader (s : State) (p : Ply) (f g : ReaderPly → ReaderPly) :
    (s.updReader p f).updReader p g = s.updReader p (fun v => g (f v)) := by
  simp [State.updReader, State.setReaders]

theorem State.countRead_countRead (s : State) (p : Ply) (f g : ReadCounts → ReadCounts) :
    (s.countRead p f).countRead p g = s.countRead p (fun c => g (f c)) := s.updReader_updReader p _ _

@[simp] theorem State.countRead_trk (s : State) (p : Ply) (f : ReadCounts → ReadCounts) : (s.countRead p f).trk = s.trk := rfl

@[simp] theorem State.countRead_row (s : State) (p : Ply) (f : ReadCounts → ReadCounts) (k : Nat) :
    (s.countRead p f).row k = s.row k := rfl

@[simp] theorem State.countRead_expectations (s : State) (p : Ply) (f : ReadCounts → ReadCounts) :
    ((s.countRead p f).readers.get p).expectations = (s.readers.get p).expectations := by
  simp [State.countRead, State.updReader]

section
variable {s : State} {p : Ply} {r : ReadReport} {l : Lane} {reading : LaneRead}

theorem State.takeRead_uninstalled (h : s.straps.installed p = false) : s.takeRead p r = s := by
  simp only [State.takeRead, h, Bool.false_eq_true, if_false]

theorem State.takeRead_malformed (h : s.straps.installed p = true) (hparse : parseRead r = none) :
    s.takeRead p r = s.countRead p (fun c => { c with readErrors := satAdd c.readErrors 1 }) := by
  simp only [State.takeRead, h, if_true, hparse]

theorem State.takeRead_retravel (h : s.straps.installed p = true) (hparse : parseRead r = some (l, reading))
    (hback : s.trk.retravel = true) : s.takeRead p r =
      s.countRead p (fun c => { c with results := satAdd c.results 1, retravel := satAdd c.retravel 1 }) := by
  simp only [State.takeRead, h, hparse, State.countRead_trk, hback, if_true, State.countRead_countRead]

theorem State.takeRead_stray (h : s.straps.installed p = true) (hparse : parseRead r = some (l, reading))
    (hback : s.trk.retravel = false) (hdue : dueExpectation s.trk.h l (s.readers.get p).expectations = none) :
    s.takeRead p r =
      (s.countRead p (fun c => { c with results := satAdd c.results 1, stray := satAdd c.stray 1 })).setShift
        { s.shift with readsStray := satAdd s.shift.readsStray 1 } := by
  simp only [State.takeRead, h, hparse, State.countRead_trk, hback, Bool.false_eq_true, if_true, if_false,
    State.countRead_expectations, hdue, State.strayRead, State.countRead_countRead]
  rfl

variable {e : Expectation} {w : Row} {x : LaneRec} {n : LaneNumber} {st : ReadState}

/-- A matched result: the expectation settled, the outcome counted, and recorded on the row while it is OPEN. -/
theorem State.takeRead_matched (h : s.straps.installed p = true) (hparse : parseRead r = some (l, reading))
    (hback : s.trk.retravel = false) (hdue : dueExpectation s.trk.h l (s.readers.get p).expectations = some e)
    (hrow : s.row e.row = some w) (hx : w.lanes[l.index]? = some x) (hn : x.number = some n)
    (hst : judgeRead (s.drivers.get p.driver).orientation n.str reading = st) : s.takeRead p r =
      (s.updReader p (fun v =>
        { expectations := settleExpectation e.row l v.expectations
          counts := { v.counts with results := satAdd v.counts.results 1 }.outcome st })).updOpenRow e.row
        (fun w => w.readOutcome p l st) := by
  simp only [State.takeRead, h, hparse, State.countRead_trk, hback, Bool.false_eq_true, if_true, if_false,
    State.countRead_expectations, hdue, State.matchRead, State.countRead_row, hrow, Row.printedAt_eq hx hn]
  rw [State.countRead, State.updReader_updReader, ← hst]
  rfl

end

/-- Settles O44: the cases of `takeRead`, each in the terms of the result as it arrived. -/
theorem readResultsAreSortedAndJudged : Obligations.ReadResultsAreSortedAndJudged := by
  intro s p r v out counted
  refine ⟨fun hout => congrArg finish (State.takeRead_uninstalled hout), fun hin => ⟨fun hstring hnoRead =>
    congrArg finish (State.takeRead_malformed hin (parseRead_eq_none hstring hnoRead)), fun l ds hr => ?_⟩⟩
  have hparse : parseRead r = some (l, LaneRead.ofDigits ds) := by
    cases ds with
    | none => exact hr ▸ parseRead_noRead l
    | some ds =>
      obtain ⟨rfl, hne, hle⟩ := hr
      exact parseRead_string l hne hle
  refine ⟨fun hback => congrArg finish (State.takeRead_retravel hin hparse hback), fun hback hnone =>
    congrArg finish (State.takeRead_stray hin hparse hback (dueExpectation_eq_none hnone)), ?_⟩
  intro older younger e w x n hback hlist holder hpos hlane hrows hawaited hrow hx hn st left
  have hdue : dueExpectation s.trk.h l v.expectations = some e := hlist ▸ dueExpectation_oldest holder hpos hlane
  have hst : judgeRead (s.drivers.get p.driver).orientation n.str (LaneRead.ofDigits ds) = st := by
    cases ds with
    | none => rfl
    | some ds => cases horient : (s.drivers.get p.driver).orientation <;> simp only [st, horient] <;> rfl
  refine congrArg finish ((State.takeRead_matched hin hparse hback hdue hrow hx hn hst).trans ?_)
  rw [State.updOpenRow_eq]
  simp only [State.updReader, Row.readOutcome_eq, ReadCounts.outcome_eq]
  rw [show (s.readers.get p).expectations = older ++ e :: younger from hlist,
    settleExpectation_oldest l hrows hawaited]
  rfl

end Sys2Proof.Machine

namespace Sys2Proof.Machine

/-! ## The Job Table, the make-up queue and the recovery records (R124, R125, R150, R153) -/

theorem Move.keeps_jobsOk {io : Bool} {s t : State} (h : Move io s t) (hs : JobsOk s.jobs) : JobsOk t.jobs := by
  cases h with
  | jobs x hx => exact hx hs
  | port p x _ _ => cases p <;> exact hs
  | _ => exact hs

theorem Move.keeps_queueOk {io : Bool} {s t : State} (h : Move io s t) (hs : QueueOk s.audit.queue) :
    QueueOk t.audit.queue := by
  cases h with
  | audit x hq _ => exact hq hs
  | port p x _ _ => cases p <;> exact hs
  | _ => exact hs

theorem Move.keeps_recordsBound {io : Bool} {s t : State} (h : Move io s t) (hs : s.audit.records.length ≤ 4) :
    t.audit.records.length ≤ 4 := by
  cases h with
  | audit x _ hr => exact hr hs
  | port p x _ _ => cases p <;> exact hs
  | _ => exact hs

/-- Settles O58: every move keeps the three collections in order; a power-up empties the Job Table and keeps the
other two. -/
theorem jobsQueueAndRecordsStayInOrder : Obligations.JobsQueueAndRecordsStayInOrder := by
  obtain ⟨-, -, -, -, -, hjobs, -⟩ := resetMeetsTheInvariants
  exact ⟨keptByStep_of_moves (fun _ _ => id) (fun _ _ => Move.keeps_jobsOk) (fun _ _ => id) (fun _ _ _ => hjobs),
    keptByStep_of_moves (fun _ _ => id) (fun _ _ => Move.keeps_queueOk) (fun _ _ => id) (fun _ _ => id),
    keptByStep_of_moves (fun _ _ => id) (fun _ _ => Move.keeps_recordsBound) (fun _ _ => id) (fun _ _ => id)⟩

end Sys2Proof.Machine

namespace Sys2Proof.Machine

/-! ## A request whose rule does not read the port it is held at -/

/-- A served answer, the port still holding the request. -/
def Served.holding (x : Served) (port : Port) (r : Request) : Served := (x.1, x.2.holding port r)

/-- A request at a port that takes it, its rule being the same whether the request is held or not. -/
theorem request_carried {s : State} {port : Port} {k : RequestKind} {tag : Byte} {body : List Byte}
    (htakes : s.Takes port k) (hlen : bodyLengthOk k body = true) (hbody : body.length ≤ 240)
    (hserve : serve k port body (s.holding port ⟨k.code, tag, body⟩) =
      Served.holding (serve k port body s) port ⟨k.code, tag, body⟩) :
    request port k.code tag body s =
      .next ((serve k port body s).2.answered port k.code tag (serve k port body s).1) :=
  request_taken htakes hlen hbody hserve (((serve_turn k port body s).traffic port).held.trans htakes.1.2.1)

@[simp] theorem State.jobs_holding (s : State) (p : Port) (r : Request) : (s.holding p r).jobs = s.jobs := by
  cases p <;> rfl

@[simp] theorem State.gen_holding (s : State) (p : Port) (r : Request) : (s.holding p r).gen = s.gen := by
  cases p <;> rfl

@[simp] theorem State.job_holding (s : State) (p : Port) (r : Request) (id : Nat) : (s.holding p r).job id = s.job id := by
  cases p <;> rfl

@[simp] theorem State.running_holding (s : State) (p : Port) (r : Request) : (s.holding p r).running = s.running := by
  cases p <;> rfl

@[simp] theorem State.oldestLoaded_holding (s : State) (p : Port) (r : Request) :
    (s.holding p r).oldestLoaded = s.oldestLoaded := by cases p <;> rfl

theorem State.setJobs_holding (s : State) (p : Port) (r : Request) (x : List Job) :
    (s.holding p r).setJobs x = (s.setJobs x).holding p r := by cases p <;> rfl

/-! ## Query Job and Collect End (R137, R138) -/

theorem serveQueryJob_eq (port : Port) (body : List Byte) (s : State) : serveQueryJob port body s =
    (match s.job (fieldAt 0 2 body) with
     | none => .refusal .noSuchJob
     | some j =>
       if j.state = .ended then .heldFor j
       else .okay (.job
         { job := j
           place := s.jobs.findIdx (fun x => decide (x.id = j.id))
           gen := s.gen
           inFlight := ((s.pipe.rows.filter (fun r => decide (r.job = j.id))).map Row.numbered).sum
           rows := (s.pipe.rows.filter (fun r => decide (r.job = j.id))).length }), s) := by
  unfold serveQueryJob
  cases s.job (fieldAt 0 2 body) with
  | none => rfl
  | some j =>
    dsimp only
    split_ifs <;> rfl

/-- Settles O20: the reply is formed from fields that the held request leaves as they are. -/
theorem queryJobReports : Obligations.QueryJobReports := by
  intro s port tag body hready hlen
  refine request_read hready rfl (by simp [bodyLengthOk, hlen]) (by omega) ?_
  exact (serveQueryJob_eq port body _).trans (by cases port <;> rfl)

theorem serveCollectEnd_holding (port p : Port) (body : List Byte) (s : State) (r : Request) :
    serveCollectEnd port body (s.holding p r) = Served.holding (serveCollectEnd port body s) p r := by
  unfold serveCollectEnd
  rw [State.job_holding]
  cases s.job (fieldAt 0 2 body) with
  | none => rfl
  | some j =>
    dsimp only
    split_ifs
    · rfl
    · cases j.state with
      | ended =>
        dsimp only
        rw [State.emptySlot, State.jobs_holding, State.setJobs_holding]
        rfl
      | _ => rfl

/-- Settles O21: the five tests of R138, by the job's owner and then its state. -/
theorem collectEndTests : Obligations.CollectEndTests := by
  intro s port tag body htakes hlen out reply
  have hout : out = reply (serveCollectEnd port body s).2 (serveCollectEnd port body s).1 :=
    request_carried htakes (by simp [bodyLengthOk, hlen]) (by omega) (serveCollectEnd_holding port port body s _)
  rw [hout]
  unfold serveCollectEnd
  cases s.job (fieldAt 0 2 body) with
  | none => rfl
  | some j =>
    dsimp only
    split_ifs with howner hbusy hloaded
    · rfl
    · rcases hbusy with hst | hst <;> rw [hst] <;> rfl
    · rw [hloaded]
      rfl
    · cases hst : j.state with
      | ended => exact fun e he => by rw [he]; rfl
      | running => exact absurd (.inl hst) hbusy
      | draining => exact absurd (.inr hst) hbusy
      | loaded => exact absurd hst hloaded

/-! ## Load Job (R126, R127) -/

section
variable {s : State}

theorem State.loadPlan_holding (s : State) (p : Port) (r : Request) (port : Port) (id : Nat) (plan : Plan) (follow : Bool) :
    (s.holding p r).loadPlan port id plan follow = Served.holding (s.loadPlan port id plan follow) p r := by
  have htaken : (s.holding p r).idTaken id = s.idTaken id := by
    simp only [State.idTaken, State.jobs_holding, State.audit_holding]
  have hended : (s.holding p r).oldestEnded port = s.oldestEnded port := by
    simp only [State.oldestEnded, State.jobs_holding]
  unfold State.loadPlan
  rw [htaken, hended, State.straps_holding, State.jobs_holding, State.setJobs_holding]
  split_ifs
  · rfl
  · rfl
  · rfl
  · cases s.oldestEnded port <;> rfl

theorem serveLoadJob_holding (port p : Port) (body : List Byte) (s : State) (r : Request) :
    serveLoadJob port body (s.holding p r) = Served.holding (serveLoadJob port body s) p r := by
  unfold serveLoadJob
  cases decodePlan body with
  | none => rfl
  | some plan =>
    dsimp only
    split_ifs
    · rfl
    · exact s.loadPlan_holding p r _ _ _ _

theorem Plan.lastOk_eq_false {plan : Plan} : plan.lastOk = false ↔
    plan.source = .sequence ∧ (plan.numberInt (plan.count - 1) < 0 ∨
      (10 ^ plan.width : Nat) ≤ plan.numberInt (plan.count - 1)) := by
  unfold Plan.lastOk
  cases plan.source with
  | list => simp
  | sequence =>
    dsimp only
    rw [Bool.and_eq_false_iff, decide_eq_false_iff_not, decide_eq_false_iff_not, not_le, not_lt]
    exact (and_iff_right rfl).symm

/-- A plan that R52 or the form repeat's range refuses, or whose ply mask is empty. -/
theorem Plan.valid_eq_false {plan : Plan} : plan.valid = false ↔
    plan.repeatUm < 60000 ∨ 640000 < plan.repeatUm ∨ plan.mask = 0 ∨ plan.width < 4 ∨ 10 < plan.width ∨ plan.step < 1 ∨
      999 < plan.step ∨ plan.count < 1 ∨ 10000000 < plan.count ∨ plan.lanes < 1 ∨ 4 < plan.lanes ∨
      10 ^ plan.width ≤ plan.first ∨ plan.lastOk = false := by
  simp only [Plan.valid, Bool.and_eq_false_iff, decide_eq_false_iff_not, not_and_or, not_le, not_lt, ne_eq, not_not]
  tauto

theorem loadOutOfRange_iff {body : List Byte} {plan : Plan} :
    (fieldAt 0 2 body = 0 ∨ isFlag 2 body = false ∨ plan.valid = false) ↔
      fieldAt 0 2 body = 0 ∨ 1 < fieldAt 2 1 body ∨ plan.repeatUm < 60000 ∨ 640000 < plan.repeatUm ∨ plan.mask = 0 ∨
        plan.width < 4 ∨ 10 < plan.width ∨ plan.step < 1 ∨ 999 < plan.step ∨ plan.count < 1 ∨ 10000000 < plan.count ∨
        plan.lanes < 1 ∨ 4 < plan.lanes ∨ 10 ^ plan.width ≤ plan.first ∨
        (plan.source = .sequence ∧ (plan.numberInt (plan.count - 1) < 0 ∨
          (10 ^ plan.width : Nat) ≤ plan.numberInt (plan.count - 1))) := by
  have hflag : isFlag 2 body = false ↔ 1 < fieldAt 2 1 body := by simp [isFlag]
  rw [Plan.valid_eq_false, Plan.lastOk_eq_false, hflag]

theorem State.idTaken_iff {id : Nat} : s.idTaken id = true ↔
    (∃ j ∈ s.jobs, j.id = id) ∨ (∃ e ∈ s.audit.queue, e.job = id) ∨ ∃ r ∈ s.audit.records, r.job = id := by
  simp [State.idTaken, or_assoc]

theorem plyMissing_iff {plan : Plan} : (maskPlies plan.mask).any (fun p => !s.straps.installed p) = true ↔
    ∃ p ∈ Ply.all, inMask plan.mask p = true ∧ s.straps.installed p = false := by
  simp [maskPlies]

/-- Settles O15: the six tests of R126, each in the terms of the plan decoded, and the record of R127. -/
theorem loadJobTestsAndRecord : Obligations.LoadJobTestsAndRecord := by
  intro s port tag body htakes hlen id out reply
  have hout : out = reply (serveLoadJob port body s).2 (serveLoadJob port body s).1 :=
    request_carried htakes (by simp [bodyLengthOk, hlen]) (by omega) (serveLoadJob_holding port port body s _)
  rw [hout]
  unfold serveLoadJob
  refine ⟨fun hnone => by rw [hnone]; rfl, fun plan hplan => ?_⟩
  rw [hplan]
  simp only [loadOutOfRange_iff]
  split_ifs with hrange hplies htaken hroom
  · rfl
  · rw [State.loadPlan, if_pos (plyMissing_iff.2 hplies)]
    rfl
  · rw [State.loadPlan, if_neg (mt plyMissing_iff.1 hplies), if_pos (State.idTaken_iff.2 htaken)]
    rfl
  · have hslot : s.jobs.length < slotCount := hroom
    rw [State.loadPlan, if_neg (mt plyMissing_iff.1 hplies), if_neg (mt State.idTaken_iff.1 htaken), if_pos hslot]
    rfl
  · have hslot : ¬s.jobs.length < slotCount := hroom
    rw [State.loadPlan, if_neg (mt plyMissing_iff.1 hplies), if_neg (mt State.idTaken_iff.1 htaken), if_neg hslot,
      State.oldestEnded]
    cases s.jobs.find? (fun j => decide (j.state = .ended) && decide (j.owner = port)) <;> rfl

end

/-! ## Start Job (R128, R129) -/

section
variable {s : State} {j : Job} {ref : Ply}

/-- The job started in a new epoch whose reference ply is `ref` (R6, R21, R54, R129, R153). -/
theorem State.startJob_eq (href : referencePly s.plies j.plan.mask = some ref) : s.startJob j =
    (((((s.setTrk { s.trk with
        epoch := some ⟨j.plan.repeatUm, j.plan.mask, ref, (s.plies.get ref).d, none⟩ }).setMarks
      ⟨if inMask j.plan.mask .p1 then s.marks.p1.entered else s.marks.p1.off,
       if inMask j.plan.mask .p2 then s.marks.p2.entered else s.marks.p2.off,
       if inMask j.plan.mask .p3 then s.marks.p3.entered else s.marks.p3.off,
       if inMask j.plan.mask .p4 then s.marks.p4.entered else s.marks.p4.off,
       if inMask j.plan.mask .p5 then s.marks.p5.entered else s.marks.p5.off,
       if inMask j.plan.mask .p6 then s.marks.p6.entered else s.marks.p6.off⟩).setPipe
      { s.pipe with nextIndex := some 0 }).setJobs
      (s.jobs.map (fun x => if x.id = j.id then { x with state := .running } else x))).setGen
      { s.gen with phase := .sequence, r := 0, listCount := 0, complete := false }).setAudit
      { s.audit with records := s.audit.records ++ [RecoveryRecord.forJob j] } := by
  unfold State.startJob State.openEpoch
  rw [href]
  rfl

theorem State.startJob_holding (href : referencePly s.plies j.plan.mask = some ref) (p : Port) (r : Request) :
    (s.holding p r).startJob j = (s.startJob j).holding p r := by
  rw [State.startJob_eq href, State.startJob_eq (by rw [State.plies_holding]; exact href)]
  cases p <;> rfl

theorem referencePly_of_geometryOk {plies : PerPly PlySettings} {v x : Nat} {plan : Plan}
    (h : ¬geometryOk plies v x plan = false) : ∃ ref, referencePly plies plan.mask = some ref := by
  cases href : referencePly plies plan.mask with
  | none => exact absurd (by simp [geometryOk, href]) h
  | some ref => exact ⟨ref, rfl⟩

theorem State.startTests_holding (s : State) (p : Port) (r : Request) (port : Port) (j : Job) :
    (s.holding p r).startTests port j = Served.holding (s.startTests port j) p r := by
  unfold State.startTests
  simp only [State.oldestLoaded_holding, State.running_holding, State.trk_holding, State.audit_holding, State.plies_holding]
  split_ifs with _ _ _ _ _ hgeom
  · rfl
  · rfl
  · rfl
  · rfl
  · rfl
  · rfl
  · obtain ⟨ref, href⟩ := referencePly_of_geometryOk hgeom
    rw [State.startJob_holding href]
    rfl

theorem serveStartJob_holding (port p : Port) (body : List Byte) (s : State) (r : Request) :
    serveStartJob port body (s.holding p r) = Served.holding (serveStartJob port body s) p r := by
  unfold serveStartJob
  rw [State.job_holding]
  cases s.job (fieldAt 0 2 body) with
  | none => rfl
  | some j => exact s.startTests_holding p r port j

theorem State.running_isSome_iff : s.running.isSome = true ↔ ∃ x ∈ s.jobs, x.state = .running := by
  simp [State.running]

/-- Settles O16: the eight tests of R128 in order; the geometry check has a reference ply, and the start is one equation. -/
theorem startJobTestsAndStart : Obligations.StartJobTestsAndStart := by
  intro s port tag body htakes hlen out reply
  have hout : out = reply (serveStartJob port body s).2 (serveStartJob port body s).1 :=
    request_carried htakes (by simp [bodyLengthOk, hlen]) (by omega) (serveStartJob_holding port port body s _)
  rw [hout]
  unfold serveStartJob
  cases s.job (fieldAt 0 2 body) with
  | none => rfl
  | some j =>
    have hbusy : (s.running.isSome = true ∨ s.trk.epoch.isSome = true) ↔
        (∃ x ∈ s.jobs, x.state = .running) ∨ s.trk.epoch ≠ none :=
      or_congr State.running_isSome_iff Option.isSome_iff_ne_none
    have hnext : s.oldestLoaded = s.jobs.find? (fun x => decide (x.state = .loaded)) := rfl
    have hcapacity : recordCapacity = 4 := rfl
    dsimp only
    rw [← hnext, ← hcapacity, ← if_congr hbusy rfl rfl]
    by_cases howner : j.owner ≠ port
    · rw [if_pos howner, State.startTests, if_pos howner]
      rfl
    rw [if_neg howner]
    by_cases hstate : j.state ≠ .loaded
    · rw [if_pos hstate, State.startTests, if_neg howner, if_pos hstate]
      rfl
    rw [if_neg hstate]
    by_cases hother : s.oldestLoaded ≠ some j
    · rw [if_pos hother, State.startTests, if_neg howner, if_neg hstate, if_pos hother]
      rfl
    rw [if_neg hother]
    by_cases hrun : s.running.isSome ∨ s.trk.epoch.isSome
    · rw [if_pos hrun, State.startTests, if_neg howner, if_neg hstate, if_neg hother, if_pos hrun]
      rfl
    rw [if_neg hrun]
    by_cases hfull : recordCapacity ≤ s.audit.records.length
    · rw [if_pos hfull, State.startTests, if_neg howner, if_neg hstate, if_neg hother, if_neg hrun, if_pos hfull]
      rfl
    rw [if_neg hfull]
    by_cases hgeom : geometryOk s.plies s.trk.v s.trk.x j.plan = false
    · rw [if_pos hgeom, State.startTests, if_neg howner, if_neg hstate, if_neg hother, if_neg hrun, if_neg hfull, if_pos hgeom]
      rfl
    rw [if_neg hgeom]
    obtain ⟨ref, href⟩ := referencePly_of_geometryOk hgeom
    refine ⟨ref, href, ?_⟩
    rw [State.startTests, if_neg howner, if_neg hstate, if_neg hother, if_neg hrun, if_neg hfull, if_neg hgeom,
      State.startJob_eq href]
    rfl

end

end Sys2Proof.Machine

namespace Sys2Proof.Machine

/-! ## The flags' operations read no job -/

section
variable (s : State) (js : List Job)

theorem State.raiseAt_setJobs (p : Port) (c : Attention) : (s.setJobs js).raiseAt p c = (s.raiseAt p c).setJobs js := by
  have habs : (s.setJobs js).portAbsent p = s.portAbsent p := by cases p <;> rfl
  unfold State.raiseAt
  rw [habs]
  split
  · rfl
  · cases p <;> rfl

theorem State.raiseBoth_setJobs (c : Attention) : (s.setJobs js).raiseBoth c = (s.raiseBoth c).setJobs js := by
  simp only [State.raiseBoth, State.raiseAt_setJobs]

theorem State.changeStop_setJobs (f : StopUnit → StopUnit) : (s.setJobs js).changeStop f = (s.changeStop f).setJobs js := by
  unfold State.changeStop
  rw [State.setJobs_stop]
  split
  · exact State.raiseBoth_setJobs (s.setStop _) js .stop
  · rfl

theorem State.changeover_setJobs : (s.setJobs js).changeover = s.changeover.setJobs js := by
  simp only [State.changeover, State.raiseBoth_setJobs, State.latchEvent, State.changeStop_setJobs]

theorem State.endLevel_setJobs (c : StopCause) : (s.setJobs js).endLevel c = (s.endLevel c).setJobs js := by
  unfold State.endLevel
  rw [State.setJobs_stop]
  split
  · exact s.changeStop_setJobs js _
  · rfl

theorem endLevels_setJobs (ps : List Ply) (s : State) :
    ps.foldl (fun s p => s.endLevel (.markLost p)) (s.setJobs js) =
      (ps.foldl (fun s p => s.endLevel (.markLost p)) s).setJobs js := by
  induction ps generalizing s with
  | nil => rfl
  | cons p ps ih => rw [List.foldl_cons, State.endLevel_setJobs, ih, List.foldl_cons]

theorem State.clearReserve_setJobs : (s.setJobs js).clearReserve = s.clearReserve.setJobs js := by
  unfold State.clearReserve
  rw [State.setJobs_pipe]
  split
  · exact State.endLevel_setJobs (s.setPipe _) js _
  · rfl

/-- The Tracker's epoch and next index removed, the plies OFF and the zone lists emptied; the reserve condition is to
come (R7). -/
def State.outOfEpoch (s : State) : State :=
  s.closed.marksOff.zonesOff.setPipe { s.closed.marksOff.zonesOff.pipe with nextIndex := none }

theorem State.outOfEpoch_setJobs : (s.setJobs js).outOfEpoch = s.outOfEpoch.setJobs js := by
  have hmarks : (s.setJobs js).closed.marksOff = s.closed.marksOff.setJobs js :=
    endLevels_setJobs js Ply.all (s.closed.windowsOff.setMarks (s.marks.map MarkPly.off))
  unfold State.outOfEpoch
  rw [hmarks]
  rfl

theorem State.returnToFree_outOfEpoch : s.returnToFree =
    if s.outOfEpoch.savingOrSaved then s.outOfEpoch else s.outOfEpoch.clearReserve := rfl

theorem State.returnToFree_setJobs : (s.setJobs js).returnToFree = s.returnToFree.setJobs js := by
  rw [State.returnToFree_outOfEpoch, State.returnToFree_outOfEpoch, State.outOfEpoch_setJobs, State.clearReserve_setJobs,
    apply_ite (fun u : State => u.setJobs js)]
  rfl

theorem State.testFree_setJobs (hrun : (s.setJobs js).running.isNone = s.running.isNone) :
    (s.setJobs js).testFree = s.testFree.setJobs js := by
  unfold State.testFree
  rw [hrun, State.returnToFree_setJobs, apply_ite (fun u : State => u.setJobs js)]
  rfl

end

end Sys2Proof.Machine

namespace Sys2Proof.Machine

/-! ## The reason for which a job leaves RUNNING (R133)

The reason stands in the job's record and in its end record, and nothing reads it before the job ends. So a job that leaves
RUNNING HALTED or ABORTED leaves the state that it would leave COMPLETE, but for its own record. -/

/-- The job's record with a drain reason. -/
def Job.withDrain (x : Job) (why : EndReason) : Job := { x with drain := some why }

/-- The state with a drain reason in the record of a job. -/
def State.giveReason (s : State) (id : Nat) (why : EndReason) : State := s.updJob id (fun x => x.withDrain why)

section
variable {s : State} {x : Job} {id : Nat} {why : EndReason}

theorem State.giveReason_running (s : State) (id : Nat) (why : EndReason) :
    (s.giveReason id why).running = s.running.map (fun x => if x.id = id then x.withDrain why else x) :=
  find_state_map s.jobs _ (fun x => by split <;> rfl) .running

theorem State.giveReason_oldestLoaded (s : State) (id : Nat) (why : EndReason) :
    (s.giveReason id why).oldestLoaded = s.oldestLoaded.map (fun x => if x.id = id then x.withDrain why else x) :=
  find_state_map s.jobs _ (fun x => by split <;> rfl) .loaded

theorem State.giveReason_job (s : State) (id : Nat) (why : EndReason) (i : Nat) :
    (s.giveReason id why).job i = (s.job i).map (fun x => if x.id = id then x.withDrain why else x) :=
  find_id_map s.jobs _ (fun x => by split <;> rfl) i

theorem State.giveReason_jobsOk (h : JobsOk s.jobs) : JobsOk (s.giveReason id why).jobs :=
  h.map _ (fun x => by split <;> rfl) (fun x => by split <;> rfl)

/-- A job that is not RUNNING is given a reason: what job is RUNNING stands (R125). -/
theorem State.giveReason_running_eq (hjobs : JobsOk s.jobs) (hx : s.job id = some x) (hstate : x.state ≠ .running) :
    (s.giveReason id why).running = s.running := by
  rw [State.giveReason_running]
  cases hrun : s.running with
  | none => rfl
  | some y =>
    have hne : y.id ≠ id := fun hid => by
      have hy := State.job_of_running hjobs hrun
      rw [hid, hx] at hy
      cases hy
      exact hstate (State.running_mem hrun).2
    rw [Option.map_some, if_neg hne]

theorem State.giveReason_job_ne {i : Nat} (hi : i ≠ id) : (s.giveReason id why).job i = s.job i := by
  rw [State.giveReason_job]
  cases hjob : s.job i with
  | none => rfl
  | some y => rw [Option.map_some, if_neg (by rw [State.job_id hjob]; exact hi)]

theorem State.changeover_giveReason (s : State) (id : Nat) (why : EndReason) :
    (s.giveReason id why).changeover = s.changeover.giveReason id why := by
  have hjobs : s.changeover.jobs = s.jobs := by
    show (s.setJobs s.jobs).changeover.jobs = s.jobs
    rw [State.changeover_setJobs, State.setJobs_jobs]
  rw [State.giveReason, State.giveReason, State.updJob, State.updJob, State.changeover_setJobs, hjobs]

theorem State.testFree_giveReason (s : State) (id : Nat) (why : EndReason) :
    (s.giveReason id why).testFree = s.testFree.giveReason id why := by
  have hjobs : s.testFree.jobs = s.jobs := by
    show (s.setJobs s.jobs).testFree.jobs = s.jobs
    rw [State.testFree_setJobs _ _ rfl, State.setJobs_jobs]
  have hrun : (s.giveReason id why).running.isNone = s.running.isNone := by
    rw [State.giveReason_running, Option.isNone_map]
  rw [State.giveReason, State.giveReason, State.updJob, State.updJob, State.testFree_setJobs _ _ hrun, hjobs]

theorem State.startRunning_giveReason (s : State) (n : Job) (id : Nat) (why : EndReason) :
    (s.giveReason id why).startRunning (if n.id = id then n.withDrain why else n) = (s.startRunning n).giveReason id why := by
  have hjobs : ((s.jobs.map (fun x => if x.id = id then x.withDrain why else x)).map
        (fun x => if x.id = n.id then { x with state := .running } else x)) =
      (s.jobs.map (fun x => if x.id = n.id then { x with state := .running } else x)).map
        (fun x => if x.id = id then x.withDrain why else x) := by
    rw [List.map_map, List.map_map]
    refine List.map_congr_left fun x _ => ?_
    have hgiven : (if x.id = id then x.withDrain why else x).id = x.id := by split <;> rfl
    have hstarted : (if x.id = n.id then { x with state := .running } else x).id = x.id := by split <;> rfl
    dsimp only [Function.comp]
    rw [hgiven, hstarted]
    split_ifs <;> rfl
  have hstart : ∀ m : Job, m.id = n.id → m.owner = n.owner → m.plan = n.plan →
      (s.giveReason id why).startRunning m = (s.giveReason id why).startRunning n := fun m hid howner hplan => by
    unfold State.startRunning State.openRecord
    rw [hid, howner, hplan]
  refine (hstart _ (by split <;> rfl) (by split <;> rfl) (by split <;> rfl)).trans ?_
  exact congrArg (fun js => (s.startRunning n).setJobs js) hjobs

theorem State.followOn_giveReason (s : State) (plan : Plan) (id : Nat) (why : EndReason) :
    (s.giveReason id why).followOn plan = (s.followOn plan).giveReason id why := by
  have hidle : (s.giveReason id why).running = none ↔ s.running = none := by
    rw [State.giveReason_running, Option.map_eq_none_iff]
  have haudit : (s.giveReason id why).audit = s.audit := rfl
  unfold State.followOn
  rw [haudit, if_congr (and_congr_right' hidle) rfl rfl, State.giveReason_oldestLoaded]
  split
  · cases s.oldestLoaded with
    | none => rfl
    | some n =>
      have hfollow : (if n.id = id then n.withDrain why else n).follow = n.follow := by split <;> rfl
      have hplan : (if n.id = id then n.withDrain why else n).plan = n.plan := by split <;> rfl
      rw [Option.map_some]
      dsimp only
      rw [hfollow, hplan, State.startRunning_giveReason, State.changeover_giveReason]
      split
      · split <;> rfl
      · rfl
  · rfl

theorem State.afterRunning_giveReason (s : State) (plan : Plan) (id : Nat) (why : EndReason) :
    (s.giveReason id why).afterRunning plan = (s.afterRunning plan).giveReason id why := by
  unfold State.afterRunning
  dsimp only
  rw [State.followOn_giveReason, State.giveReason_running, Option.isNone_map]
  split
  · exact State.testFree_giveReason (s.followOn plan).windowsOff id why
  · rfl

end

end Sys2Proof.Machine

namespace Sys2Proof.Machine

section
variable {t v w b c : State} {j x : Job} {why : EndReason}

/-- The record of the RUNNING job as it leaves RUNNING for a reason (R54, R133). -/
def State.leftAs (v : State) (j : Job) (why : EndReason) : Job :=
  { j with
    state := .draining
    drain := some why
    draw := some (v.handedValues j) }

/-- The state once the RUNNING job has left RUNNING for a reason, with the follow-on test and the test of R7 made; it has
not ended. -/
def State.departed (v : State) (j : Job) (why : EndReason) : State :=
  ((v.leaving j).afterRunning j.plan).giveReason j.id why

theorem State.drainJob_departed (hjobs : JobsOk v.jobs) (hrun : v.running = some j) : v.drainJob j.id why =
    if (v.departed j why).jobHasRow j.id then v.departed j why else (v.departed j why).endJob j.id := by
  have hleaving : (v.handedBack j.id).updJob j.id (fun x => { x with state := .draining, drain := some why }) =
      (v.leaving j).giveReason j.id why := by
    rw [State.handedBack_of_running hrun]
    show (v.setGen _).setJobs ((v.jobs.map _).map _) = (v.setGen _).setJobs ((v.jobs.map _).map _)
    rw [List.map_map, List.map_map]
    refine congrArg _ (List.map_congr_left fun x _ => ?_)
    by_cases hx : x.id = j.id <;> simp [hx, Job.withDrain]
  unfold State.drainJob
  rw [State.job_of_running hjobs hrun]
  dsimp only
  rw [if_pos (State.running_mem hrun).2, hleaving, State.afterRunning_giveReason]
  rfl

/-- The RUNNING job has left RUNNING: its record, and what stands of the Job Table as if it had left COMPLETE. -/
theorem State.departed_jobs (hjobs : JobsOk v.jobs) (hcond : v.audit.condition = .normal) (hrun : v.running = some j) :
    JobsOk (v.departed j why).jobs ∧ (v.departed j why).job j.id = some (v.leftAs j why) ∧
      (v.departed j why).running = ((v.leaving j).afterRunning j.plan).running ∧
      ∀ i, i ≠ j.id → (v.departed j why).job i = ((v.leaving j).afterRunning j.plan).job i := by
  obtain ⟨⟨hjob, hok, -, -⟩, -⟩ := State.afterRunning_departed hjobs hcond hrun
  refine ⟨State.giveReason_jobsOk hok, ?_, State.giveReason_running_eq hok hjob (by simp), fun i hi =>
    State.giveReason_job_ne hi⟩
  rw [State.departed, State.giveReason_job, hjob, Option.map_some, if_pos rfl]
  rfl

/-- A job's end forms its record and no other: given a reason first, what it leaves besides the jobs is the same. -/
theorem State.endJob_giveReason (hx : b.job x.id = some x) :
    ∃ js, (b.giveReason x.id why).endJob x.id = (b.endJob x.id).setJobs js := by
  have hy : (b.giveReason x.id why).job (x.withDrain why).id = some (x.withDrain why) := by
    rw [State.giveReason_job]
    exact (congrArg _ hx).trans (congrArg some (if_pos rfl))
  have hconcluded : (b.giveReason x.id why).concluded (x.withDrain why) =
      (b.concluded x).setJobs ((b.giveReason x.id why).concluded (x.withDrain why)).jobs := rfl
  have hend : (b.giveReason x.id why).endJob x.id =
      ((b.giveReason x.id why).concluded (x.withDrain why)).raiseAt x.owner .jobEnd :=
    State.endJob_eq hy
  rw [hend, hconcluded, State.raiseAt_setJobs, State.endJob_eq hx]
  exact ⟨_, rfl⟩

/-- The claim that a job has left RUNNING COMPLETE is the claim for another reason, but for the job's own record. -/
theorem State.LeftRunning.of_jobs {js : List Job} (h : v.LeftRunning w j .complete) (hw : t = w.setJobs js)
    (hrun : t.running = w.running) (hnext : ∀ n, v.oldestLoaded = some n → t.job n.id = w.job n.id)
    (hown : if t.jobHasRow j.id = true then t.job j.id = some (v.leftAs j why)
      else t.HasEnded (v.leftAs j why) why (v.handedValues j)) : v.LeftRunning t j why := by
  obtain ⟨-, hfollower, hfree⟩ := h
  refine ⟨hown, ?_, ?_⟩
  · cases hf : v.follower j with
    | some n =>
      rw [hf] at hfollower
      obtain ⟨hrunning, hrest⟩ := hfollower
      subst hw
      exact ⟨hrun.trans hrunning, hrest⟩
    | none =>
      rw [hf] at hfollower
      obtain ⟨hrunning, hgen, hrecords, hwindows, hloaded⟩ := hfollower
      refine ⟨hrun.trans hrunning, ?_⟩
      subst hw
      refine ⟨hgen, hrecords, hwindows, fun n hn => ?_⟩
      obtain ⟨hjob, hchangeover⟩ := hloaded n hn
      exact ⟨(hnext n hn).trans hjob, hchangeover⟩
  · rw [hrun]
    subst hw
    exact hfree

/-- The send requests and the expectations of a state. -/
def State.sends (s : State) : List SendRequest × PerPly ReaderPly := (s.requests, s.readers)

theorem State.drainJob_sends (hjobs : JobsOk v.jobs) (hcond : v.audit.condition = .normal) (hrun : v.running = some j) :
    (v.drainJob j.id .complete).sends = v.sends := by
  obtain ⟨⟨hjob, -, -, -⟩, -⟩ := State.afterRunning_departed hjobs hcond hrun
  obtain ⟨c, hc⟩ : ∃ c, c = (v.leaving j).followOn j.plan := ⟨_, rfl⟩
  have hlater : Later (v.leaving j) c := hc ▸ State.followOn_later _ _
  have hfollow : c.sends = v.sends := (core_field State.sends (fun _ => rfl) hlater.rest).trans rfl
  have hnormal : c.windowsOff.audit.condition = .normal := by
    show c.audit.condition = .normal
    rw [core_field State.audit (fun _ => rfl) hlater.rest]
    exact hcond
  have hafter : ((v.leaving j).afterRunning j.plan).sends = v.sends := by
    have hb : (v.leaving j).afterRunning j.plan = if c.running.isNone then c.windowsOff.testFree else c := by
      rw [hc]
      rfl
    rw [hb]
    split
    · exact (State.testFree_field hnormal State.sends (fun _ => rfl) rfl).trans hfollow
    · exact hfollow
  rw [State.drainJob_of_running hjobs hrun]
  split
  · exact hafter
  · exact (State.endJob_field (j := v.drainedAs j) hjob State.sends fun _ => rfl).trans hafter

/-- What a job's leaving RUNNING leaves alone: the rows, the void list and the make-up queue, the drivers and what is asked
of them, the readers, the monitors and the shift tallies. -/
structure RowsStand (v w : State) : Prop where
  rows : w.pipe.rows = v.pipe.rows
  voids : w.audit.voids = v.audit.voids
  inFlight : w.audit.inFlight = v.audit.inFlight
  queue : w.audit.queue = v.audit.queue
  drivers : w.drivers = v.drivers
  requests : w.requests = v.requests
  readers : w.readers = v.readers
  monitors : w.monitors = v.monitors
  shift : w.shift = v.shift

theorem Aftermath.rowsStand {f : Bool} (h : Aftermath v w f) (hsends : w.sends = v.sends) : RowsStand v w where
  rows := by rw [h.pipe]; split <;> rfl
  voids := by rw [h.audit]
  inFlight := by rw [h.audit]
  queue := by rw [h.audit]
  drivers := h.drivers
  requests := congrArg Prod.fst hsends
  readers := congrArg Prod.snd hsends
  monitors := h.monitors
  shift := h.shift

/-- The RUNNING job leaves RUNNING for a reason (R133, R134, R7): as it does COMPLETE, but for its own record. -/
theorem State.drainJob_left (hjobs : JobsOk v.jobs) (hcond : v.audit.condition = .normal) (hrun : v.running = some j) :
    v.LeftRunning (v.drainJob j.id why) j why ∧ RowsStand v (v.drainJob j.id why) := by
  obtain ⟨hleft, hafter, -⟩ := State.drainJob_leftRunning hjobs hcond hrun rfl
  have hstand := hafter.rowsStand (State.drainJob_sends hjobs hcond hrun)
  obtain ⟨hok, hjob, hrunning, hothers⟩ := State.departed_jobs (why := why) hjobs hcond hrun
  obtain ⟨⟨hjob₀, hok₀, -, -⟩, -⟩ := State.afterRunning_departed hjobs hcond hrun
  have hw : v.drainJob j.id why = _ := State.drainJob_departed hjobs hrun
  have hw₀ : v.drainJob j.id .complete = _ := State.drainJob_of_running hjobs hrun
  have hk : Concluded (v.departed j why) (v.drainJob j.id why) (v.leftAs j why) := by
    rw [hw]
    exact State.concluded_of_draining (x := v.leftAs j why) hok hjob rfl
  have hk₀ : Concluded ((v.leaving j).afterRunning j.plan) (v.drainJob j.id .complete) (v.drainedAs j) := by
    rw [hw₀]
    exact State.concluded_of_draining (x := v.drainedAs j) hok₀ hjob₀ rfl
  have hsame : ∃ js, v.drainJob j.id why = (v.drainJob j.id .complete).setJobs js := by
    rw [hw, hw₀, show (v.departed j why).jobHasRow j.id = ((v.leaving j).afterRunning j.plan).jobHasRow j.id from rfl]
    split
    · exact ⟨_, rfl⟩
    · exact State.endJob_giveReason (x := v.drainedAs j) hjob₀
  obtain ⟨js, hjs⟩ := hsame
  refine ⟨hleft.of_jobs hjs (hk.running.trans (hrunning.trans hk₀.running.symm)) (fun n hn => ?_) ?_, ?_⟩
  · have hid : n.id ≠ j.id := State.leaving_oldestLoaded (s := v) (by rw [State.leaving_oldestLoaded_eq hjobs hrun, hn])
    exact (hk.job n.id hid).trans ((hothers n.id hid).trans (hk₀.job n.id hid).symm)
  · rw [hk.after.jobHasRow]
    exact hk.outcome
  · rw [hjs]
    exact ⟨hstand.rows, hstand.voids, hstand.inFlight, hstand.queue, hstand.drivers, hstand.requests, hstand.readers,
      hstand.monitors, hstand.shift⟩

end

end Sys2Proof.Machine

namespace Sys2Proof.Machine

/-! ## A request answered, whatever its rule has done -/

section
variable {s t u v : State} {port : Port} {j : Job} {id : Nat} {why : EndReason}

@[simp] theorem PortState.started_replies (x : PortState) : x.started.replies = x.replies := by
  unfold PortState.started
  repeat' split
  all_goals rfl

/-- In `t` the ports apart, all is as in `u`, in which a request at the port has been served; its reply is formed. -/
structure Answered (s u t : State) (port : Port) (f : ReplyFrame) : Prop where
  rest : t = (u.setLine t.line).setPanel t.panel
  pending : ∀ p, (t.port p).pending = (u.port p).pending
  replies : (t.port port).replies = (s.port port).replies ++ [f]

/-- A request at a port that takes it: the reply is formed on what its rule has made of the state in which the
request is held. -/
theorem request_answered {k : RequestKind} {tag : Byte} {body : List Byte} {x : Served} (htakes : s.Takes port k)
    (hlen : bodyLengthOk k body = true) (hbody : body.length ≤ 240)
    (hserve : serve k port body (s.holding port ⟨k.code, tag, body⟩) = x) :
    ∃ t, request port k.code tag body s = .next t ∧ Answered s x.2 t port ⟨k.code, tag, x.1⟩ := by
  have htraffic := (serve_turn k port body (s.holding port ⟨k.code, tag, body⟩)).traffic port
  rw [hserve, State.port_holding, if_pos rfl] at htraffic
  obtain ⟨y, u⟩ := x
  have hreceiver : (u.port port).receiver = .hunting := htraffic.receiver
  have hheld : (u.port port).held = [⟨k.code, tag, body⟩] := htraffic.held
  have hreplies : (u.port port).replies = (s.port port).replies := htraffic.replies
  have hcarried : (u.setPort port { u.port port with held := [] }).holding port ⟨k.code, tag, body⟩ = u := by
    have hport : ({ u.port port with receiver := .hunting, held := [⟨k.code, tag, body⟩] } : PortState) = u.port port := by
      rw [← hreceiver, ← hheld]
    rw [State.holding, State.port_setPort, if_pos rfl, State.setPort_setPort]
    exact (congrArg _ hport).trans (State.setPort_port u port)
  have hrequest := request_taken (t := u.setPort port { u.port port with held := [] }) htakes hlen hbody
    (hserve.trans (congrArg (Prod.mk y) hcarried.symm)) (by rw [State.port_setPort, if_pos rfl])
  refine ⟨_, hrequest, ?_, fun p => ?_, ?_⟩
  · cases port <;> rfl
  · unfold State.answered
    rw [State.startSending_port, PortState.started_pending, State.port_setPort]
    split
    · subst_vars
      rw [State.port_setPort, if_pos rfl]
    · rename_i hp
      rw [State.port_setPort, if_neg hp]
  · unfold State.answered
    rw [State.startSending_port, PortState.started_replies, State.port_setPort, if_pos rfl, State.port_setPort, if_pos rfl]
    exact congrArg (· ++ _) hreplies

/-- Of the ports, the claim that a job has left RUNNING reads what is pending. -/
theorem State.LeftRunning.answered {f : ReplyFrame} (h : v.LeftRunning u j why) (ht : Answered s u t port f) :
    v.LeftRunning t j why := by
  obtain ⟨hrest, hpending, -⟩ := ht
  rw [hrest] at hpending ⊢
  unfold State.LeftRunning State.HasEnded at h ⊢
  simp only [hpending]
  exact h

theorem RowsStand.answered {f : ReplyFrame} (h : RowsStand v u) (ht : Answered s u t port f) : RowsStand v t := by
  rw [ht.rest]
  exact ⟨h.rows, h.voids, h.inFlight, h.queue, h.drivers, h.requests, h.readers, h.monitors, h.shift⟩

theorem State.running_of_job (hjobs : JobsOk s.jobs) (hj : s.job id = some j) (hstate : j.state = .running) :
    s.running = some j := by
  have hmem : j ∈ s.jobs := List.mem_of_find?_eq_some hj
  cases hrun : s.running with
  | none => exact absurd (decide_eq_true hstate) (List.find?_eq_none.1 hrun j hmem)
  | some x =>
    obtain ⟨hx, hxs⟩ := State.running_mem hrun
    rw [hjobs.running_unique hx hmem hxs hstate]

end

/-! ## Halt Job (R135) -/

section
variable {s u t : State} {port : Port} {body : List Byte} {j : Job} {why : EndReason} {f : ReplyFrame}

/-- A request makes the RUNNING job leave RUNNING, from the state `u`, in which the request is held and the job's rows may have
been changed. -/
theorem State.left_answered (hjobs : JobsOk s.jobs) (hcond : s.audit.condition = .normal) (hrun : s.running = some j)
    {rows : List Row} (hu : u = ((s.setRows rows).setLine u.line).setPanel u.panel)
    (ht : Answered s (u.drainJob j.id why) t port f) :
    s.LeftRunning t j why ∧ RowsStand (s.setRows rows) t := by
  generalize u.line = l at hu
  generalize u.panel = q at hu
  subst hu
  obtain ⟨hleft, hstand⟩ := State.drainJob_left (v := ((s.setRows rows).setLine l).setPanel q) (why := why) hjobs hcond hrun
  exact ⟨(hleft.of_source (u := s) rfl rfl rfl (funext fun p => by cases p <;> rfl) rfl rfl rfl).answered ht,
    RowsStand.answered ⟨hstand.rows, hstand.voids, hstand.inFlight, hstand.queue, hstand.drivers, hstand.requests,
      hstand.readers, hstand.monitors, hstand.shift⟩ ht⟩

theorem serveHaltJob_none (hj : s.job (fieldAt 0 2 body) = none) : serveHaltJob port body s = refuse .noSuchJob s := by
  simp only [serveHaltJob, hj]

theorem serveHaltJob_running (hj : s.job (fieldAt 0 2 body) = some j) (hstate : j.state = .running) :
    serveHaltJob port body s = okReply .none (s.drainJob j.id .halted) := by
  simp only [serveHaltJob, hj, hstate]

theorem serveHaltJob_draining (hj : s.job (fieldAt 0 2 body) = some j) (hstate : j.state = .draining) :
    serveHaltJob port body s = okReply .none s := by
  simp only [serveHaltJob, hj, hstate]

theorem serveHaltJob_ended (hj : s.job (fieldAt 0 2 body) = some j) (hstate : j.state = .ended) :
    serveHaltJob port body s = heldReply j s := by
  simp only [serveHaltJob, hj, hstate]

theorem serveHaltJob_loaded (hj : s.job (fieldAt 0 2 body) = some j) (hstate : j.state = .loaded) :
    serveHaltJob port body s = refuse .wrongState s := by
  simp only [serveHaltJob, hj, hstate]

end

/-- Settles O18, by the state of the job: only a RUNNING one is changed, and it leaves RUNNING for HALTED. -/
theorem haltJobByState : Obligations.HaltJobByState := by
  intro s port tag body htakes hlen out reply
  have hok : bodyLengthOk .haltJob body = true := by simp [bodyLengthOk, hlen]
  have hcond := htakes.2.2
  have hreply : ∀ x, serveHaltJob port body (s.holding port ⟨0x03, tag, body⟩) = (x, s.holding port ⟨0x03, tag, body⟩) →
      out = reply s x := fun x hx => request_taken htakes hok (by omega) hx htakes.1.2.1
  have hheld := s.job_holding port ⟨0x03, tag, body⟩ (fieldAt 0 2 body)
  cases hj : s.job (fieldAt 0 2 body) with
  | none => exact hreply _ (serveHaltJob_none (hheld.trans hj))
  | some j =>
    dsimp only
    cases hstate : j.state with
    | draining => exact hreply _ (serveHaltJob_draining (hheld.trans hj) hstate)
    | ended => exact hreply _ (serveHaltJob_ended (hheld.trans hj) hstate)
    | loaded => exact hreply _ (serveHaltJob_loaded (hheld.trans hj) hstate)
    | running =>
      intro hjobs
      obtain ⟨t, hexec, ht⟩ := request_answered htakes hok (by omega)
        (serveHaltJob_running (port := port) (hheld.trans hj) hstate)
      obtain ⟨hleft, hstand⟩ := State.left_answered (rows := s.pipe.rows) hjobs hcond
        (State.running_of_job hjobs hj hstate) (by cases port <;> rfl) ht
      exact ⟨t, hexec, ht.replies, hstand.rows, hleft, hstand.voids, hstand.inFlight, hstand.queue, hstand.drivers,
        hstand.requests, hstand.readers, hstand.monitors, hstand.shift⟩

end Sys2Proof.Machine

namespace Sys2Proof.Machine

/-! ## Abort Job (R136) -/

section
variable {s t u w : State} {port : Port} {body : List Byte} {j : Job} {id : Nat} {why : EndReason} {f : Job → Job}

/-- A job that has left RUNNING takes another drain reason, and nothing else (R133). -/
theorem State.drainJob_of_idle (hj : s.job id = some j) (hstate : j.state ≠ .running) :
    s.drainJob id why = s.giveReason id why := by
  unfold State.drainJob
  rw [hj]
  dsimp only
  rw [if_neg hstate]
  rfl

/-- The job the feed belongs to: the RUNNING one, or the oldest LOADED, where it takes its numbers from a list (R63). -/
theorem State.feedJob_eq (s : State) :
    s.feedJob = (s.running.or s.oldestLoaded).filter (fun x => decide (x.plan.source = .list)) := by
  unfold State.feedJob
  cases s.running with
  | some x => simp [Option.filter]
  | none => cases s.oldestLoaded <;> simp [Option.filter]

/-- The feed goes with the job it belongs to, whatever else its record holds. -/
theorem State.feedJob_updJob (hstate : ∀ x, (f x).state = x.state)
    (hplan : ∀ x, (f x).plan = x.plan) :
    (s.updJob id f).feedJob = s.feedJob.map (fun x => if x.id = id then f x else x) := by
  have hfind := fun st => find_state_map s.jobs (fun x => if x.id = id then f x else x) (fun x => by split <;> simp [hstate]) st
  have hrunning : (s.updJob id f).running = s.running.map _ := hfind .running
  have hloaded : (s.updJob id f).oldestLoaded = s.oldestLoaded.map _ := hfind .loaded
  have hsource : (fun x : Job => decide (x.plan.source = .list)) ∘ (fun x => if x.id = id then f x else x) =
      fun x => decide (x.plan.source = .list) := funext fun x => by
    dsimp only [Function.comp]
    split <;> simp [hplan]
  rw [State.feedJob_eq, State.feedJob_eq, hrunning, hloaded, ← Option.map_or, Option.filter_map, hsource]

theorem State.feedJob_mem (h : s.feedJob = some j) : j ∈ s.jobs := by
  rw [State.feedJob_eq, Option.filter_eq_some_iff, Option.or_eq_some_iff] at h
  obtain ⟨hrun | ⟨-, hloaded⟩, -⟩ := h
  · exact List.mem_of_find?_eq_some hrun
  · exact List.mem_of_find?_eq_some hloaded

theorem State.emptyFeedOf_eq (s : State) (id : Nat) : s.emptyFeedOf id = s.setGen { s.gen with
    feed := if s.feedJob.any (fun x => decide (x.id = id)) then [] else s.gen.feed } := by
  unfold State.emptyFeedOf
  cases s.feedJob with
  | none => rfl
  | some x =>
    dsimp only
    rw [Option.any_some]
    by_cases hid : x.id = id
    · rw [if_pos hid, if_pos (decide_eq_true hid)]
    · rw [if_neg hid, if_neg (by simpa using hid)]
      rfl

theorem State.emptyFeedOf_updJob (hid : ∀ x, (f x).id = x.id) (hstate : ∀ x, (f x).state = x.state)
    (hplan : ∀ x, (f x).plan = x.plan) : (s.updJob id f).emptyFeedOf id = (s.emptyFeedOf id).updJob id f := by
  have hany : (s.updJob id f).feedJob.any (fun x => decide (x.id = id)) = s.feedJob.any (fun x => decide (x.id = id)) := by
    rw [State.feedJob_updJob hstate hplan, Option.any_map]
    refine congrArg (s.feedJob.any ·) (funext fun x => ?_)
    show decide ((if x.id = id then f x else x).id = id) = decide (x.id = id)
    split
    · rw [hid]
    · rfl
  rw [State.emptyFeedOf_eq, State.emptyFeedOf_eq, hany]
  rfl

/-- The feed of a job that a record holds: emptied where it is this very job's. -/
theorem State.emptyFeedOf_job (hjobs : JobsOk s.jobs) (hj : s.job j.id = some j) : s.emptyFeedOf j.id =
    s.setGen { s.gen with feed := if s.feedJob = some j then [] else s.gen.feed } := by
  have hown : s.feedJob.any (fun x => decide (x.id = j.id)) = true ↔ s.feedJob = some j := by
    cases hfeed : s.feedJob with
    | none => simp
    | some x =>
      rw [Option.any_some, decide_eq_true_iff, Option.some.injEq]
      refine ⟨fun hid => ?_, fun h => h ▸ rfl⟩
      have hx : s.job x.id = some x := hjobs.find_id (State.feedJob_mem hfeed)
      rw [hid, hj] at hx
      exact (Option.some.inj hx).symm
  rw [State.emptyFeedOf_eq, if_congr hown rfl rfl]

/-- The record of a LOADED job that is cancelled: it hands back its share of the feed (R136, R139). -/
def State.cancelledAs (s : State) (x : Job) : Job :=
  { x with
    state := .ended
    draw := some { r := 0, listCount := 0, discarded := s.feedOf x.id }
    endRec := some (s.endRecordOf x .cancelled { r := 0, listCount := 0, discarded := s.feedOf x.id }) }

theorem State.cancelLoaded_eq (hjobs : JobsOk s.jobs) (hj : s.job j.id = some j) : s.cancelLoaded j.id =
    (s.setGen { s.gen with feed := if s.feedJob = some j then [] else s.gen.feed }).setJobs
      (s.jobs.map (fun x => if x.id = j.id then s.cancelledAs x else x)) := by
  have hback := State.emptyFeedOf_updJob (s := s) (id := j.id)
    (f := fun x => { x with draw := some { r := 0, listCount := 0, discarded := s.feedOf j.id } })
    (fun _ => rfl) (fun _ => rfl) (fun _ => rfl)
  unfold State.cancelLoaded
  dsimp only
  rw [hback, State.emptyFeedOf_job hjobs hj]
  show (s.setGen _).setJobs ((s.jobs.map _).map _) = (s.setGen _).setJobs (s.jobs.map _)
  rw [List.map_map]
  refine congrArg _ (List.map_congr_left fun x _ => ?_)
  by_cases hid : x.id = j.id
  · simp only [Function.comp, hid, if_true, State.cancelledAs, State.endRecordOf]
    rfl
  · simp [hid]

theorem serveAbortJob_none (hj : s.job (fieldAt 0 2 body) = none) : serveAbortJob port body s = refuse .noSuchJob s := by
  simp only [serveAbortJob, hj]

theorem serveAbortJob_running (hj : s.job (fieldAt 0 2 body) = some j) (hstate : j.state = .running) :
    serveAbortJob port body s = okReply .none ((s.abortRows j.id).drainJob j.id .aborted) := by
  simp only [serveAbortJob, hj, hstate]

theorem serveAbortJob_draining (hj : s.job (fieldAt 0 2 body) = some j) (hstate : j.state = .draining) :
    serveAbortJob port body s = okReply .none ((s.abortRows j.id).giveReason j.id .aborted) := by
  have hid := State.job_id hj
  have hkept : (s.abortRows j.id).job j.id = some j := by
    rw [← hid] at hj
    exact hj
  simp only [serveAbortJob, hj, hstate]
  rw [State.drainJob_of_idle hkept (by rw [hstate]; decide)]

theorem serveAbortJob_loaded (hj : s.job (fieldAt 0 2 body) = some j) (hstate : j.state = .loaded) :
    serveAbortJob port body s = okReply .none ((s.cancelLoaded j.id).raiseAt j.owner .jobEnd) := by
  simp only [serveAbortJob, hj, hstate]

theorem serveAbortJob_ended (hj : s.job (fieldAt 0 2 body) = some j) (hstate : j.state = .ended) :
    serveAbortJob port body s = heldReply j s := by
  simp only [serveAbortJob, hj, hstate]

/-- A LOADED job is cancelled by a request: its record, its share of the feed, and JOB_END pending at its owner port. -/
theorem State.cancelled_answered {r : Request} {f : ReplyFrame} (hjobs : JobsOk s.jobs) (hj : s.job j.id = some j)
    (ht : Answered s (((s.holding port r).cancelLoaded j.id).raiseAt j.owner .jobEnd) t port f) :
    t.job j.id = some (s.cancelledAs j) ∧ t.gen.feed = (if s.feedJob = some j then [] else s.gen.feed) ∧
      (s.portAbsent j.owner = false → AttentionSet.has (t.port j.owner).pending .jobEnd = true) ∧
      t = (((s.setJobs t.jobs).setGen { s.gen with feed := t.gen.feed }).setLine t.line).setPanel t.panel := by
  have hheld : ((s.holding port r).job j.id) = some j := (s.job_holding port r j.id).trans hj
  have hcancel := State.cancelLoaded_eq (s := s.holding port r) (by rw [State.jobs_holding]; exact hjobs) hheld
  have hsame : (s.holding port r).cancelledAs = s.cancelledAs := funext fun x => by cases port <;> rfl
  have hfeed : (s.holding port r).feedJob = s.feedJob := by cases port <;> rfl
  have habsent : ((s.holding port r).cancelLoaded j.id).portAbsent = s.portAbsent := by
    rw [hcancel]
    exact funext fun p => by cases p <;> cases port <;> rfl
  rw [State.jobs_holding, State.gen_holding, hsame, hfeed] at hcancel
  obtain ⟨l, q, hraise⟩ := ((s.holding port r).cancelLoaded j.id).raiseAt_eq j.owner .jobEnd
  obtain ⟨hrest, hpending, -⟩ := ht
  have hpend : s.portAbsent j.owner = false → AttentionSet.has (t.port j.owner).pending .jobEnd = true := fun habs => by
    rw [hpending, State.raiseAt_port, if_pos ⟨rfl, by rw [habsent]; exact habs⟩, PortState.raised_has]
    simp
  rw [hraise, hcancel] at hrest
  have hwhole : t = (((s.setGen { s.gen with feed := if s.feedJob = some j then [] else s.gen.feed }).setJobs
      (s.jobs.map (fun x => if x.id = j.id then s.cancelledAs x else x))).setLine t.line).setPanel t.panel := by
    refine hrest.trans ?_
    cases port <;> rfl
  have htjobs := congrArg State.jobs hwhole
  have htgen := congrArg State.gen hwhole
  refine ⟨?_, congrArg Generator.feed htgen, hpend, ?_⟩
  · unfold State.job
    rw [htjobs]
    refine (find_id_map s.jobs _ (fun x => by split <;> rfl) j.id).trans ?_
    exact (congrArg _ hj).trans (congrArg some (if_pos rfl))
  · rw [htjobs, htgen]
    exact hwhole

end

/-- Settles O19, by the state of the job: a RUNNING one leaves RUNNING for ABORTED once its rows have the cause, a DRAINING one
takes the reason, and a LOADED one is cancelled. -/
theorem abortJobByState : Obligations.AbortJobByState := by
  intro s port tag body htakes hlen out reply aborted
  have hok : bodyLengthOk .abortJob body = true := by simp [bodyLengthOk, hlen]
  have hcond := htakes.2.2
  have hreply : ∀ {u : State} {x : Reply}, serveAbortJob port body (s.holding port ⟨0x04, tag, body⟩) =
      (x, u.holding port ⟨0x04, tag, body⟩) → u.port port = s.port port → out = reply u x := fun hx hu =>
    request_taken htakes hok (by omega) hx (by rw [hu]; exact htakes.1.2.1)
  have hheld := s.job_holding port ⟨0x04, tag, body⟩ (fieldAt 0 2 body)
  cases hj : s.job (fieldAt 0 2 body) with
  | none => exact hreply (serveAbortJob_none (hheld.trans hj)) rfl
  | some j =>
    have hid := State.job_id hj
    dsimp only
    cases hstate : j.state with
    | ended => exact hreply (serveAbortJob_ended (hheld.trans hj) hstate) rfl
    | draining =>
      refine hreply ((serveAbortJob_draining (hheld.trans hj) hstate).trans ?_) (by cases port <;> rfl)
      cases port <;> rfl
    | running =>
      intro hjobs
      obtain ⟨t, hexec, ht⟩ := request_answered htakes hok (by omega)
        (serveAbortJob_running (port := port) (hheld.trans hj) hstate)
      obtain ⟨hleft, hstand⟩ := State.left_answered (rows := aborted j.id) hjobs hcond (State.running_of_job hjobs hj hstate)
        (by cases port <;> rfl) ht
      exact ⟨t, hexec, ht.replies, hstand.rows, hleft, hstand.voids, hstand.inFlight, hstand.queue, hstand.drivers,
        hstand.requests, hstand.readers, hstand.monitors, hstand.shift⟩
    | loaded =>
      intro hjobs
      obtain ⟨t, hexec, ht⟩ := request_answered htakes hok (by omega)
        (serveAbortJob_loaded (port := port) (hheld.trans hj) hstate)
      obtain ⟨hjob, hfeed, hpending, hrest⟩ := State.cancelled_answered hjobs (hid ▸ hj) ht
      exact ⟨t, _, hexec, ht.replies, hjob, rfl, rfl, rfl, rfl, hfeed, hpending, hrest⟩

end Sys2Proof.Machine

namespace Sys2Proof.Machine

/-! ## What the operations of the Audit Store make of a state in which a request is held

None of them reads what a port holds, so each is carried over a request that one port holds alone (`State.holding`). -/

section
variable (s : State) (p : Port) (q : Request)

theorem State.setAudit_holding (x : AuditStore) : (s.holding p q).setAudit x = (s.setAudit x).holding p q := by cases p <;> rfl

theorem State.setMonitors_holding (x : PerMon Monitor) : (s.holding p q).setMonitors x = (s.setMonitors x).holding p q := by
  cases p <;> rfl

theorem State.setGen_holding (x : Generator) : (s.holding p q).setGen x = (s.setGen x).holding p q := by cases p <;> rfl

theorem State.setPowerFail_holding (x : Bool) : (s.holding p q).setPowerFail x = (s.setPowerFail x).holding p q := by
  cases p <;> rfl

@[simp] theorem State.monitors_holding : (s.holding p q).monitors = s.monitors := by cases p <;> rfl

theorem foldl_holding {α : Type} {f : State → α → State} (h : ∀ s a, f (s.holding p q) a = (f s a).holding p q)
    (l : List α) : l.foldl f (s.holding p q) = (l.foldl f s).holding p q := by
  induction l generalizing s with
  | nil => rfl
  | cons a l ih => rw [List.foldl_cons, List.foldl_cons, h, ih]

/-! ### The return to FREE -/

theorem State.endLevel_holding (c : StopCause) : (s.holding p q).endLevel c = (s.endLevel c).holding p q := by
  unfold State.endLevel
  rw [State.stop_holding, State.changeStop_holding]
  split <;> rfl

theorem State.clearReserve_holding : (s.holding p q).clearReserve = s.clearReserve.holding p q := by
  unfold State.clearReserve
  rw [State.pipe_holding, State.setPipe_holding, State.endLevel_holding]
  split <;> rfl

theorem State.reserveFall_holding : (s.holding p q).reserveFall = s.reserveFall.holding p q := by
  have hroom : (s.holding p q).reservationOk = s.reservationOk := by cases p <;> rfl
  unfold State.reserveFall State.savingOrSaved
  rw [State.audit_holding, State.running_holding, State.clearReserve_holding, hroom]
  split
  · rfl
  · cases s.running with
    | none => rfl
    | some j =>
      dsimp only
      split <;> rfl

theorem State.marksOff_holding : (s.holding p q).marksOff = s.marksOff.holding p q := by
  have hoff : (s.holding p q).windowsOff.setMarks ((s.holding p q).marks.map MarkPly.off) =
      (s.windowsOff.setMarks (s.marks.map MarkPly.off)).holding p q := by cases p <;> rfl
  have hends : ∀ s : State, s.marksOff = Ply.all.foldl (fun s c => s.endLevel (.markLost c))
      (s.windowsOff.setMarks (s.marks.map MarkPly.off)) := fun _ => rfl
  rw [hends, hends, hoff]
  exact foldl_holding _ p q (fun s c => s.endLevel_holding p q (.markLost c)) _

theorem State.zonesOff_holding : (s.holding p q).zonesOff = s.zonesOff.holding p q := by cases p <;> rfl

theorem State.returnToFree_holding : (s.holding p q).returnToFree = s.returnToFree.holding p q := by
  have hclosed : (s.holding p q).closed.marksOff.zonesOff = s.closed.marksOff.zonesOff.holding p q := by
    rw [State.closed, State.trk_holding, State.setTrk_holding, State.marksOff_holding, State.zonesOff_holding]
    rfl
  have hfree : ∀ s : State, s.returnToFree = if (s.closed.marksOff.zonesOff.setPipe { s.closed.marksOff.zonesOff.pipe with
      nextIndex := none }).savingOrSaved then s.closed.marksOff.zonesOff.setPipe { s.closed.marksOff.zonesOff.pipe with
      nextIndex := none } else (s.closed.marksOff.zonesOff.setPipe { s.closed.marksOff.zonesOff.pipe with
      nextIndex := none }).clearReserve := fun _ => rfl
  rw [hfree, hfree, hclosed, State.pipe_holding, State.setPipe_holding, State.clearReserve_holding, State.savingOrSaved,
    State.audit_holding]
  split <;> simp_all [State.savingOrSaved]

theorem State.testFree_holding : (s.holding p q).testFree = s.testFree.holding p q := by
  unfold State.testFree
  rw [State.trk_holding, State.running_holding, State.pipe_holding, State.returnToFree_holding]
  split <;> rfl

/-! ### The emptying of the pipeline -/

theorem State.appendVoid_holding (r : Row) (owner : Port) (strict : Bool) (no : Nat) (l : LaneRec) (n : LaneNumber) :
    (s.holding p q).appendVoid r owner strict no l n = (s.appendVoid r owner strict no l n).holding p q := by
  unfold State.appendVoid
  simp only [State.audit_holding, State.trk_holding, State.setAudit_holding, State.raiseBoth_holding]
  split <;> rfl

/-- What is counted of one lane or row: in its job's recovery record, its tallies and the shift's. -/
theorem counted_holding (id : Nat) (f : RecoveryRecord → RecoveryRecord) (g : JobTallies → JobTallies)
    (h : ShiftTallies → ShiftTallies) : (((s.holding p q).updRecord id f).updTallies id g).updShift h =
      (((s.updRecord id f).updTallies id g).updShift h).holding p q := by cases p <;> rfl

theorem State.disposeLane_holding (r : Row) (owner : Port) (strict : Bool) (no : Nat) (l : LaneRec) :
    (s.holding p q).disposeLane r owner strict no l = (s.disposeLane r owner strict no l).holding p q := by
  unfold State.disposeLane
  cases l.number with
  | none => cases p <;> rfl
  | some n =>
    simp only [State.audit_holding, State.setAudit_holding, State.appendVoid_holding, counted_holding]
    split_ifs <;> simp only [counted_holding]

theorem State.disposeLanes_holding (r : Row) (owner : Port) (strict : Bool) (ls : List LaneRec) (no : Nat) :
    (s.holding p q).disposeLanes r owner strict no ls = (s.disposeLanes r owner strict no ls).holding p q := by
  induction ls generalizing s no with
  | nil => rfl
  | cons l ls ih => rw [State.disposeLanes, State.disposeLane_holding, ih]; rfl

theorem State.disposeRow_holding (r : Row) : (s.holding p q).disposeRow r = (s.disposeRow r).holding p q := by
  unfold State.disposeRow
  dsimp only
  rw [State.job_holding, State.disposeLanes_holding, counted_holding]

theorem State.emptyPipeline_holding (c : VoidCause) : (s.holding p q).emptyPipeline c = (s.emptyPipeline c).holding p q := by
  unfold State.emptyPipeline
  dsimp only
  rw [State.pipe_holding, foldl_holding _ _ _ (fun s r => s.disposeRow_holding p q (r.addCause c))]
  generalize s.pipe.rows.foldl (fun s r => s.disposeRow (r.addCause c)) s = u
  exact (congrArg State.testFree (by cases p <;> rfl)).trans (State.testFree_holding _ p q)

theorem State.warnPower_holding : (s.holding p q).warnPower = s.warnPower.holding p q := by
  have hbegin : (s.holding p q).beginSave = s.beginSave.holding p q := by
    unfold State.beginSave State.setCondition
    rw [State.audit_holding, State.setAudit_holding, State.emptyPipeline_holding]
    cases p <;> rfl
  unfold State.warnPower
  rw [State.audit_holding, hbegin]
  split <;> rfl

/-! ### Attentions raised where something holds -/

/-- A class raised at both ports where a test holds. -/
def State.raiseIf (s : State) (b : Bool) (c : Attention) : State := if b then s.raiseBoth c else s

theorem State.raiseIf_holding (b : Bool) (c : Attention) : (s.holding p q).raiseIf b c = (s.raiseIf b c).holding p q := by
  unfold State.raiseIf
  rw [State.raiseBoth_holding]
  split <;> rfl

theorem State.raiseAt_setAudit (port : Port) (c : Attention) (x : AuditStore) :
    (s.setAudit x).raiseAt port c = (s.raiseAt port c).setAudit x := by
  have habsent : (s.setAudit x).portAbsent = s.portAbsent := rfl
  unfold State.raiseAt
  rw [habsent]
  cases s.portAbsent port <;> cases port <;> rfl

theorem State.raiseAt_syncAll (port : Port) (c : Attention) : s.syncAll.raiseAt port c = (s.raiseAt port c).syncAll := by
  have habsent : s.syncAll.portAbsent = s.portAbsent := rfl
  unfold State.raiseAt
  rw [habsent]
  cases s.portAbsent port <;> cases port <;> rfl

theorem State.raiseIf_setAudit (b : Bool) (c : Attention) (x : AuditStore) :
    (s.setAudit x).raiseIf b c = (s.raiseIf b c).setAudit x := by
  unfold State.raiseIf State.raiseBoth
  rw [State.raiseAt_setAudit, State.raiseAt_setAudit]
  split <;> rfl

theorem State.raiseIf_syncAll (b : Bool) (c : Attention) : s.syncAll.raiseIf b c = (s.raiseIf b c).syncAll := by
  unfold State.raiseIf State.raiseBoth
  rw [State.raiseAt_syncAll, State.raiseAt_syncAll]
  split <;> rfl

@[simp] theorem State.raiseIf_audit (b : Bool) (c : Attention) : (s.raiseIf b c).audit = s.audit := by
  unfold State.raiseIf
  split
  · exact (s.raiseBoth_frame c).2.2.1
  · rfl

/-! ### The steps of a warm reset -/

theorem State.emptyFeedOf_holding (id : Nat) : (s.holding p q).emptyFeedOf id = (s.emptyFeedOf id).holding p q := by
  rw [State.emptyFeedOf_eq, State.emptyFeedOf_eq, State.gen_holding, State.setGen_holding]
  cases p <;> rfl

theorem State.resetJob_holding (j : Job) : (s.holding p q).resetJob j = (s.resetJob j).holding p q := by
  unfold State.resetJob
  cases j.state with
  | running =>
    have hback : (s.holding p q).handedBack j.id = (s.handedBack j.id).holding p q := by
      unfold State.handedBack
      rw [← State.emptyFeedOf_holding]
      cases p <;> rfl
    dsimp only
    rw [hback]
    cases p <;> rfl
  | draining => cases p <;> rfl
  | loaded =>
    show (State.emptyFeedOf _ _).formEnd _ _ = State.holding ((State.emptyFeedOf _ _).formEnd _ _) p q
    have hdraw : (s.holding p q).updJob j.id (fun x => { x with draw := some ⟨0, 0, (s.holding p q).feedOf j.id⟩ }) =
        (s.updJob j.id (fun x => { x with draw := some ⟨0, 0, s.feedOf j.id⟩ })).holding p q := by cases p <;> rfl
    rw [hdraw, State.emptyFeedOf_holding]
    cases p <;> rfl
  | ended => rfl

theorem State.resetJobs_holding : (s.holding p q).resetJobs = s.resetJobs.holding p q := by
  unfold State.resetJobs
  dsimp only
  rw [State.jobs_holding, foldl_holding _ _ _ (fun s j => s.resetJob_holding p q j), State.gen_holding, State.setGen_holding]

theorem State.clearPorts_holding :
    ((s.holding p q).setLine (s.holding p q).line.cleared).setPanel (s.holding p q).panel.cleared =
      ((s.setLine s.line.cleared).setPanel s.panel.cleared).holding p q := by cases p <;> rfl

theorem State.clearBlocks_holding : (s.holding p q).clearBlocks = s.clearBlocks.holding p q := by
  have hends : (s.holding p q).zonesOff.endAllExpectations = s.zonesOff.endAllExpectations.holding p q := by
    cases p <;> rfl
  unfold State.clearBlocks
  dsimp only
  rw [hends]
  generalize s.zonesOff.endAllExpectations = u
  have hfree : (if (u.holding p q).pipe.rows = [] then (u.holding p q).returnToFree else u.holding p q) =
      (if u.pipe.rows = [] then u.returnToFree else u).holding p q := by
    rw [State.pipe_holding, State.returnToFree_holding]
    split <;> rfl
  rw [hfree]
  simp only [State.trk_holding, State.setTrk_holding, State.pipe_holding, State.setPipe_holding, State.monitors_holding,
    State.setMonitors_holding, State.changeStop_holding, State.clearPorts_holding]

theorem State.resetStep_holding : (s.holding p q).resetStep = s.resetStep.holding p q := by
  unfold State.resetStep State.setResetStage
  rw [State.audit_holding, State.setAudit_holding, State.setAudit_holding, State.resetJobs_holding, State.testFree_holding,
    State.clearBlocks_holding]
  split <;> rfl

theorem resetSteps_holding (n : Nat) : resetSteps n (s.holding p q) = (resetSteps n s).holding p q := by
  induction n generalizing s with
  | zero => rfl
  | succ n ih => rw [resetSteps, State.resetStep_holding, ih]; rfl

/-- The end of a warm reset whose steps have been taken: a change of the store, SYNC to each driver, and the attentions that hold
(R155 step 5, R110). -/
def State.resetOver (u : State) : State :=
  (((u.setAudit { u.audit with condition := .normal, resetNotQueued := false }).syncAll.raiseIf true .resetDone).raiseIf
    (decide (u.audit.notifyLevel ≤ u.audit.voids.length)) .voidReady).raiseIf u.audit.resetNotQueued .makeUp

theorem State.endReset_eq : s.endReset = (resetSteps s.resetLeft s).resetOver := by
  have hif : ∀ (v : State) (b : Prop) [Decidable b] (c : Attention), (if b then v.raiseBoth c else v) = v.raiseIf (decide b) c :=
    fun v b _ c => by simp [State.raiseIf]
  have hdone : ∀ v : State, v.raiseBoth .resetDone = v.raiseIf true .resetDone := fun _ => rfl
  unfold State.endReset State.resetOver
  simp only [hif, hdone, State.raiseIf_syncAll, State.raiseIf_setAudit, State.setCondition,
    State.setAudit_audit, Bool.decide_eq_true]
  rfl

theorem State.endReset_holding : (s.holding p q).endReset = s.endReset.holding p q := by
  have hleft : (s.holding p q).resetLeft = s.resetLeft := by cases p <;> rfl
  have hsync : ∀ u : State, (u.holding p q).syncAll = u.syncAll.holding p q := fun u => by cases p <;> rfl
  rw [State.endReset_eq, State.endReset_eq, hleft, resetSteps_holding]
  unfold State.resetOver
  simp only [State.audit_holding, State.setAudit_holding, hsync, State.raiseIf_holding]

end

end Sys2Proof.Machine

namespace Sys2Proof.Machine

/-! ## The void list: appends completed, read and released (R147 to R149) -/

/-- Settles O47: below the notify level and one more at or above it is to reach it just now. -/
theorem appendsCompleteInOrder : Obligations.AppendsCompleteInOrder := by
  intro s
  refine ⟨fun h => ?_, fun v rest hcond hflight => ?_⟩
  · show finish _ = _
    rcases h with hrecovering | hnone
    · rw [if_pos hrecovering]
      rfl
    · unfold State.completeAppend
      rw [hnone, ite_self]
      rfl
  · have hreach : (s.audit.voids.length < s.audit.notifyLevel ∧ s.audit.notifyLevel ≤ s.audit.voids.length + 1) ↔
        s.audit.voids.length + 1 = s.audit.notifyLevel := by omega
    show finish _ = _
    rw [if_neg hcond]
    unfold State.completeAppend
    rw [hflight]
    dsimp only
    rw [if_congr hreach rfl rfl]
    rfl

/-! ## The make-up step (R151) -/

section
variable {q a b : List MakeUpEntry} {job lane attempt : Nat} {n : LaneNumber} {e : MakeUpEntry}

/-- The draw of a number from the sequence or from the feed: its step is that of a new number. -/
theorem makeUpQueue_drawn (h : n.source = .sequence ∨ n.source = .list) (void : Bool) :
    stepExhausted n = false ∧ stepNotQueued q job n = queueRefuses q job n.n ∧
      makeUpQueue q job lane n void = if void && !queueRefuses q job n.n then
        q ++ [{ job := job, number := n.n, lane := lane, attempts := 1, state := .waiting }] else q := by
  unfold stepExhausted stepNotQueued makeUpQueue
  rcases h with h | h <;> rw [h] <;> exact ⟨rfl, rfl, rfl⟩

theorem queueRefuses_iff {number : Nat} :
    queueRefuses q job number = true ↔ 256 ≤ q.length ∨ ∃ e ∈ q, e.job = job ∧ e.number = number := by
  rw [queueRefuses, Bool.or_eq_true, decide_eq_true_iff]
  simp [queueCapacity]

/-- In a queue in order the ISSUED entry of a number is the only entry of that number (R150). -/
theorem QueueOk.not_issued (h : QueueOk (a ++ e :: b)) {x : MakeUpEntry} (hx : x ∈ a ++ b) : x.isIssued e.job e.number = false := by
  have hkeys : e.key ∉ (a ++ b).map MakeUpEntry.key := by
    have hnodup := h.2
    rw [List.map_append, List.map_cons] at hnodup
    rw [List.map_append]
    exact (List.nodup_middle.1 hnodup).notMem
  unfold MakeUpEntry.isIssued
  by_contra hissued
  simp only [Bool.not_eq_false, Bool.and_eq_true, decide_eq_true_iff] at hissued
  obtain ⟨⟨hjob, hnumber⟩, -⟩ := hissued
  exact hkeys (List.mem_map.2 ⟨x, hx, by rw [MakeUpEntry.key, MakeUpEntry.key, hjob, hnumber]⟩)

end

/-- Settles O37: a drawn number enters or is refused; the ISSUED entry of a make-up number is alone in its queue, so the step
touches it and no other. -/
theorem makeUpStepFollowsTheLane : Obligations.MakeUpStepFollowsTheLane := by
  intro q job lane n hq
  refine ⟨makeUpQueue_ok _ _ _ _ _ hq, makeUpQueue_ok _ _ _ _ _ hq, fun hsource => ?_, ?_⟩
  · obtain ⟨hexhausted, hrefused, hvoid⟩ := makeUpQueue_drawn (q := q) (job := job) (lane := lane) hsource true
    obtain ⟨-, -, hgood⟩ := makeUpQueue_drawn (q := q) (job := job) (lane := lane) hsource false
    rw [hvoid, hgood, hrefused]
    refine ⟨rfl, hexhausted, queueRefuses_iff, ?_⟩
    cases queueRefuses q job n.n <;> rfl
  · rintro attempt a b e hsource rfl rfl hnumber hissued
    have hself : e.isIssued e.job n.n = true := by simp [MakeUpEntry.isIssued, hnumber, hissued]
    have hothers : ∀ x ∈ a ++ b, x.isIssued e.job n.n = false := fun x hx => hnumber ▸ hq.not_issued hx
    obtain ⟨ha, hb⟩ := List.forall_mem_append.1 hothers
    have hfilter : (a ++ e :: b).filter (fun x => !x.isIssued e.job n.n) = a ++ b := by
      rw [List.filter_append, List.filter_cons, hself, List.filter_eq_self.2 (by simpa using ha),
        List.filter_eq_self.2 (by simpa using hb)]
      rfl
    have hmap : (a ++ e :: b).map (fun x => if x.isIssued e.job n.n then
        { x with state := .waiting, attempts := x.attempts + 1 } else x) =
        a ++ { e with state := .waiting, attempts := e.attempts + 1 } :: b := by
      rw [List.map_append, List.map_cons, hself, map_id_of_forall (fun x hx => by simp [ha x hx]),
        map_id_of_forall (fun x hx => by simp [hb x hx])]
      rfl
    unfold makeUpQueue stepNotQueued stepExhausted
    rw [hsource]
    dsimp only
    rw [hfilter, hmap]
    refine ⟨rfl, rfl, by simp, ?_⟩
    by_cases hlt : attempt < 3 <;> simp [hlt]

/-! ## Requests for the void list, the make-up queue and the recovery records (R148, R149, R152, R154) -/

section
variable {s : State} {port : Port} {body : List Byte}

theorem serveReadVoids_eq (port : Port) (body : List Byte) (s : State) : serveReadVoids port body s =
    (if s.audit.voids.length < fieldAt 0 2 body then .refusal .range
     else .okay (.voids s.audit.voids.length s.audit.inFlight.length ((s.audit.voids.drop (fieldAt 0 2 body)).take 8)), s) := by
  unfold serveReadVoids
  split_ifs <;> rfl

theorem serveReleaseVoids_holding (s : State) (port : Port) (q : Request) :
    serveReleaseVoids port body (s.holding port q) = Served.holding (serveReleaseVoids port body s) port q := by
  have hdrop : ∀ n, (s.holding port q).dropVoids n = (s.dropVoids n).holding port q := fun n => by cases port <;> rfl
  unfold serveReleaseVoids
  dsimp only
  rw [State.audit_holding, hdrop, State.reserveFall_holding]
  split_ifs <;> rfl

/-- A release of voids that a consistent Stop Unit meets: the records go, and the reserve condition where it ends (R79, R149). -/
theorem serveReleaseVoids_eq (hcond : s.audit.condition = .normal) (hcons : s.stop.Consistent)
    (hn : fieldAt 0 2 body ≤ s.audit.voids.length) :
    let u := s.dropVoids (fieldAt 0 2 body)
    serveReleaseVoids port body s = (.okay (.remaining (s.audit.voids.length - fieldAt 0 2 body)),
      if s.pipe.reserve = true ∧ 0 < fieldAt 0 2 body ∧ u.hasRoom = true then
        (u.setPipe { s.pipe with reserve := false }).setStop { s.stop with held := StopSet.erase s.stop.held .voidReserve }
      else u) := by
  intro u
  unfold serveReleaseVoids
  dsimp only
  rw [if_neg (Nat.not_lt.2 hn)]
  by_cases hzero : fieldAt 0 2 body = 0
  · rw [if_pos hzero, if_neg (by simp [hzero])]
    simp only [u, hzero]
    rfl
  · have hfall : u.reserveFall = if u.hasRoom then u.clearReserve else u := State.reserveFall_of_normal hcond
    have hclear : u.clearReserve = if s.pipe.reserve then
        (u.setPipe { s.pipe with reserve := false }).setStop { s.stop with held := StopSet.erase s.stop.held .voidReserve }
        else u := by
      show (if s.pipe.reserve then (u.setPipe { s.pipe with reserve := false }).endLevel .voidReserve else u) = _
      rw [State.endLevel_of_consistent (s := u.setPipe { s.pipe with reserve := false }) hcons]
      rfl
    rw [if_neg hzero]
    show (_, u.reserveFall) = _
    rw [hfall, hclear]
    refine Prod.ext rfl ?_
    simp only [Nat.pos_of_ne_zero hzero, true_and]
    cases u.hasRoom <;> cases s.pipe.reserve <;> rfl

end

/-- Settles O45. -/
theorem voidsAreReadAndReleased : Obligations.VoidsAreReadAndReleased := by
  intro s port tag body hready hlen n
  have hok : ∀ k : RequestKind, k = .readVoids ∨ k = .releaseVoids → bodyLengthOk k body = true := by
    rintro k (rfl | rfl) <;> simp [bodyLengthOk, hlen]
  refine ⟨?_, fun htakes => ⟨fun hlt => ?_, ?_⟩⟩
  · refine request_read hready rfl (hok _ (.inl rfl)) (by omega) ?_
    rw [serve, serveReadVoids_eq, State.audit_holding]
  · refine request_taken htakes (hok _ (.inr rfl)) (by omega) ?_ hready.2.1
    rw [serve, serveReleaseVoids, State.audit_holding, if_pos hlt]
    rfl
  · intro hle hcons left room u
    have hroom : u.hasRoom = room := by
      unfold State.hasRoom room left
      show (match s.running with | none => true | some x => u.reservationOk x.plan.lanes) = _
      cases s.running with
      | none => rfl
      | some j =>
        refine decide_eq_decide.2 ?_
        show (s.audit.voids.drop n).length + s.audit.inFlight.length + s.inFlight + j.plan.lanes ≤ 1024 ↔ _
        rw [List.length_drop]
        rfl
    refine (request_carried htakes (hok _ (.inr rfl)) (by omega) (serveReleaseVoids_holding s port _)).trans ?_
    rw [serve, serveReleaseVoids_eq htakes.2.2 hcons hle]
    exact congrArg (fun v : State => Host.Outcome.next (v.answered port 0x11 tag (.okay (.remaining left))))
      (if_congr (and_congr_right' (and_congr_right' (by rw [← hroom]; rfl))) rfl rfl)

theorem serveReadMakeUp_eq (port : Port) (body : List Byte) (s : State) : serveReadMakeUp port body s =
    (if s.audit.queue.length < fieldAt 0 2 body then .refusal .range
     else .okay (.makeUp s.audit.queue.length ((s.audit.queue.drop (fieldAt 0 2 body)).take 16)), s) := by
  unfold serveReadMakeUp
  split_ifs <;> rfl

theorem serveReleaseMakeUp_eq (port : Port) (body : List Byte) (s : State) : serveReleaseMakeUp port body s =
    if ∃ j ∈ s.jobs, j.id = fieldAt 0 2 body ∧ j.state = .running then (.refusal .wrongState, s)
    else (.okay (.removed
        (s.audit.queue.filter (fun e => decide (e.job = fieldAt 0 2 body) && decide (e.state ≠ .issued))).length),
      s.setAudit { s.audit with
        queue := s.audit.queue.filter (fun e => decide (e.job ≠ fieldAt 0 2 body) || decide (e.state = .issued)) }) := by
  have hrunning : s.jobs.any (fun j => decide (j.id = fieldAt 0 2 body) && decide (j.state = .running)) = true ↔
      ∃ j ∈ s.jobs, j.id = fieldAt 0 2 body ∧ j.state = .running := by simp
  have hkept : (fun e : MakeUpEntry => !e.released (fieldAt 0 2 body)) =
      fun e => decide (e.job ≠ fieldAt 0 2 body) || decide (e.state = .issued) := by
    funext e
    simp [MakeUpEntry.released, Bool.not_and]
  unfold serveReleaseMakeUp
  dsimp only
  rw [if_congr hrunning rfl rfl, hkept]
  rfl

theorem serveDiscardRecovery_eq (port : Port) (body : List Byte) (s : State) : serveDiscardRecovery port body s =
    match s.audit.records.find? (fun r => decide (r.job = fieldAt 0 2 body)) with
    | none => (.refusal .noSuchJob, s)
    | some r =>
      if r.state = .opened then (.refusal .wrongState, s)
      else (.plain, s.setAudit { s.audit with
        records := s.audit.records.filter (fun x => decide (x.job ≠ fieldAt 0 2 body)) }) := by
  unfold serveDiscardRecovery
  cases hfind : s.audit.records.find? (fun r => decide (r.job = fieldAt 0 2 body)) with
  | none => rfl
  | some r =>
    have hjob : r.job = fieldAt 0 2 body := by simpa using List.find?_some hfind
    dsimp only
    rw [State.removeRecord, hjob]
    rfl

/-- Settles O46. -/
theorem makeUpEntriesAndRecoveryRecords : Obligations.MakeUpEntriesAndRecoveryRecords := by
  intro s port tag body hready n
  refine ⟨fun hlen => ?_, ?_, fun hlen htakes => ?_, fun hlen htakes => ?_⟩
  · refine request_read hready rfl (by simp [bodyLengthOk, hlen]) (by omega) ?_
    rw [serve, serveReadMakeUp_eq, State.audit_holding]
  · refine request_read hready rfl rfl (by simp) ?_
    rw [serve, serveReadRecovery, State.audit_holding]
    rfl
  · refine (request_carried htakes (by simp [bodyLengthOk, hlen]) (by omega) ?_).trans ?_
    · simp only [serve, serveReleaseMakeUp_eq, State.jobs_holding, State.audit_holding]
      split_ifs <;> cases port <;> rfl
    · rw [serve, serveReleaseMakeUp_eq]
      split_ifs <;> rfl
  · refine (request_carried htakes (by simp [bodyLengthOk, hlen]) (by omega) ?_).trans ?_
    · simp only [serve, serveDiscardRecovery_eq, State.audit_holding]
      cases s.audit.records.find? (fun r => decide (r.job = fieldAt 0 2 body)) with
      | none => rfl
      | some r =>
        dsimp only
        split_ifs <;> cases port <;> rfl
    · rw [serve, serveDiscardRecovery_eq]
      show _ = Host.Outcome.next (match s.audit.records.find? (fun r => decide (r.job = fieldAt 0 2 body)) with
        | none => _ | some r => _)
      cases s.audit.records.find? (fun r => decide (r.job = fieldAt 0 2 body)) with
      | none => rfl
      | some r =>
        dsimp only
        split_ifs <;> rfl

end Sys2Proof.Machine

namespace Sys2Proof.Machine

/-! ## The lanes of an emptied pipeline, one after another (R88, R93, R94, R146, R151) -/

/-- A numbered lane of the pipeline: its row, its number, its record and what it carries. -/
abbrev HeldLane := Row × Nat × LaneRec × LaneNumber

/-- The make-up step of a lane that retires void, by the accounting of its job (R89, R151). -/
def emptyStep (own : Nat → Port × Accounting) (q : List MakeUpEntry) : HeldLane → List MakeUpEntry
  | (r, no, _, n) => if (own r.job).2 = .strict then makeUpQueue q r.job no n true else q

/-- The record of a lane that retires void with a cause (R145, R151). -/
def emptyRecord (own : Nat → Port × Accounting) (h : Pos) (c : VoidCause) (sequence : Nat) (q : List MakeUpEntry) :
    HeldLane → VoidRecord
  | (r, no, l, n) =>
    let strict : Bool := decide ((own r.job).2 = .strict)
    { sequence := sequence, job := r.job, owner := (own r.job).1, row := r.k, laneNo := no, lane := n,
      causes := CauseSet.insert l.causes c, unmarked := !l.marked, notQueued := strict && stepNotQueued q r.job n,
      exhausted := strict && stepExhausted n, retire := h }

/-- The records of lanes that retire void one after another, from a sequence and a make-up queue on. -/
def emptyRecords (own : Nat → Port × Accounting) (h : Pos) (c : VoidCause) :
    Nat → List MakeUpEntry → List HeldLane → List VoidRecord
  | _, _, [] => []
  | sequence, q, x :: xs =>
    emptyRecord own h c sequence q x :: emptyRecords own h c (sequenceAfter sequence) (emptyStep own q x) xs

section
variable (own : Nat → Port × Accounting) (h : Pos) (c : VoidCause)

@[simp] theorem emptyRecords_length (xs : List HeldLane) (sequence : Nat) (q : List MakeUpEntry) :
    (emptyRecords own h c sequence q xs).length = xs.length := by
  induction xs generalizing sequence q with
  | nil => rfl
  | cons x xs ih => rw [emptyRecords, List.length_cons, ih, List.length_cons]

theorem emptyRecords_append (xs ys : List HeldLane) (sequence : Nat) (q : List MakeUpEntry) :
    emptyRecords own h c sequence q (xs ++ ys) = emptyRecords own h c sequence q xs ++
      emptyRecords own h c (sequenceAfter^[xs.length] sequence) (xs.foldl (emptyStep own) q) ys := by
  induction xs generalizing sequence q with
  | nil => rfl
  | cons x xs ih =>
    rw [List.cons_append, emptyRecords, ih]
    rfl

theorem emptyRecords_eq (xs : List HeldLane) (sequence : Nat) (q : List MakeUpEntry) (m : Nat) :
    (xs.zipIdx m).map (fun (x, i) =>
      emptyRecord own h c (sequenceAfter^[i - m] sequence) ((xs.take (i - m)).foldl (emptyStep own) q) x) =
      emptyRecords own h c sequence q xs := by
  induction xs generalizing sequence q m with
  | nil => rfl
  | cons x xs ih =>
    rw [List.zipIdx_cons, List.map_cons, emptyRecords, ← ih (sequenceAfter sequence) (emptyStep own q x) (m + 1)]
    refine congrArg₂ List.cons (by simp) (List.map_congr_left fun y hy => ?_)
    obtain ⟨y, i⟩ := y
    have hi : m + 1 ≤ i := (List.mem_zipIdx hy).1
    have hsucc : i - m = i - (m + 1) + 1 := by omega
    dsimp only
    rw [hsucc, Function.iterate_succ_apply, List.take_succ_cons, List.foldl_cons]

end

section
variable {s t u : State} {c : VoidCause} {r : Row} {rows : List Row}

/-- The numbered lanes among lane records of the row, the first being number `no`. -/
def Row.heldFrom (r : Row) (no : Nat) (ls : List LaneRec) : List HeldLane :=
  (ls.zipIdx no).filterMap (fun (l, no) => l.number.map (fun n => (r, no, l, n)))

/-- The numbered lanes of one row, in lane order (log entry 21). -/
def Row.heldLanes (r : Row) : List HeldLane := r.heldFrom 1 r.lanes

theorem State.lanesHeld_eq (s : State) : s.lanesHeld = s.pipe.rows.flatMap Row.heldLanes := rfl

theorem State.queueEmptied_eq (s : State) (i : Nat) :
    s.queueEmptied i = (s.lanesHeld.take i).foldl (emptyStep s.ownerOf) s.audit.queue := rfl

theorem State.emptied_eq (s : State) (c : VoidCause) :
    s.emptied c = emptyRecords s.ownerOf s.trk.h c s.audit.nextSequence s.audit.queue s.lanesHeld := by
  rw [← emptyRecords_eq _ _ _ _ _ _ 0]
  rfl

/-! ### One row -/

theorem CauseSet.insert_ne_zero (x : CauseSet) (c : VoidCause) : CauseSet.insert x c ≠ 0 := by
  intro hzero
  have hbit : (CauseSet.insert x c).getLsbD c.bit = true := by
    have hlt : c.bit < 15 := by cases c <;> decide
    simp [CauseSet.insert, hlt]
  rw [hzero] at hbit
  simp at hbit

theorem LaneRec.addCause_number (l : LaneRec) (c : VoidCause) : (l.addCause c).number = l.number := by
  unfold LaneRec.addCause
  split <;> rfl

theorem LaneRec.addCause_of_number {l : LaneRec} {n : LaneNumber} (hn : l.number = some n) (c : VoidCause) :
    l.addCause c = { l with causes := CauseSet.insert l.causes c } := by
  simp [LaneRec.addCause, LaneRec.isNumbered, hn]

theorem Row.heldFrom_cons (r : Row) (no : Nat) (l : LaneRec) (ls : List LaneRec) : r.heldFrom no (l :: ls) =
    (l.number.map (fun n => (r, no, l, n))).toList ++ r.heldFrom (no + 1) ls := by
  unfold Row.heldFrom
  rw [List.zipIdx_cons, List.filterMap_cons]
  dsimp only
  cases l.number <;> rfl

theorem Row.heldFrom_length (r : Row) (no : Nat) (ls : List LaneRec) : (r.heldFrom no ls).length = countNumbered ls := by
  induction ls generalizing no with
  | nil => rfl
  | cons l ls ih =>
    rw [Row.heldFrom_cons, countNumbered_cons, List.length_append, ih]
    unfold LaneRec.isNumbered
    cases l.number <;> rfl

section
variable {own : Nat → Port × Accounting} {owner : Port} {strict : Bool}

/-- The make-up queue that the lanes of a row leave once each has a cause and retires void. -/
theorem Row.queue_addCause (hstrict : strict = decide ((own r.job).2 = .strict)) (c : VoidCause) (ls : List LaneRec) (no : Nat)
    (q : List MakeUpEntry) : ((ls.map (fun l => l.addCause c)).zipIdx no).foldl ((r.addCause c).queueStep strict) q =
      (r.heldFrom no ls).foldl (emptyStep own) q := by
  induction ls generalizing no q with
  | nil => rfl
  | cons l ls ih =>
    rw [List.map_cons, List.zipIdx_cons, List.foldl_cons, Row.heldFrom_cons, List.foldl_append, ih]
    refine congrArg (fun q => List.foldl (emptyStep own) q _) ?_
    cases hn : l.number with
    | none => simp [Row.queueStep, LaneRec.addCause_number, hn]
    | some n =>
      have hvoid : ¬CauseSet.insert l.causes c = 0#15 := CauseSet.insert_ne_zero _ _
      simp [Row.queueStep, LaneRec.addCause_of_number hn, hn, emptyStep, hstrict, hvoid, Row.addCause]

/-- The records of the lanes of a row, each with a cause and retiring void. -/
theorem Row.voidRecords_addCause (howner : owner = (own r.job).1) (hstrict : strict = decide ((own r.job).2 = .strict)) (h : Pos)
    (c : VoidCause) (ls : List LaneRec) (no sequence : Nat) (q : List MakeUpEntry) :
    (r.addCause c).voidRecords owner strict h sequence q no (ls.map (fun l => l.addCause c)) =
      emptyRecords own h c sequence q (r.heldFrom no ls) := by
  induction ls generalizing no sequence q with
  | nil => rfl
  | cons l ls ih =>
    rw [List.map_cons, Row.voidRecords, Row.heldFrom_cons, LaneRec.addCause_number]
    cases hn : l.number with
    | none => exact ih _ _ _
    | some n =>
      have hvoid : ¬CauseSet.insert l.causes c = 0#15 := CauseSet.insert_ne_zero _ _
      have hqueue : (r.addCause c).queueStep strict q (l.addCause c, no) = emptyStep own q (r, no, l, n) := by
        simp [Row.queueStep, LaneRec.addCause_of_number hn, hn, emptyStep, hstrict, hvoid, Row.addCause]
      dsimp only [Option.map_some, Option.toList_some, List.cons_append]
      rw [hqueue, List.nil_append, emptyRecords, LaneRec.addCause_of_number hn]
      refine (if_neg (CauseSet.insert_ne_zero l.causes c)).trans ?_
      rw [ih]
      simp [Row.voidRecord, emptyRecord, howner, hstrict, Row.addCause]

end

theorem goodLanes_addCause (ls : List LaneRec) : goodLanes (ls.map (fun l => l.addCause c)) = 0 := by
  refine List.length_eq_zero_iff.2 (List.filter_eq_nil_iff.2 fun l hl => ?_)
  obtain ⟨x, -, rfl⟩ := List.mem_map.1 hl
  have hvoid : ¬CauseSet.insert x.causes c = 0#15 := CauseSet.insert_ne_zero _ _
  unfold LaneRec.addCause LaneRec.isNumbered
  cases hn : x.number <;> simp [hn, hvoid]

theorem blankLanes_addCause (ls : List LaneRec) : blankLanes (ls.map (fun l => l.addCause c)) = blankLanes ls := by
  unfold blankLanes
  rw [List.filter_map, List.length_map]
  refine congrArg _ (List.filter_congr fun l _ => ?_)
  simp only [Function.comp, LaneRec.isNumbered, LaneRec.addCause_number]

/-! ### MAKEUP raised for a number not queued -/

theorem PortState.raised_raised (x : PortState) (a : Attention) : (x.raised a).raised a = x.raised a := by
  have hhas : AttentionSet.has (x.raised a).pending a = true := by rw [PortState.raised_has]; simp
  rw [PortState.raised, if_pos hhas]

theorem State.raiseBoth_ports (s : State) (a : Attention) : s.raiseBoth a = (s.setLine (s.line.raised a)).setPanel
    (if s.portAbsent .panel then s.panel else s.panel.raised a) := by
  have hline : s.raiseAt .line a = s.setLine (s.line.raised a) := rfl
  unfold State.raiseBoth
  rw [hline, State.raiseAt]
  show (if s.portAbsent .panel then _ else _) = _
  split <;> rfl

theorem State.raiseIf_raiseIf (s : State) (b b' : Bool) (a : Attention) : (s.raiseIf b a).raiseIf b' a = s.raiseIf (b || b') a := by
  cases b <;> cases b'
  · rfl
  · rfl
  · rfl
  · show (s.raiseBoth a).raiseBoth a = s.raiseBoth a
    rw [State.raiseBoth_ports (s.raiseBoth a), State.raiseBoth_ports]
    show (s.setLine ((s.line.raised a).raised a)).setPanel
      (if s.portAbsent .panel then _ else PortState.raised (if _ then _ else _) a) = _
    rw [PortState.raised_raised]
    cases s.portAbsent .panel <;> simp [PortState.raised_raised]

theorem core_raiseIf (s : State) (b : Bool) (a : Attention) : (s.raiseIf b a).core = s.core := by
  unfold State.raiseIf
  split
  · exact core_raiseBoth s a
  · rfl

/-- In `t`, jobs, store and shift tallies apart, all is as in `s` but for MAKEUP raised where `b` holds; a warm reset in progress
remembers that it was (R151, R155 step 5). -/
structure Raised (s t : State) (b : Bool) : Prop where
  rest : t = (((s.raiseIf b .makeUp).setJobs t.jobs).setAudit t.audit).setShift t.shift
  notQueued : t.audit.resetNotQueued = (s.audit.resetNotQueued || (b && decide (s.audit.condition = .resetting)))
  condition : t.audit.condition = s.audit.condition

theorem Raised.trans {b b' : Bool} (h : Raised s t b) (k : Raised t u b') : Raised s u (b || b') where
  rest := by
    have hcarried : ∀ (v : State) (js : List Job) (x : AuditStore) (y : ShiftTallies),
        (((v.setJobs js).setAudit x).setShift y).raiseIf b' .makeUp =
          (((v.raiseIf b' .makeUp).setJobs js).setAudit x).setShift y := fun v js x y => by
      cases b'
      · rfl
      · show State.raiseBoth _ _ = State.setShift (State.setAudit (State.setJobs (State.raiseBoth _ _) _) _) _
        rw [State.raiseBoth_ports, State.raiseBoth_ports]
        rfl
    rw [k.rest, h.rest, hcarried, State.raiseIf_raiseIf]
    rfl
  notQueued := by
    rw [k.notQueued, h.notQueued, h.condition]
    cases b <;> cases b' <;> cases s.audit.resetNotQueued <;> simp
  condition := k.condition.trans h.condition

theorem Raised.trk {b : Bool} (h : Raised s t b) : t.trk = s.trk := by
  have hraise : (s.raiseIf b .makeUp).trk = s.trk := core_field State.trk (fun _ => rfl) (core_raiseIf s b .makeUp)
  rw [h.rest]
  exact hraise

/-- Nothing raised, and the condition and the memory of the reset as they stand. -/
theorem Raised.quiet (h : t = ((s.setJobs t.jobs).setAudit t.audit).setShift t.shift)
    (hq : t.audit.resetNotQueued = s.audit.resetNotQueued) (hc : t.audit.condition = s.audit.condition) : Raised s t false :=
  ⟨h, by rw [hq]; simp, hc⟩

theorem State.appendVoid_raised (s : State) (r : Row) (owner : Port) (strict : Bool) (no : Nat) (l : LaneRec) (n : LaneNumber) :
    Raised s (s.appendVoid r owner strict no l n) (strict && stepNotQueued s.audit.queue r.job n) := by
  unfold State.appendVoid
  dsimp only
  cases strict && stepNotQueued s.audit.queue r.job n with
  | false => exact Raised.quiet rfl (by simp) rfl
  | true =>
    rw [if_pos rfl, State.raiseBoth_ports]
    exact ⟨by rw [State.raiseIf, if_pos rfl, State.raiseBoth_ports]; rfl, rfl, rfl⟩

theorem State.disposeLane_raised (s : State) (r : Row) (owner : Port) (strict : Bool) (no : Nat) (l : LaneRec) (sequence : Nat)
    (h : Pos) : Raised s (s.disposeLane r owner strict no l)
      ((r.voidRecords owner strict h sequence s.audit.queue no [l]).any VoidRecord.notQueued) := by
  unfold State.disposeLane Row.voidRecords
  cases l.number with
  | none => exact Raised.quiet rfl rfl rfl
  | some n =>
    dsimp only
    split
    · cases strict <;> exact Raised.quiet rfl rfl rfl
    · have hraised := s.appendVoid_raised r owner strict no l n
      have hany : ((r.voidRecord owner strict h sequence s.audit.queue (l, no) n ::
          r.voidRecords owner strict h (sequenceAfter sequence) (r.queueStep strict s.audit.queue (l, no)) (no + 1) []).any
          VoidRecord.notQueued) = ((strict && stepNotQueued s.audit.queue r.job n) || false) := rfl
      rw [hany]
      exact hraised.trans (Raised.quiet rfl rfl rfl)

/-- Whether a void record is flagged NOT_QUEUED does not follow from its sequence (R151). -/
theorem Row.voidRecords_notQueued (r : Row) (owner : Port) (strict : Bool) (h : Pos) (ls : List LaneRec) (m m' : Nat)
    (q : List MakeUpEntry) (no : Nat) : (r.voidRecords owner strict h m q no ls).any VoidRecord.notQueued =
      (r.voidRecords owner strict h m' q no ls).any VoidRecord.notQueued := by
  induction ls generalizing m m' q no with
  | nil => rfl
  | cons l ls ih =>
    rw [Row.voidRecords, Row.voidRecords]
    cases l.number with
    | none => exact ih _ _ _ _
    | some n =>
      dsimp only
      split
      · exact ih _ _ _ _
      · rw [List.any_cons, List.any_cons, ih (sequenceAfter m) (sequenceAfter m')]
        rfl

theorem Row.voidRecords_notQueued_cons (r : Row) (owner : Port) (strict : Bool) (h : Pos) (l : LaneRec) (ls : List LaneRec)
    (m : Nat) (q : List MakeUpEntry) (no : Nat) : (r.voidRecords owner strict h m q no (l :: ls)).any VoidRecord.notQueued =
      ((r.voidRecords owner strict h m q no [l]).any VoidRecord.notQueued ||
        (r.voidRecords owner strict h m (r.queueStep strict q (l, no)) (no + 1) ls).any VoidRecord.notQueued) := by
  have hqueue : l.number = none → r.queueStep strict q (l, no) = q := fun hn => by simp [Row.queueStep, hn]
  rw [Row.voidRecords, Row.voidRecords]
  cases hn : l.number with
  | none => rw [hqueue hn]; rfl
  | some n =>
    dsimp only
    split
    · rfl
    · rw [List.any_cons, List.any_cons, r.voidRecords_notQueued owner strict h ls (sequenceAfter m) m]
      simp [Row.voidRecords]

theorem State.disposeLanes_raised (r : Row) (owner : Port) (strict : Bool) (h : Pos) (m : Nat) (ls : List LaneRec) (no : Nat)
    (s : State) : Raised s (s.disposeLanes r owner strict no ls)
      ((r.voidRecords owner strict h m s.audit.queue no ls).any VoidRecord.notQueued) := by
  induction ls generalizing no s with
  | nil => exact Raised.quiet rfl rfl rfl
  | cons l ls ih =>
    have hqueue : (s.disposeLane r owner strict no l).audit.queue = r.queueStep strict s.audit.queue (l, no) := by
      have hone := (State.disposeLanes_disposed r owner strict [l] no s).audit
      exact congrArg AuditStore.queue hone
    rw [Row.voidRecords_notQueued_cons]
    exact (s.disposeLane_raised r owner strict no l m h).trans (hqueue ▸ ih (no + 1) _)

/-! ### Rows disposed of with a cause, one after another -/

/-- In `t` some rows have been disposed of from `s` with a cause, as if they were all that the pipeline held (R88, R93, R94). -/
structure RowsEmptied (s t : State) (c : VoidCause) (rows : List Row) : Prop where
  jobs : t.jobs = s.jobs.map (s.setRows rows).jobEmptied
  shift : t.shift = (s.setRows rows).shiftEmptied
  inFlight : t.audit.inFlight = s.audit.inFlight ++ (s.setRows rows).emptied c
  queue : t.audit.queue = (s.setRows rows).queueEmptied (s.setRows rows).lanesHeld.length
  records : t.audit.records = s.audit.records.map (s.setRows rows).recordEmptied
  store : t.audit = { s.audit with
    inFlight := t.audit.inFlight
    queue := t.audit.queue
    records := t.audit.records
    resetNotQueued := t.audit.resetNotQueued }
  raised : Raised s t (((s.setRows rows).emptied c).any VoidRecord.notQueued)

theorem RowsEmptied.refl (s : State) (c : VoidCause) : RowsEmptied s s c [] where
  jobs := (map_id_of_forall fun j _ => by simp [State.jobEmptied, countUp, State.setRows]).symm
  shift := rfl
  inFlight := (List.append_nil _).symm
  queue := rfl
  records := (map_id_of_forall fun z _ => by simp [State.recordEmptied, State.setRows]).symm
  store := rfl
  raised := Raised.quiet rfl rfl rfl

/-- The sequence of the next record, once records have been appended in sequence (R146). -/
theorem AuditStore.nextSequence_emptied {a b : AuditStore} {own : Nat → Port × Accounting} {h : Pos} {q : List MakeUpEntry}
    {xs : List HeldLane} (hflight : b.inFlight = a.inFlight ++ emptyRecords own h c a.nextSequence q xs)
    (hvoids : b.voids = a.voids) : b.nextSequence = sequenceAfter^[xs.length] a.nextSequence := by
  induction xs using List.reverseRecOn with
  | nil => exact AuditStore.nextSequence_congr (hflight.trans (List.append_nil _)) hvoids
  | append_singleton xs x =>
    rw [emptyRecords_append, ← List.append_assoc] at hflight
    rw [AuditStore.nextSequence_append hflight, List.length_append, List.length_singleton, Function.iterate_succ_apply']
    rfl

theorem RowsEmptied.ownerOf (h : RowsEmptied s t c rows) : t.ownerOf = s.ownerOf := by
  funext id
  have hfind : t.job id = (s.job id).map (s.setRows rows).jobEmptied := by
    unfold State.job
    rw [h.jobs]
    exact find_id_map s.jobs (s.setRows rows).jobEmptied (fun _ => rfl) id
  unfold State.ownerOf
  rw [hfind]
  cases s.job id <;> rfl

theorem State.jobEmptied_append (s t : State) (rows rows' : List Row) (j : Job) :
    (s.setRows (rows ++ rows')).jobEmptied j = (t.setRows rows').jobEmptied ((s.setRows rows).jobEmptied j) := by
  simp only [State.jobEmptied, State.setRows, State.setPipe_pipe, List.filter_append, List.length_append, List.map_append,
    List.sum_append, List.flatMap_append, countUp_add]
  rfl

theorem State.recordEmptied_append (s t : State) (rows rows' : List Row) (z : RecoveryRecord) :
    (s.setRows (rows ++ rows')).recordEmptied z = (t.setRows rows').recordEmptied ((s.setRows rows).recordEmptied z) := by
  by_cases hz : z.state = .opened
  · simp only [State.recordEmptied, State.setRows, State.setPipe_pipe, hz, if_true, List.filter_append, List.length_append,
      List.map_append, List.sum_append, List.flatMap_append, Nat.add_assoc]
  · simp only [State.recordEmptied, hz, if_false]

theorem State.shiftEmptied_append (rows rows' : List Row) (h : t.shift = (s.setRows rows).shiftEmptied) :
    (s.setRows (rows ++ rows')).shiftEmptied = (t.setRows rows').shiftEmptied := by
  simp only [State.shiftEmptied, State.lanesHeld_eq, State.setRows, State.setPipe_pipe, State.setPipe_shift, h,
    List.length_append, List.flatMap_append, List.filter_append, countUp_add]

theorem RowsEmptied.trans {rows' : List Row} (h : RowsEmptied s t c rows) (k : RowsEmptied t u c rows') :
    RowsEmptied s u c (rows ++ rows') := by
  have hvoids : t.audit.voids = s.audit.voids := (congrArg AuditStore.voids h.store :)
  have hsequence : t.audit.nextSequence = sequenceAfter^[(rows.flatMap Row.heldLanes).length] s.audit.nextSequence :=
    AuditStore.nextSequence_emptied (h.inFlight.trans (congrArg _ (State.emptied_eq _ c))) hvoids
  have hqueue : t.audit.queue = (rows.flatMap Row.heldLanes).foldl (emptyStep s.ownerOf) s.audit.queue :=
    h.queue.trans (congrArg (List.foldl _ _) (List.take_length ..))
  have htrk : t.trk = s.trk := h.raised.trk
  have hemptied : (s.setRows (rows ++ rows')).emptied c = (s.setRows rows).emptied c ++ (t.setRows rows').emptied c := by
    rw [State.emptied_eq, State.emptied_eq, State.emptied_eq]
    show emptyRecords s.ownerOf s.trk.h c s.audit.nextSequence s.audit.queue ((rows ++ rows').flatMap Row.heldLanes) =
      emptyRecords s.ownerOf s.trk.h c s.audit.nextSequence s.audit.queue (rows.flatMap Row.heldLanes) ++
        emptyRecords t.ownerOf t.trk.h c t.audit.nextSequence t.audit.queue (rows'.flatMap Row.heldLanes)
    rw [List.flatMap_append, emptyRecords_append, h.ownerOf, htrk, hsequence, hqueue]
  have hqueue' : (t.setRows rows').queueEmptied (t.setRows rows').lanesHeld.length =
      (s.setRows (rows ++ rows')).queueEmptied (s.setRows (rows ++ rows')).lanesHeld.length := by
    rw [State.queueEmptied_eq, State.queueEmptied_eq, List.take_length, List.take_length]
    show (rows'.flatMap Row.heldLanes).foldl (emptyStep t.ownerOf) t.audit.queue =
      ((rows ++ rows').flatMap Row.heldLanes).foldl (emptyStep s.ownerOf) s.audit.queue
    rw [List.flatMap_append, List.foldl_append, h.ownerOf, hqueue]
  refine ⟨?_, ?_, ?_, k.queue.trans hqueue', ?_, ?_, ?_⟩
  · rw [k.jobs, h.jobs, List.map_map]
    exact List.map_congr_left fun j _ => (State.jobEmptied_append s t rows rows' j).symm
  · exact k.shift.trans (State.shiftEmptied_append rows rows' h.shift).symm
  · rw [k.inFlight, h.inFlight, hemptied, List.append_assoc]
  · rw [k.records, h.records, List.map_map]
    exact List.map_congr_left fun z _ => (State.recordEmptied_append s t rows rows' z).symm
  · exact k.store.trans (congrArg (fun a : AuditStore => { a with
      inFlight := u.audit.inFlight
      queue := u.audit.queue
      records := u.audit.records
      resetNotQueued := u.audit.resetNotQueued }) h.store)
  · rw [hemptied, List.any_append]
    exact h.raised.trans k.raised

/-! ### Each row in turn -/

/-- The lanes of a row are disposed of by the owner and the accounting of its job (R88, R89). -/
theorem State.disposeRow_ownerOf (s : State) (r : Row) : s.disposeRow r =
    (s.disposeLanes r (s.ownerOf r.job).1 (decide ((s.ownerOf r.job).2 = .strict)) 1 r.lanes).rowCounted r := by
  unfold State.disposeRow State.ownerOf
  cases s.job r.job <;> rfl

theorem Row.fromDraw_addCause (r : Row) (c : VoidCause) : (r.addCause c).fromDraw = r.fromDraw := by
  unfold Row.fromDraw
  show (r.lanes.map _).any _ = _
  rw [List.any_map]
  exact congrArg (List.any r.lanes) (funext fun l => by simp only [Function.comp, LaneRec.fromDraw, LaneRec.addCause_number])

theorem Row.fromFeed_addCause (r : Row) (c : VoidCause) :
    ((r.addCause c).lanes.filter LaneRec.fromFeed).length = (r.lanes.filter LaneRec.fromFeed).length := by
  show ((r.lanes.map _).filter _).length = _
  rw [List.filter_map, List.length_map]
  exact congrArg _ (List.filter_congr fun l _ => by simp only [Function.comp, LaneRec.fromFeed, LaneRec.addCause_number])

theorem State.emptied_single (s : State) (c : VoidCause) (r : Row) : (s.setRows [r]).emptied c =
    emptyRecords s.ownerOf s.trk.h c s.audit.nextSequence s.audit.queue (r.heldFrom 1 r.lanes) := by
  have hheld : (s.setRows [r]).lanesHeld = r.heldFrom 1 r.lanes := List.append_nil _
  rw [State.emptied_eq, hheld]
  rfl

theorem State.queueEmptied_single (s : State) (r : Row) : (s.setRows [r]).queueEmptied (s.setRows [r]).lanesHeld.length =
    (r.heldFrom 1 r.lanes).foldl (emptyStep s.ownerOf) s.audit.queue := by
  have hheld : (s.setRows [r]).lanesHeld = r.heldFrom 1 r.lanes := List.append_nil _
  rw [State.queueEmptied_eq, List.take_length, hheld]
  rfl

/-- The lanes of one row, each retired void with the cause (R88, R89, R151). -/
theorem State.disposeLanes_emptied (s : State) (c : VoidCause) (r : Row) :
    let t := s.disposeLanes (r.addCause c) (s.ownerOf r.job).1 (decide ((s.ownerOf r.job).2 = .strict)) 1 (r.addCause c).lanes
    Disposed s t (r.addCause c) 0 r.numbered (blankLanes r.lanes) ((s.setRows [r]).emptied c)
        ((s.setRows [r]).queueEmptied (s.setRows [r]).lanesHeld.length) ∧
      Raised s t (((s.setRows [r]).emptied c).any VoidRecord.notQueued) := by
  have hrecs := r.voidRecords_addCause (own := s.ownerOf) rfl rfl s.trk.h c r.lanes 1 s.audit.nextSequence s.audit.queue
  have hqueue := r.queue_addCause (own := s.ownerOf) rfl c r.lanes 1 s.audit.queue
  have hnumbered : r.numbered = (emptyRecords s.ownerOf s.trk.h c s.audit.nextSequence s.audit.queue
      (r.heldFrom 1 r.lanes)).length := by
    rw [emptyRecords_length, Row.heldFrom_length]
    rfl
  rw [s.emptied_single, s.queueEmptied_single, hnumbered, ← hrecs, ← hqueue, ← goodLanes_addCause (c := c) r.lanes,
    ← blankLanes_addCause (c := c) r.lanes]
  exact ⟨State.disposeLanes_disposed .., State.disposeLanes_raised ..⟩

theorem Raised.rowCounted {b : Bool} (h : Raised s t b) (r : Row) : Raised s (t.rowCounted r) b where
  rest := by
    have hrest := h.rest
    generalize s.raiseIf b .makeUp = x at hrest ⊢
    exact (congrArg (fun y : State => ((y.setJobs (t.rowCounted r).jobs).setAudit (t.rowCounted r).audit).setShift
      (t.rowCounted r).shift) hrest :)
  notQueued := h.notQueued
  condition := h.condition

theorem RowsEmptied.single (s : State) (c : VoidCause) (r : Row) : RowsEmptied s (s.disposeRow (r.addCause c)) c [r] := by
  obtain ⟨hlanes, hraised⟩ := s.disposeLanes_emptied c r
  have hrow : s.disposeRow (r.addCause c) = (s.disposeLanes (r.addCause c) (s.ownerOf r.job).1
      (decide ((s.ownerOf r.job).2 = .strict)) 1 (r.addCause c).lanes).rowCounted (r.addCause c) := s.disposeRow_ownerOf _
  rw [hrow]
  generalize s.disposeLanes (r.addCause c) (s.ownerOf r.job).1 (decide ((s.ownerOf r.job).2 = .strict)) 1
    (r.addCause c).lanes = w at hlanes hraised ⊢
  refine ⟨?_, ?_, ?_, ?_, ?_, ?_, ?_⟩
  · show w.jobs.map _ = _
    rw [hlanes.jobs, List.map_map]
    refine List.map_congr_left fun z _ => ?_
    by_cases hz : z.id = r.job <;> simp [hz, State.jobEmptied, State.setRows, countUp, blankLanes, Row.addCause, eq_comm]
  · show ({ w.shift with rows := satAdd w.shift.rows 1 } : ShiftTallies) = _
    have hheld : (s.setRows [r]).lanesHeld.length = r.numbered :=
      (congrArg List.length (List.append_nil _)).trans (r.heldFrom_length 1 r.lanes)
    rw [hlanes.shift, State.shiftEmptied, hheld]
    simp [State.setRows, countUp, blankLanes]
  · exact congrArg AuditStore.inFlight hlanes.audit
  · exact congrArg AuditStore.queue hlanes.audit
  · show w.audit.records.map _ = _
    have hrecords := congrArg AuditStore.records hlanes.audit
    dsimp only at hrecords
    rw [hrecords, List.map_map]
    refine List.map_congr_left fun z _ => ?_
    have hsame : (r.addCause c).job = r.job := rfl
    have hdraw : ([r].filter Row.fromDraw).length = if r.fromDraw then 1 else 0 := by cases hr : r.fromDraw <;> simp [hr]
    by_cases hjob : z.job = r.job
    · by_cases hopen : z.state = .opened
      · simp [State.recordEmptied, State.setRows, hjob, hopen, hdraw, hsame, Row.fromFeed_addCause,
          Row.fromDraw_addCause]
      · simp [State.recordEmptied, hopen]
    · have hnone : ([r].filter (fun x => decide (x.job = z.job))) = [] := by simp [Ne.symm hjob]
      simp [State.recordEmptied, State.setRows, hjob, hnone, hsame]
  · exact congrArg (fun a : AuditStore => { a with
      inFlight := w.audit.inFlight
      queue := w.audit.queue
      records := (w.rowCounted (r.addCause c)).audit.records
      resetNotQueued := w.audit.resetNotQueued }) hlanes.audit
  · exact hraised.rowCounted (r.addCause c)

/-- The rows of the pipeline, oldest first, each with the cause and disposed of (R93, R94). -/
def State.rowsDisposed (s : State) (c : VoidCause) (rows : List Row) : State :=
  rows.foldl (fun s r => s.disposeRow (r.addCause c)) s

theorem State.rowsDisposed_emptied (s : State) (c : VoidCause) (rows : List Row) :
    RowsEmptied s (s.rowsDisposed c rows) c rows := by
  induction rows generalizing s with
  | nil => exact .refl s c
  | cons r rows ih => exact (RowsEmptied.single s c r).trans (ih _)

end

end Sys2Proof.Machine

namespace Sys2Proof.Machine

/-! ## Level conditions that end (R166, R167)

What the emptying of the pipeline and the return to FREE do to the Stop Unit is that some level conditions are no longer held. In a
consistent Stop Unit that moves no output, and so no port. -/

section
variable {s t u : State}

/-- In `t` the level conditions of `f` have ended from `s`. -/
structure Eased (s t : State) (f : StopCause → Bool) : Prop where
  latched : t.stop.latched = s.stop.latched
  mask : t.stop.mask = s.stop.mask
  held : ∀ x, StopSet.has t.stop.held x = (StopSet.has s.stop.held x && !f x)
  steady : s.stop.Consistent → t.stop.Consistent ∧ t.stop.output = s.stop.output ∧ t.line = s.line ∧ t.panel = s.panel

theorem Eased.of_eq (hstop : t.stop = s.stop) (hline : t.line = s.line) (hpanel : t.panel = s.panel) :
    Eased s t (fun _ => false) where
  latched := congrArg StopUnit.latched hstop
  mask := congrArg StopUnit.mask hstop
  held := fun x => by rw [hstop]; simp
  steady := fun h => ⟨hstop ▸ h, congrArg StopUnit.output hstop, hline, hpanel⟩

theorem Eased.trans {f g : StopCause → Bool} (h : Eased s t f) (k : Eased t u g) : Eased s u (fun x => f x || g x) where
  latched := k.latched.trans h.latched
  mask := k.mask.trans h.mask
  held := fun x => by rw [k.held, h.held]; cases f x <;> cases g x <;> simp
  steady := fun hs => by
    obtain ⟨ht, hout, hline, hpanel⟩ := h.steady hs
    obtain ⟨hu, hout', hline', hpanel'⟩ := k.steady ht
    exact ⟨hu, hout'.trans hout, hline'.trans hline, hpanel'.trans hpanel⟩

theorem Eased.congr {f g : StopCause → Bool} (h : Eased s t f) (hfg : ∀ x, f x = g x) : Eased s t g :=
  (funext hfg : f = g) ▸ h

theorem State.endLevel_eased (s : State) (c : StopCause) : Eased s (s.endLevel c) (fun x => decide (c = x)) where
  latched := by
    unfold State.endLevel
    split
    · rw [State.changeStop_stop]
      rfl
    · rfl
  mask := by
    unfold State.endLevel
    split
    · rw [State.changeStop_stop]
      rfl
    · rfl
  held := fun x => congrFun (congrArg Signals.held (signals_endLevel s c)) x
  steady := fun h => by
    rw [State.endLevel_of_consistent h]
    refine ⟨⟨h.1, ?_⟩, rfl, rfl, rfl⟩
    refine (StopSet.within_iff _ _).2 fun i hi => ?_
    have hheld := (StopSet.within_iff _ _).1 h.2 i
    exact hheld (by simp [StopSet.erase] at hi; exact hi.1)

theorem State.endLevels_eased (cs : List StopCause) (s : State) :
    Eased s (cs.foldl State.endLevel s) (fun x => decide (x ∈ cs)) := by
  induction cs generalizing s with
  | nil => exact Eased.of_eq rfl rfl rfl
  | cons c cs ih => exact ((s.endLevel_eased c).trans (ih _)).congr fun x => by simp [eq_comm]

/-! ### The return to FREE in any condition (R7, R21, R37, R42, R79) -/

/-- The level conditions that can end with the epoch: MARK_LOST at the return to FREE, and VOID_RESERVE. -/
def levelsEased (freed reserve : Bool) : StopCause → Bool
  | .markLost _ => freed
  | .voidReserve => reserve
  | _ => false

theorem State.clearReserve_eased (s : State) :
    Eased s s.clearReserve (fun x => s.pipe.reserve && decide (.voidReserve = x)) := by
  unfold State.clearReserve
  cases s.pipe.reserve with
  | true =>
    have hcleared : Eased s (s.setPipe { s.pipe with reserve := false }) _ := Eased.of_eq rfl rfl rfl
    rw [if_pos rfl]
    exact (hcleared.trans (State.endLevel_eased _ _)).congr fun x => by simp
  | false => exact Eased.of_eq rfl rfl rfl

theorem State.marksOff_eased (s : State) : Eased s s.marksOff (levelsEased true false) := by
  have hends : s.marksOff = (Ply.all.map StopCause.markLost).foldl State.endLevel
      (s.windowsOff.setMarks (s.marks.map MarkPly.off)) := rfl
  rw [hends]
  have hsame : Eased s (s.windowsOff.setMarks (s.marks.map MarkPly.off)) _ := Eased.of_eq rfl rfl rfl
  refine (hsame.trans (State.endLevels_eased _ _)).congr fun x => ?_
  cases x with
  | markLost p => simp [levelsEased, p.mem_all]
  | _ => simp [levelsEased]

/-- The state but for the Stop Unit and the ports once the Tracker has returned to FREE, the reserve condition kept in SAVING and
SAVED (R7, R79). -/
def State.atFree (s : State) : State := s.freed.setPipe { s.freed.pipe with reserve := s.pipe.reserve && s.savingOrSaved }

/-- The level conditions that end at the return to FREE (R37, R79). -/
def State.easedAtFree (s : State) : StopCause → Bool := levelsEased true (s.pipe.reserve && !s.savingOrSaved)

/-- The epoch discarded, the plies OFF, the zone lists emptied and the next index removed: the reserve condition is to come. -/
def State.allOff (s : State) : State := s.closed.marksOff.zonesOff.setPipe { s.pipe with nextIndex := none }

theorem State.allOff_core (s : State) : s.allOff.core = (s.freed.setPipe { s.pipe with nextIndex := none }).core :=
  congrArg (fun x : State => x.setPipe { s.pipe with nextIndex := none }) (core_closed s)

theorem State.allOff_eased (s : State) : Eased s s.allOff (levelsEased true false) := by
  have hclosed : Eased s s.closed _ := Eased.of_eq rfl rfl rfl
  have hrest : Eased s.closed.marksOff s.allOff _ := Eased.of_eq rfl rfl rfl
  exact ((hclosed.trans s.closed.marksOff_eased).trans hrest).congr fun x => by cases x <;> rfl

theorem State.returnToFree_allOff (s : State) : s.returnToFree = if s.savingOrSaved then s.allOff else s.allOff.clearReserve := by
  have hcore := core_closed s
  have hfree : s.returnToFree = if (s.closed.marksOff.zonesOff.setPipe { s.closed.marksOff.zonesOff.pipe with
      nextIndex := none }).savingOrSaved then s.closed.marksOff.zonesOff.setPipe { s.closed.marksOff.zonesOff.pipe with
      nextIndex := none } else (s.closed.marksOff.zonesOff.setPipe { s.closed.marksOff.zonesOff.pipe with
      nextIndex := none }).clearReserve := rfl
  rw [hfree]
  unfold State.allOff
  generalize s.closed.marksOff.zonesOff = z at hcore
  have hpipe : z.pipe = s.pipe := (core_field State.pipe (fun _ => rfl) hcore).trans rfl
  have hsaving : (z.setPipe { z.pipe with nextIndex := none }).savingOrSaved = s.savingOrSaved :=
    (core_field State.savingOrSaved (fun _ => rfl) hcore).trans rfl
  rw [hsaving, hpipe]

theorem State.returnToFree_atFree (s : State) : s.returnToFree.core = s.atFree.core := by
  have hoff := s.allOff_core
  rw [State.returnToFree_allOff]
  unfold State.atFree
  cases s.savingOrSaved with
  | true =>
    rw [Bool.and_true]
    exact hoff
  | false =>
    rw [if_neg (by simp), core_clearReserve, Bool.and_false]
    exact congrArg (fun x : State => x.setPipe { s.pipe with nextIndex := none, reserve := false }) hoff

theorem State.returnToFree_eased (s : State) : Eased s s.returnToFree s.easedAtFree := by
  have hreserve : s.allOff.pipe.reserve = s.pipe.reserve := rfl
  rw [State.returnToFree_allOff]
  cases hsaving : s.savingOrSaved with
  | true => exact s.allOff_eased.congr fun x => by cases x <;> simp [State.easedAtFree, levelsEased, hsaving]
  | false =>
    refine (s.allOff_eased.trans s.allOff.clearReserve_eased).congr fun x => ?_
    cases x <;> simp [State.easedAtFree, levelsEased, hsaving, hreserve]

theorem State.testFree_atFree (s : State) : s.testFree.core = (if s.goesFree then s.atFree else s).core := by
  rw [State.testFree_eq]
  split
  · exact s.returnToFree_atFree
  · rfl

theorem State.testFree_eased (s : State) : Eased s s.testFree (fun x => s.goesFree && s.easedAtFree x) := by
  rw [State.testFree_eq]
  cases s.goesFree with
  | true => exact s.returnToFree_eased
  | false => exact Eased.of_eq rfl rfl rfl

/-! ### The pipeline emptied -/

/-- The rows gone, with the send requests, expectations and positions kept for them (R93, R94). -/
def State.withdrawn (s : State) : State :=
  (s.setRows []).withdrawAllSends.endAllExpectations.unschedule
    (fun ev => match ev with | .merge _ | .marker _ | .delivery _ => true | _ => false)

theorem State.emptyPipeline_eq (s : State) (c : VoidCause) :
    s.emptyPipeline c = (s.rowsDisposed c s.pipe.rows).withdrawn.testFree := rfl

/-- The pipeline emptied, the reserve condition kept in SAVING and SAVED and cleared otherwise, and the drivers' orders abandoned
(R93, R94, R110, R111). -/
def State.emptiedOut (s : State) (c : VoidCause) : State :=
  (if s.savingOrSaved then s.emptyPipeline c else (s.emptyPipeline c).clearReserve).abandonAll

theorem State.beginSave_eq (s : State) : s.beginSave = (s.setCondition .saving).emptiedOut .power := rfl

/-- The store as a warm reset begins (R155 step 1). -/
def AuditStore.resetBegun (a : AuditStore) : AuditStore :=
  { a with
    condition := .resetting
    resetDue := false
    resetNotQueued := false
    resetStage := .emptied }

theorem State.beginReset_eq (s : State) : s.beginReset = (s.setAudit s.audit.resetBegun).emptiedOut .reset := rfl

/-- The return to FREE at the emptying of the pipeline: an epoch is open and no job is RUNNING (R7). -/
def State.freesEmpty (s : State) : Bool := decide (s.running = none ∧ s.trk.epoch ≠ none)

/-- What the emptying of the pipeline makes of a state whose rows are disposed of, but for the Stop Unit and the ports. -/
def State.emptiedCore (s : State) : State :=
  let u := if s.withdrawn.goesFree then s.withdrawn.atFree else s.withdrawn
  (u.setPipe { u.pipe with reserve := s.pipe.reserve && s.savingOrSaved }).abandonAll

theorem core_abandonAll (h : t.core = s.core) : t.abandonAll.core = s.abandonAll.core := by
  have hdrivers : t.drivers = s.drivers := core_field State.drivers (fun _ => rfl) h
  unfold State.abandonAll
  rw [hdrivers]
  exact congrArg (fun x : State => x.setDrivers _) h

theorem core_keepReserve (h : t.core = s.core) (b : Bool) :
    (t.setPipe { t.pipe with reserve := b }).core = (s.setPipe { s.pipe with reserve := b }).core := by
  have hpipe : t.pipe = s.pipe := core_field State.pipe (fun _ => rfl) h
  rw [hpipe]
  exact congrArg (fun x : State => x.setPipe { s.pipe with reserve := b }) h

section
variable (s : State) (c : VoidCause)

theorem State.rowsDisposed_savingOrSaved : (s.rowsDisposed c s.pipe.rows).savingOrSaved = s.savingOrSaved := by
  unfold State.savingOrSaved
  rw [(s.rowsDisposed_emptied c s.pipe.rows).raised.condition]

theorem State.emptiedOut_core : (s.emptiedOut c).core = (s.rowsDisposed c s.pipe.rows).emptiedCore.core := by
  have hsaving := s.rowsDisposed_savingOrSaved c
  rw [State.emptiedOut, State.emptyPipeline_eq]
  generalize s.rowsDisposed c s.pipe.rows = w at hsaving ⊢
  have hfree := w.withdrawn.testFree_atFree
  refine core_abandonAll ?_
  rw [hsaving]
  cases hs : s.savingOrSaved with
  | true =>
    rw [if_pos rfl, hfree, Bool.and_true]
    cases w.withdrawn.goesFree with
    | true =>
      have hkept : w.withdrawn.atFree.setPipe { w.withdrawn.atFree.pipe with reserve := w.pipe.reserve } = w.withdrawn.atFree := by
        have hreserve : w.withdrawn.atFree.pipe.reserve = w.pipe.reserve := by
          show (w.pipe.reserve && w.savingOrSaved) = _
          rw [hsaving, hs, Bool.and_true]
        rw [← hreserve]
        rfl
      rw [if_pos rfl, hkept]
    | false => rfl
  | false => rw [if_neg (by simp), core_clearReserve, Bool.and_false, core_keepReserve hfree]

/-- The level conditions that end as the pipeline is emptied (R37, R79, R93). -/
def State.easedEmpty : StopCause → Bool := levelsEased s.withdrawn.goesFree (s.pipe.reserve && !s.savingOrSaved)

theorem State.emptiedOut_eased : Eased (s.rowsDisposed c s.pipe.rows) (s.emptiedOut c)
    (s.rowsDisposed c s.pipe.rows).easedEmpty := by
  have hsaving := s.rowsDisposed_savingOrSaved c
  rw [State.emptiedOut, State.emptyPipeline_eq]
  generalize s.rowsDisposed c s.pipe.rows = w at hsaving ⊢
  have hwithdrawn : Eased w w.withdrawn _ := Eased.of_eq rfl rfl rfl
  have hfree := hwithdrawn.trans w.withdrawn.testFree_eased
  have habandoned : ∀ x : State, Eased x x.abandonAll _ := fun x => Eased.of_eq rfl rfl rfl
  have hreserve : w.withdrawn.testFree.pipe.reserve = (w.pipe.reserve && (!w.withdrawn.goesFree || w.savingOrSaved)) := by
    rw [core_field State.pipe (fun _ => rfl) w.withdrawn.testFree_atFree]
    cases w.withdrawn.goesFree with
    | true => rfl
    | false => exact (Bool.and_true _).symm
  have hwsaving : w.withdrawn.savingOrSaved = w.savingOrSaved := rfl
  have hwreserve : w.withdrawn.pipe.reserve = w.pipe.reserve := rfl
  cases hs : s.savingOrSaved with
  | true =>
    refine (hfree.trans (habandoned _)).congr fun x => ?_
    cases x <;> simp [State.easedEmpty, State.easedAtFree, levelsEased, hwsaving, hsaving, hs]
  | false =>
    refine ((hfree.trans (State.clearReserve_eased _)).trans (habandoned _)).congr fun x => ?_
    cases x <;> simp [State.easedEmpty, State.easedAtFree, levelsEased, hwsaving, hwreserve, hsaving, hs, hreserve]
    cases w.pipe.reserve <;> simp

end

end

end Sys2Proof.Machine

namespace Sys2Proof.Machine

/-! ## The emptied pipeline, block by block (R88, R93, R94, R110, R111) -/

section
variable (w : State)

theorem State.withdrawn_eq : w.withdrawn = (((w.setPipe { w.pipe with rows := [] }).setRequests []).setReaders
    (w.readers.map (fun x => { x with expectations := [] }))).setTrk { w.trk with
      schedule := w.trk.schedule.filter (fun y => match y.ev with
        | .merge _ | .marker _ | .delivery _ | .send _ _ => false
        | _ => true) } := by
  have hschedule : w.trk.schedule.filter (fun y => match y.ev with
      | .merge _ | .marker _ | .delivery _ | .send _ _ => false
      | _ => true) = w.withdrawn.trk.schedule := by
    refine ((List.filter_filter ..).trans (List.filter_congr fun y _ => ?_)).symm
    cases y.ev <;> rfl
  rw [hschedule]
  rfl

theorem State.atFree_eq : w.atFree = (((w.setTrk { w.trk with
    epoch := none
    schedule := w.trk.schedule.filter (fun y => !y.ev.endsAtFree) }).setMarks (w.marks.map MarkPly.off)).setZones
      (PerPly.all [])).setPipe { w.pipe with nextIndex := none, reserve := w.pipe.reserve && w.savingOrSaved } := by
  rw [← w.freed_schedule]
  rfl

/-- The Tracker of an emptied pipeline, returned to FREE or not (R7, R40, R42, R93, R94). -/
def Tracker.emptied (x : Tracker) (freed : Bool) : Tracker :=
  { x with
    epoch := if freed then none else x.epoch
    schedule := x.schedule.filter (fun y => match y.ev with
      | .merge _ | .marker _ | .delivery _ | .send _ _ => false
      | .windowEnd _ | .zoneExpiry _ => !freed
      | .pulseEnd _ => true) }

/-- The Tracker, the marks and the zones of an emptied pipeline. -/
def State.webEmptied (freed : Bool) : State :=
  ((w.setTrk (w.trk.emptied freed)).setMarks (if freed then w.marks.map MarkPly.off else w.marks)).setZones
    (if freed then PerPly.all [] else w.zones)

theorem State.emptiedCore_eq : w.emptiedCore = (((((w.webEmptied w.withdrawn.goesFree).setPipe { w.pipe with
    rows := []
    nextIndex := if w.withdrawn.goesFree then none else w.pipe.nextIndex
    reserve := w.pipe.reserve && w.savingOrSaved }).setRequests []).setReaders
      (w.readers.map (fun x => { x with expectations := [] }))).setDrivers (w.drivers.map DriverRec.abandon)) := by
  have hfreed : w.withdrawn.atFree.trk = w.trk.emptied true := by
    rw [State.atFree_eq, State.withdrawn_eq]
    refine congrArg (fun l => ({ w.trk with epoch := none, schedule := l } : Tracker)) ?_
    refine (List.filter_filter ..).trans (List.filter_congr fun y _ => ?_)
    cases y.ev <;> rfl
  have hkept : w.withdrawn.trk = w.trk.emptied false := by
    rw [State.withdrawn_eq]
    refine congrArg (fun l => ({ w.trk with schedule := l } : Tracker)) (List.filter_congr fun y _ => ?_)
    cases y.ev <;> rfl
  unfold State.emptiedCore State.webEmptied
  cases w.withdrawn.goesFree with
  | true =>
    rw [← hfreed, State.atFree_eq, State.withdrawn_eq]
    rfl
  | false =>
    rw [← hkept, State.withdrawn_eq]
    rfl

theorem State.withdrawn_goesFree : w.withdrawn.goesFree = w.freesEmpty := by
  have hgoes : w.withdrawn.goesFree = (w.trk.epoch.isSome && w.running.isNone && true) := rfl
  rw [hgoes, State.freesEmpty]
  cases w.running <;> cases w.trk.epoch <;> rfl

end

/-! ### From the rows that are disposed of -/

section
variable {s t : State} {b : Bool}

theorem Raised.core (h : Raised s t b) : t.core = (((s.setJobs t.jobs).setAudit t.audit).setShift t.shift).core := by
  have hrest := h.rest
  have hraised := core_raiseIf s b .makeUp
  generalize s.raiseIf b .makeUp = x at hrest hraised
  exact (congrArg State.core hrest).trans
    (congrArg (fun y : State => ((y.setJobs t.jobs).setAudit t.audit).setShift t.shift) hraised :)

theorem Raised.stop (h : Raised s t b) : t.stop = s.stop := by
  have hraised : (s.raiseIf b .makeUp).stop = s.stop := by
    unfold State.raiseIf
    split
    · exact State.raiseBoth_stop _ _
    · rfl
  rw [h.rest]
  exact hraised

theorem RowsEmptied.running {c : VoidCause} {rows : List Row} (h : RowsEmptied s t c rows) :
    t.running = s.running.map (s.setRows rows).jobEmptied := by
  unfold State.running
  rw [h.jobs, List.find?_map]
  rfl

theorem RowsEmptied.freesEmpty {c : VoidCause} {rows : List Row} (h : RowsEmptied s t c rows) : t.freesEmpty = s.freesEmpty := by
  unfold State.freesEmpty
  rw [h.running, h.raised.trk]
  cases s.running <;> simp

theorem State.emptiedOut_emptied (s : State) (c : VoidCause) : s.Emptied (s.emptiedOut c) c s.savingOrSaved := by
  have hrows := s.rowsDisposed_emptied c s.pipe.rows
  have hsaving := s.rowsDisposed_savingOrSaved c
  have hcore := s.emptiedOut_core c
  have heased := s.emptiedOut_eased c
  generalize s.rowsDisposed c s.pipe.rows = w at hrows hsaving hcore heased
  generalize s.emptiedOut c = t at hcore heased
  rw [State.emptiedCore_eq, State.withdrawn_goesFree, hrows.freesEmpty] at hcore
  have hw := hrows.raised.core
  have hstop := hrows.raised.stop
  have htrk := hrows.raised.trk
  have hpipe : w.pipe = s.pipe := (core_field State.pipe (fun _ => rfl) hw).trans rfl
  have hreaders : w.readers = s.readers := (core_field State.readers (fun _ => rfl) hw).trans rfl
  have hdrivers : w.drivers = s.drivers := (core_field State.drivers (fun _ => rfl) hw).trans rfl
  have hzones : w.zones = s.zones := (core_field State.zones (fun _ => rfl) hw).trans rfl
  have hmarks : w.marks = s.marks := (core_field State.marks (fun _ => rfl) hw).trans rfl
  have hlevels : w.easedEmpty = levelsEased s.freesEmpty (s.pipe.reserve && !s.savingOrSaved) := by
    rw [State.easedEmpty, State.withdrawn_goesFree, hrows.freesEmpty, hpipe, hsaving]
  rw [hlevels] at heased
  have haudit : t.audit = w.audit := (core_field State.audit (fun _ => rfl) hcore).trans rfl
  have hgen : t.gen = s.gen :=
    ((core_field State.gen (fun _ => rfl) hcore).trans rfl).trans ((core_field State.gen (fun _ => rfl) hw).trans rfl)
  have hplies : t.plies = s.plies :=
    ((core_field State.plies (fun _ => rfl) hcore).trans rfl).trans ((core_field State.plies (fun _ => rfl) hw).trans rfl)
  have hmonitors : t.monitors = s.monitors :=
    ((core_field State.monitors (fun _ => rfl) hcore).trans rfl).trans ((core_field State.monitors (fun _ => rfl) hw).trans rfl)
  have hstraps : t.straps = s.straps :=
    ((core_field State.straps (fun _ => rfl) hcore).trans rfl).trans ((core_field State.straps (fun _ => rfl) hw).trans rfl)
  have hlink : t.headLink = s.headLink :=
    ((core_field State.headLink (fun _ => rfl) hcore).trans rfl).trans ((core_field State.headLink (fun _ => rfl) hw).trans rfl)
  have hpower : t.powerFail = s.powerFail :=
    ((core_field State.powerFail (fun _ => rfl) hcore).trans rfl).trans ((core_field State.powerFail (fun _ => rfl) hw).trans rfl)
  have hfree : t.freeIndex = s.freeIndex :=
    ((core_field State.freeIndex (fun _ => rfl) hcore).trans rfl).trans ((core_field State.freeIndex (fun _ => rfl) hw).trans rfl)
  have hpending : t.pending = s.pending :=
    ((core_field State.pending (fun _ => rfl) hcore).trans rfl).trans ((core_field State.pending (fun _ => rfl) hw).trans rfl)
  refine ⟨?_, ?_, ?_, ?_, ?_, fun p => ?_, fun d => ?_, ?_, ?_, fun p => ?_, ?_, ?_, ?_, hgen, hplies, hmonitors, hstraps,
    hlink, hpower, hfree, hpending⟩
  · have hkept : s.auditEmptied c = { s.audit with
        inFlight := w.audit.inFlight
        queue := w.audit.queue
        records := w.audit.records } := by rw [hrows.inFlight, hrows.queue, hrows.records]; rfl
    rw [hkept, haudit]
    have hdue : w.audit.resetDue = s.audit.resetDue := (congrArg AuditStore.resetDue hrows.store :)
    have hstage : w.audit.resetStage = s.audit.resetStage := (congrArg AuditStore.resetStage hrows.store :)
    rw [hrows.raised.condition, hdue, hstage]
    exact hrows.store
  · exact (core_field State.jobs (fun _ => rfl) hcore).trans hrows.jobs
  · exact (core_field State.shift (fun _ => rfl) hcore).trans hrows.shift
  · rw [← hsaving, ← hpipe]
    exact core_field State.pipe (fun _ => rfl) hcore
  · exact core_field State.requests (fun _ => rfl) hcore
  · rw [← hreaders, core_field State.readers (fun _ => rfl) hcore]
    exact PerPly.get_map _ _ _
  · rw [← hdrivers, core_field State.drivers (fun _ => rfl) hcore]
    exact PerDriver.get_map _ _ _
  · refine (core_field State.trk (fun _ => rfl) hcore).trans ?_
    show w.trk.emptied s.freesEmpty = _
    rw [htrk]
    rfl
  · rw [← hzones]
    exact core_field State.zones (fun _ => rfl) hcore
  · rw [← hmarks, core_field State.marks (fun _ => rfl) hcore]
    show (if s.freesEmpty then w.marks.map MarkPly.off else w.marks).get p = if s.freesEmpty then _ else _
    split
    · exact PerPly.get_map _ _ _
    · rfl
  · rw [heased.latched, hstop]
  · rw [heased.mask, hstop]
  · intro x
    rw [heased.held, hstop]
    cases x <;> rfl

end

end Sys2Proof.Machine

namespace Sys2Proof.Machine

/-! ## A save and a warm reset begun (R93, R94, R155, R157) -/

section
variable {s t : State} {c : VoidCause}

/-- The condition and the fields of a reset in progress, once the pipeline is emptied: it remembers a number not queued (R155). -/
theorem State.emptiedOut_reset (s : State) (c : VoidCause) :
    (s.emptiedOut c).audit.condition = s.audit.condition ∧ (s.emptiedOut c).audit.resetDue = s.audit.resetDue ∧
      (s.emptiedOut c).audit.resetStage = s.audit.resetStage ∧ (s.emptiedOut c).audit.resetNotQueued =
        (s.audit.resetNotQueued || ((s.emptied c).any VoidRecord.notQueued && decide (s.audit.condition = .resetting))) := by
  have hrows := s.rowsDisposed_emptied c s.pipe.rows
  have haudit : (s.emptiedOut c).audit = (s.rowsDisposed c s.pipe.rows).audit :=
    (core_field State.audit (fun _ => rfl) (s.emptiedOut_core c)).trans (by rw [State.emptiedCore_eq]; rfl)
  rw [haudit]
  exact ⟨hrows.raised.condition, (congrArg AuditStore.resetDue hrows.store :), (congrArg AuditStore.resetStage hrows.store :),
    hrows.raised.notQueued⟩

/-- The ports with MAKEUP raised where a record of the emptying is flagged NOT_QUEUED, and the Stop Unit's output as it was. -/
theorem State.emptiedOut_steady (s : State) (c : VoidCause) (h : s.stop.Consistent) :
    let x := s.raiseIf ((s.emptied c).any VoidRecord.notQueued) .makeUp
    (s.emptiedOut c).stop.Consistent ∧ (s.emptiedOut c).stop.output = s.stop.output ∧ (s.emptiedOut c).line = x.line ∧
      (s.emptiedOut c).panel = x.panel := by
  have hkept : s.setRows s.pipe.rows = s := rfl
  have hrows := (s.rowsDisposed_emptied c s.pipe.rows).raised
  rw [hkept] at hrows
  have heased := s.emptiedOut_eased c
  generalize s.rowsDisposed c s.pipe.rows = w at hrows heased
  generalize (s.emptied c).any VoidRecord.notQueued = b at hrows ⊢
  have hstop := hrows.stop
  have hrest := hrows.rest
  dsimp only
  generalize s.raiseIf b .makeUp = x at hrest ⊢
  have hw : w.stop.Consistent := hstop ▸ h
  obtain ⟨hsteady, hout, hline, hpanel⟩ := heased.steady hw
  refine ⟨hsteady, hout.trans (congrArg StopUnit.output hstop), hline.trans ?_, hpanel.trans ?_⟩
  · exact (congrArg State.line hrest :)
  · exact (congrArg State.panel hrest :)

/-- A state whose ports are those of `s` with an attention raised is made by raising it from the ports of `s`. -/
theorem State.eq_raiseIf {b : Bool} (hline : t.line = (s.raiseIf b .makeUp).line) (hpanel : t.panel = (s.raiseIf b .makeUp).panel)
    (hstraps : t.straps = s.straps) : State.raiseIf { t with line := s.line, panel := s.panel } b .makeUp = t := by
  have habsent : ({ t with line := s.line, panel := s.panel } : State).portAbsent .panel = s.portAbsent .panel := by
    unfold State.portAbsent
    rw [hstraps]
  unfold State.raiseIf at hline hpanel ⊢
  cases b with
  | true =>
    rw [if_pos rfl] at hline hpanel ⊢
    rw [State.raiseBoth_ports] at hline hpanel ⊢
    rw [habsent]
    exact (congrArg₂ (fun l p => (t.setLine l).setPanel p) hline hpanel).symm
  | false => exact (congrArg₂ (fun l p => (t.setLine l).setPanel p) hline hpanel).symm

theorem State.emptiedOut_ports (s : State) (c : VoidCause) (h : s.stop.Consistent) :
    s.emptiedOut c = s.portsEmptied (s.emptiedOut c) c := by
  obtain ⟨-, -, hline, hpanel⟩ := s.emptiedOut_steady c h
  have hstraps : (s.emptiedOut c).straps = s.straps := by
    obtain ⟨-, -, -, -, -, -, -, -, -, -, -, -, -, -, -, -, hstraps, -⟩ := s.emptiedOut_emptied c
    exact hstraps
  exact (State.eq_raiseIf hline hpanel hstraps).symm

theorem State.beginSave_saveBegun (s : State) : s.SaveBegun s.beginSave.startSending := by
  have hemptied := (s.setCondition .saving).emptiedOut_emptied .power
  obtain ⟨hcond, hdue, hstage, hnotQueued⟩ := (s.setCondition .saving).emptiedOut_reset .power
  have hsteady := (s.setCondition .saving).emptiedOut_steady .power
  have hports := (s.setCondition .saving).emptiedOut_ports .power
  rw [State.beginSave_eq]
  generalize (s.setCondition .saving).emptiedOut .power = t at *
  refine ⟨hemptied, hcond, hdue, ?_, hstage, fun h => ?_⟩
  · exact hnotQueued.trans (by simp [State.setCondition])
  · obtain ⟨-, hout, -⟩ := hsteady h
    exact ⟨hout, congrArg State.startSending (hports h)⟩

end

end Sys2Proof.Machine

namespace Sys2Proof.Machine

section
variable {s t : State} {c : VoidCause} {k : Bool}

/-! ### What follows from the emptying of the pipeline -/

theorem State.Emptied.job (h : s.Emptied t c k) (id : Nat) : t.job id = (s.job id).map s.jobEmptied := by
  obtain ⟨-, hjobs, -⟩ := h
  unfold State.job
  rw [hjobs]
  exact find_id_map s.jobs s.jobEmptied (fun _ => rfl) id

/-- The jobs keep their states (R94). -/
theorem State.Emptied.job_state (h : s.Emptied t c k) (id : Nat) : (t.job id).map Job.state = (s.job id).map Job.state := by
  rw [h.job, Option.map_map]
  rfl

theorem State.Emptied.running (h : s.Emptied t c k) : t.running = s.running.map s.jobEmptied := by
  obtain ⟨-, hjobs, -⟩ := h
  unfold State.running
  rw [hjobs, List.find?_map]
  rfl

theorem PerPly.eq_of_get {α : Type} {x y : PerPly α} (h : ∀ p, x.get p = y.get p) : x = y := by
  cases x
  cases y
  have h1 := h .p1
  have h2 := h .p2
  have h3 := h .p3
  have h4 := h .p4
  have h5 := h .p5
  have h6 := h .p6
  simp_all [PerPly.get]

/-- The Tracker returns to FREE as the pipeline is emptied where no job is RUNNING, and is as it was otherwise (R7). -/
theorem State.Emptied.freed_or (h : s.Emptied t c k)
    (hreserve : t.audit.condition = .saving ∨ t.audit.condition = .saved ∨ k = false) :
    if s.running = none ∧ s.trk.epoch ≠ none then s.Freed t
    else t.trk.epoch = s.trk.epoch ∧ t.marks = s.marks ∧ t.zones = s.zones := by
  obtain ⟨-, -, -, hpipe, -, -, -, htrk, hzones, hmarks, -, -, hheld, -⟩ := h
  split <;> rename_i hfree
  · simp only [hfree, ne_eq, not_false_eq_true, and_self, decide_true, if_true] at hpipe htrk hzones hmarks hheld
    have hepoch : t.trk.epoch = none := by rw [htrk]
    refine ⟨hepoch, by rw [hpipe], fun p => ⟨State.sync_of_no_epoch hepoch p, hmarks p, ?_, ?_, fun y hy => ?_⟩, ?_⟩
    · rw [hheld]
      simp
    · rw [hzones]
      exact PerPly.get_all _ _
    · rw [htrk] at hy
      have hev := (List.mem_filter.1 hy).2
      constructor <;> rintro hy <;> rw [hy] at hev <;> cases hev
    · rw [hpipe]
      rcases hreserve with hcond | hcond | rfl
      · exact .inl hcond
      · exact .inr (.inl hcond)
      · exact .inr (.inr (Bool.and_false _))
  · simp only [hfree, decide_false] at htrk hzones hmarks
    exact ⟨by rw [htrk]; rfl, PerPly.eq_of_get hmarks, hzones⟩

end

/-! ## The recovery at power-up (R158) -/

section
variable (s : State)

theorem State.raiseAt_has (p q : Port) (c d : Attention) : AttentionSet.has ((s.raiseAt p c).port q).pending d =
    (AttentionSet.has (s.port q).pending d || decide (q = p ∧ s.portAbsent p = false ∧ c = d)) := by
  rw [State.raiseAt_port]
  split <;> rename_i h
  · obtain ⟨rfl, habsent⟩ := h
    simp [PortState.raised_has, habsent]
  · have hnot : ¬(q = p ∧ s.portAbsent p = false ∧ c = d) := fun ⟨hq, ha, _⟩ => h ⟨hq, ha⟩
    simp [hnot]

/-- A class raised at the line port where a test holds. -/
def State.raiseLine (b : Bool) (c : Attention) : State := if b then s.raiseAt .line c else s

theorem State.core_raiseLine (b : Bool) (c : Attention) : (s.raiseLine b c).core = s.core := by
  unfold State.raiseLine
  split
  · obtain ⟨l, q, h⟩ := s.raiseAt_eq .line c
    rw [h]
    rfl
  · rfl

theorem State.raiseLine_audit (b : Bool) (c : Attention) : (s.raiseLine b c).audit = s.audit :=
  core_field State.audit (fun _ => rfl) (s.core_raiseLine b c)

/-- The state with the nonvolatile collections recovered, RECOVERY raised at the line port and VOID_READY at both, each where there
is something to report (R158). -/
def State.recovered : State :=
  ((s.setAudit s.audit.recovered).raiseLine (decide (s.audit.records ≠ [])) .recovery).raiseIf
    (decide (s.audit.voids ++ s.audit.inFlight ≠ [])) .voidReady

theorem State.recovered_core : s.recovered.core = (s.setAudit s.audit.recovered).core :=
  (core_raiseIf _ _ _).trans (State.core_raiseLine _ _ _)

theorem State.recovered_powerFail : s.recovered.syncAll.powerFail = s.powerFail := by
  have hsame := core_field (fun x : State => x.syncAll.powerFail) (fun _ => rfl) s.recovered_core
  exact hsame

theorem State.endRecovery_eq : s.endRecovery = if s.powerFail then s.recovered.syncAll.beginSave else s.recovered.syncAll := by
  have hlist : ∀ {α : Type} (l : List α) (x y : State), (if l = [] then x else y) = if decide (l ≠ []) then y else x :=
    fun l x y => by cases l <;> rfl
  have hrecords : (s.audit.recovered.records = []) = (s.audit.records = []) := propext List.map_eq_nil_iff
  have hline : (if (s.setAudit s.audit.recovered).audit.records = [] then s.setAudit s.audit.recovered
      else (s.setAudit s.audit.recovered).raiseAt .line .recovery) =
      (s.setAudit s.audit.recovered).raiseLine (decide (s.audit.records ≠ [])) .recovery := by
    simp only [State.setAudit_audit, hrecords, hlist]
    rfl
  unfold State.endRecovery
  dsimp only
  rw [hline, State.raiseLine_audit, hlist]
  show (if s.recovered.syncAll.powerFail then _ else _) = _
  rw [State.recovered_powerFail]
  rfl

/-- SYNC to each driver, in the order 1, 2, 3 (R111, log entry 22). -/
theorem State.syncAll_eq : s.syncAll =
    s.setHeadLink (s.headLink ++ [.sync .d1 s.trk.a s.trk.h, .sync .d2 s.trk.a s.trk.h, .sync .d3 s.trk.a s.trk.h]) := by
  refine congrArg s.setHeadLink ?_
  show ((s.headLink ++ [_]) ++ [_]) ++ [_] = _
  rw [List.append_assoc, List.append_assoc]
  rfl

theorem State.raiseIf_has {q : Port} (h : s.portAbsent q = false) (b : Bool) (c d : Attention) :
    AttentionSet.has ((s.raiseIf b c).port q).pending d = (AttentionSet.has (s.port q).pending d || (b && decide (c = d))) := by
  cases b with
  | true => exact s.raiseBoth_has q c d h
  | false => simp [State.raiseIf]

theorem State.raiseLine_has (q : Port) (b : Bool) (c d : Attention) : AttentionSet.has ((s.raiseLine b c).port q).pending d =
    (AttentionSet.has (s.port q).pending d || (b && decide (q = .line ∧ c = d))) := by
  have habsent : s.portAbsent .line = false := rfl
  cases b with
  | true =>
    refine (s.raiseAt_has .line q c d).trans ?_
    simp [habsent]
  | false => simp [State.raiseLine]

/-- The attentions that the recovery raises (R158). -/
theorem State.recovered_has {q : Port} (h : s.portAbsent q = false) (d : Attention) :
    AttentionSet.has (s.recovered.syncAll.startSending.port q).pending d = (AttentionSet.has (s.port q).pending d ||
      (decide (s.audit.records ≠ []) && decide (q = .line ∧ .recovery = d)) ||
      (decide (s.audit.voids ++ s.audit.inFlight ≠ []) && decide (.voidReady = d))) := by
  have hsync : s.recovered.syncAll.port q = s.recovered.port q := by cases q <;> rfl
  have hset : (s.setAudit s.audit.recovered).port q = s.port q := by cases q <;> rfl
  have habsent : ((s.setAudit s.audit.recovered).raiseLine (decide (s.audit.records ≠ [])) .recovery).portAbsent q = false :=
    (congrFun (core_field State.portAbsent (fun _ => rfl) (State.core_raiseLine _ _ _)) q).trans h
  rw [State.startSending_port, PortState.started_pending, hsync, State.recovered, State.raiseIf_has _ habsent,
    State.raiseLine_has, hset]

/-- With no row held, what a save begun makes of the store is its condition (R94). -/
theorem State.auditEmptied_of_no_row (h : s.pipe.rows = []) (c : VoidCause) : s.auditEmptied c = s.audit := by
  have hheld : s.lanesHeld = [] := by rw [State.lanesHeld_eq, h]; rfl
  have hrecords : s.audit.records.map s.recordEmptied = s.audit.records := map_id_of_forall fun z _ => by
    simp [State.recordEmptied, h]
  have hemptied : s.emptied c = [] := by rw [State.emptied_eq, hheld]; rfl
  have hqueue : s.queueEmptied s.lanesHeld.length = s.audit.queue := by rw [State.queueEmptied_eq, hheld]; rfl
  rw [State.auditEmptied, hemptied, hqueue, hrecords, List.append_nil]

theorem exec_recoveryComplete : exec .recoveryComplete s =
    .next (if s.audit.condition = .recovering then s.endRecovery else s).startSending := rfl

/-- Settles O5: the recovered collections with their attentions, and under the warning the save begun from them. -/
theorem recoveryCompletes : Obligations.RecoveryCompletes := by
  intro s u v w
  have hu : u = (s.setAudit s.audit.recovered).syncAll := (State.syncAll_eq _).symm
  have hv : v = ((s.setAudit s.audit.recovered).raiseLine (decide (s.audit.records ≠ [])) .recovery).syncAll := by
    show (if s.audit.records = [] then u else u.raiseAt .line .recovery) = _
    rw [hu, State.raiseAt_syncAll]
    unfold State.raiseLine
    cases s.audit.records <;> rfl
  have hw : w = s.recovered.syncAll := by
    show (if s.audit.voids ++ s.audit.inFlight = [] then v else v.raiseBoth .voidReady) = _
    rw [hv, State.recovered, ← State.raiseIf_syncAll]
    cases s.audit.voids ++ s.audit.inFlight <;> rfl
  clear_value w v u
  have hexec : s.audit.condition = .recovering → exec .recoveryComplete s = .next s.endRecovery.startSending :=
    fun hcond => by rw [exec_recoveryComplete, if_pos hcond]
  rw [State.endRecovery_eq, ← hw] at hexec
  have haudit : w.audit = u.audit := by
    rw [hw, hu]
    exact core_field (fun x : State => x.syncAll.audit) (fun _ => rfl) s.recovered_core
  have hlink : w.headLink = u.headLink := by
    rw [hw, hu]
    exact core_field (fun x : State => x.syncAll.headLink) (fun _ => rfl) s.recovered_core
  have hpipe : w.pipe = s.pipe := by
    rw [hw]
    have hsame := core_field (fun x : State => x.syncAll.pipe) (fun _ => rfl) s.recovered_core
    exact hsame
  refine ⟨fun hcond hpower => ?_, fun hcond hpower => ?_, fun hcond => ?_⟩
  · refine ⟨w.startSending, by rw [hexec hcond, if_neg (by simp [hpower])], rfl, haudit, hlink, ?_, fun p hp => ?_⟩
    · have hhas := s.recovered_has (q := .line) rfl .recovery
      rw [hw]
      exact (Bool.eq_iff_iff.1 hhas).trans (by simp [State.port])
    · rw [hw, s.recovered_has hp]
      simp [-List.append_eq_nil_iff]
  · have hbegun := w.beginSave_saveBegun
    refine ⟨w.beginSave.startSending, by rw [hexec hcond, if_pos hpower], hbegun, ?_, ?_, fun hrows => ?_⟩
    all_goals
      obtain ⟨hemptied, hsaving, hdue, hnotQueued, hstage, -⟩ := hbegun
      obtain ⟨hstore, -, -, -, -, -, -, -, -, -, -, -, -, -, -, -, -, hlink', -⟩ := hemptied
    · exact hlink'.trans hlink
    · rw [hstore, ← haudit]
      rfl
    · rw [hstore, w.auditEmptied_of_no_row (hpipe ▸ hrows), hsaving, hdue, hnotQueued, hstage, ← haudit]
  · rw [exec_recoveryComplete, if_neg hcond]

end

end Sys2Proof.Machine

namespace Sys2Proof.Machine

/-! ## The operating condition, which no request but Reset changes

The condition is the Audit Store's, and changes at a warm reset, a save and a recovery alone (Table 9-1). -/

section
variable (s : State)

theorem State.condition_of_core {s t : State} (h : t.core = s.core) : t.audit.condition = s.audit.condition :=
  core_field (fun x : State => x.audit.condition) (fun _ => rfl) h

@[simp] theorem State.raiseAt_condition (p : Port) (c : Attention) : (s.raiseAt p c).audit.condition = s.audit.condition :=
  State.condition_of_core (core_raiseAt s p c)

@[simp] theorem State.raiseBoth_condition (c : Attention) : (s.raiseBoth c).audit.condition = s.audit.condition :=
  State.condition_of_core (core_raiseBoth s c)

@[simp] theorem State.changeStop_condition (f : StopUnit → StopUnit) : (s.changeStop f).audit.condition = s.audit.condition :=
  State.condition_of_core (core_changeStop s f)

@[simp] theorem State.latchEvent_condition (c : StopCause) : (s.latchEvent c).audit.condition = s.audit.condition :=
  State.condition_of_core (core_latchEvent s c)

@[simp] theorem State.testFree_condition : s.testFree.audit.condition = s.audit.condition := by
  rw [State.condition_of_core s.testFree_atFree]
  split <;> rfl

@[simp] theorem State.reserveFall_condition : s.reserveFall.audit.condition = s.audit.condition := by
  have hclear : s.clearReserve.audit.condition = s.audit.condition :=
    (State.condition_of_core (core_clearReserve s)).trans rfl
  unfold State.reserveFall
  split
  · rfl
  · cases s.running with
    | none => exact hclear
    | some j =>
      dsimp only
      split
      · exact hclear
      · rfl

/-! ### Jobs that start, drain and end -/

@[simp] theorem State.emptyFeedOf_condition (id : Nat) : (s.emptyFeedOf id).audit.condition = s.audit.condition := by
  rw [State.emptyFeedOf_eq]
  rfl

@[simp] theorem State.handedBack_condition (id : Nat) : (s.handedBack id).audit.condition = s.audit.condition :=
  (State.emptyFeedOf_condition _ id).trans rfl

@[simp] theorem State.cancelLoaded_condition (id : Nat) : (s.cancelLoaded id).audit.condition = s.audit.condition :=
  (State.emptyFeedOf_condition _ id).trans rfl

@[simp] theorem State.endJob_condition (id : Nat) : (s.endJob id).audit.condition = s.audit.condition := by
  unfold State.endJob
  cases s.job id with
  | none => rfl
  | some j => exact (State.raiseAt_condition _ _ _).trans rfl

@[simp] theorem State.followOn_condition (before : Plan) : (s.followOn before).audit.condition = s.audit.condition := by
  have hchange : s.changeover.audit.condition = s.audit.condition := (State.latchEvent_condition _ _).trans (by simp)
  unfold State.followOn
  split
  · cases s.oldestLoaded with
    | none => rfl
    | some j =>
      dsimp only
      split
      · split
        · rfl
        · exact hchange
      · rfl
  · rfl

@[simp] theorem State.afterRunning_condition (before : Plan) :
    (s.afterRunning before).audit.condition = s.audit.condition := by
  unfold State.afterRunning
  dsimp only
  split
  · exact (State.testFree_condition _).trans (s.followOn_condition before)
  · exact s.followOn_condition before

@[simp] theorem State.drainJob_condition (id : Nat) (reason : EndReason) :
    (s.drainJob id reason).audit.condition = s.audit.condition := by
  unfold State.drainJob
  cases s.job id with
  | none => rfl
  | some j =>
    have hafter : ((((s.handedBack id).updJob id (fun x => { x with state := .draining, drain := some reason })).afterRunning
        j.plan)).audit.condition = s.audit.condition :=
      (State.afterRunning_condition _ _).trans (s.handedBack_condition id)
    dsimp only
    split
    · split
      · exact hafter
      · exact (State.endJob_condition _ _).trans hafter
    · rfl

theorem State.startJob_condition (j : Job) : (s.startJob j).audit.condition = s.audit.condition := by
  have hopen : (s.openEpoch j.plan).audit.condition = s.audit.condition := by
    unfold State.openEpoch
    cases referencePly s.plies j.plan.mask <;> rfl
  exact hopen

/-! ### Settings -/

theorem State.takeLine_condition (f : LineFields) : (s.takeLine f).audit.condition = s.audit.condition := by
  have hexcursion : ∀ x : State, x.testExcursion.audit.condition = x.audit.condition := fun x => by
    unfold State.testExcursion
    split
    · exact (State.latchEvent_condition _ _).trans rfl
    · rfl
  unfold State.takeLine
  dsimp only
  split
  · exact hexcursion _
  · rfl

theorem State.takePly_condition (p : Ply) (f : PlyFields) : (s.takePly p f).audit.condition = s.audit.condition := by
  have hdrift : ∀ x : State, (x.testDrift p).audit.condition = x.audit.condition := fun x => by
    unfold State.testDrift
    dsimp only
    split
    · exact (State.raiseBoth_condition _ _).trans rfl
    · rfl
  unfold State.takePly
  dsimp only
  cases f.t with
  | none =>
    split
    · exact hdrift _
    · rfl
  | some t => exact hdrift _

/-! ### Each request by its rule -/

/-- A request's rule keeps the condition on either side of a test. -/
theorem condition_ite {s : State} {c : Prop} [Decidable c] {x y : Served} (hx : x.2.audit.condition = s.audit.condition)
    (hy : y.2.audit.condition = s.audit.condition) : (if c then x else y).2.audit.condition = s.audit.condition := by
  split
  · exact hx
  · exact hy

variable (port : Port) (body : List Byte)

theorem serveLoadJob_condition : (serveLoadJob port body s).2.audit.condition = s.audit.condition := by
  unfold serveLoadJob State.loadPlan
  cases decodePlan body with
  | none => rfl
  | some plan =>
    refine condition_ite rfl (condition_ite rfl (condition_ite rfl (condition_ite rfl ?_)))
    cases s.oldestEnded port <;> rfl

theorem serveStartJob_condition : (serveStartJob port body s).2.audit.condition = s.audit.condition := by
  unfold serveStartJob
  cases s.job (fieldAt 0 2 body) with
  | none => rfl
  | some j =>
    exact condition_ite rfl (condition_ite rfl (condition_ite rfl (condition_ite rfl (condition_ite rfl (condition_ite rfl
      (s.startJob_condition j))))))

theorem serveHaltJob_condition : (serveHaltJob port body s).2.audit.condition = s.audit.condition := by
  unfold serveHaltJob
  cases s.job (fieldAt 0 2 body) with
  | none => rfl
  | some j =>
    dsimp only
    cases j.state with
    | running => exact s.drainJob_condition _ _
    | _ => rfl

theorem serveAbortJob_condition : (serveAbortJob port body s).2.audit.condition = s.audit.condition := by
  unfold serveAbortJob
  cases s.job (fieldAt 0 2 body) with
  | none => rfl
  | some j =>
    dsimp only
    cases j.state with
    | running => exact (State.drainJob_condition _ _ _).trans rfl
    | draining => exact (State.drainJob_condition _ _ _).trans rfl
    | loaded => exact (State.raiseAt_condition _ _ _).trans (s.cancelLoaded_condition j.id)
    | ended => rfl

theorem serveQueryJob_condition : (serveQueryJob port body s).2.audit.condition = s.audit.condition := by
  unfold serveQueryJob
  cases s.job (fieldAt 0 2 body) with
  | none => rfl
  | some j => exact condition_ite rfl rfl

theorem serveCollectEnd_condition : (serveCollectEnd port body s).2.audit.condition = s.audit.condition := by
  unfold serveCollectEnd
  cases s.job (fieldAt 0 2 body) with
  | none => rfl
  | some j =>
    refine condition_ite rfl ?_
    cases j.state <;> rfl

theorem serveFeedNumbers_condition : (serveFeedNumbers port body s).2.audit.condition = s.audit.condition := by
  unfold serveFeedNumbers
  cases s.feedJob with
  | none => rfl
  | some j => exact condition_ite rfl (condition_ite rfl rfl)

theorem serveReleaseVoids_condition : (serveReleaseVoids port body s).2.audit.condition = s.audit.condition :=
  condition_ite rfl (condition_ite rfl ((State.reserveFall_condition _).trans rfl))

theorem serveDiscardRecovery_condition : (serveDiscardRecovery port body s).2.audit.condition = s.audit.condition := by
  unfold serveDiscardRecovery
  cases s.audit.records.find? (fun r => decide (r.job = fieldAt 0 2 body)) with
  | none => rfl
  | some r => exact condition_ite rfl rfl

theorem serveSetPly_condition : (serveSetPly port body s).2.audit.condition = s.audit.condition := by
  unfold serveSetPly
  cases Ply.ofNumber (fieldAt 0 1 body) with
  | none => rfl
  | some p => exact condition_ite rfl (condition_ite rfl (condition_ite rfl (s.takePly_condition p _)))

theorem serveReadPly_condition : (serveReadPly port body s).2.audit.condition = s.audit.condition := by
  unfold serveReadPly
  cases Ply.ofNumber (fieldAt 0 1 body) <;> rfl

theorem serveSetDriver_condition : (serveSetDriver port body s).2.audit.condition = s.audit.condition := by
  unfold serveSetDriver
  cases Driver.ofNumber (fieldAt 0 1 body) with
  | none => rfl
  | some d => exact condition_ite rfl (condition_ite rfl (condition_ite rfl rfl))

theorem serveReadDriver_condition : (serveReadDriver port body s).2.audit.condition = s.audit.condition := by
  unfold serveReadDriver
  cases Driver.ofNumber (fieldAt 0 1 body) <;> rfl

theorem serveReadReader_condition : (serveReadReader port body s).2.audit.condition = s.audit.condition := by
  unfold serveReadReader
  cases Ply.ofNumber (fieldAt 0 1 body) with
  | none => rfl
  | some p => exact condition_ite rfl rfl

theorem serveArmCapture_condition : (serveArmCapture port body s).2.audit.condition = s.audit.condition := by
  refine condition_ite rfl ?_
  cases optField 0 1 body with
  | none => rfl
  | some n =>
    dsimp only
    cases Ply.ofNumber n with
    | none => rfl
    | some p => exact condition_ite rfl (condition_ite rfl rfl)

theorem serveSetMonitor_condition : (serveSetMonitor port body s).2.audit.condition = s.audit.condition := by
  unfold serveSetMonitor
  cases Mon.ofNumber (fieldAt 0 1 body) with
  | none => rfl
  | some m =>
    dsimp only
    cases decodeMonitor body (s.monitors.get m) <;> rfl

theorem serveReadMonitor_condition : (serveReadMonitor port body s).2.audit.condition = s.audit.condition := by
  unfold serveReadMonitor
  cases Mon.ofNumber (fieldAt 0 1 body) <;> rfl

theorem serveReadTallies_condition : (serveReadTallies port body s).2.audit.condition = s.audit.condition := by
  refine condition_ite rfl (condition_ite rfl ?_)
  cases s.job (fieldAt 1 2 body) <;> rfl

theorem serveAcknowledge_condition : (serveAcknowledge port body s).2.audit.condition = s.audit.condition := by
  refine condition_ite rfl ?_
  cases port <;> rfl

/-- A request served keeps the operating condition, unless it is Reset (R177). -/
theorem serve_condition {k : RequestKind} (hk : k ≠ .reset) : (serve k port body s).2.audit.condition = s.audit.condition := by
  cases k with
  | loadJob => exact serveLoadJob_condition s port body
  | startJob => exact serveStartJob_condition s port body
  | haltJob => exact serveHaltJob_condition s port body
  | abortJob => exact serveAbortJob_condition s port body
  | queryJob => exact serveQueryJob_condition s port body
  | collectEnd => exact serveCollectEnd_condition s port body
  | feedNumbers => exact serveFeedNumbers_condition s port body
  | readVoids => exact condition_ite rfl rfl
  | releaseVoids => exact serveReleaseVoids_condition s port body
  | readMakeUp => exact condition_ite rfl rfl
  | releaseMakeUp => exact condition_ite rfl rfl
  | readRecovery => rfl
  | discardRecovery => exact serveDiscardRecovery_condition s port body
  | setLine => exact condition_ite rfl (condition_ite rfl (s.takeLine_condition _))
  | readLine => rfl
  | setPly => exact serveSetPly_condition s port body
  | readPly => exact serveReadPly_condition s port body
  | setDriver => exact serveSetDriver_condition s port body
  | readDriver => exact serveReadDriver_condition s port body
  | readReader => exact serveReadReader_condition s port body
  | armCapture => exact serveArmCapture_condition s port body
  | readCapture => exact condition_ite rfl rfl
  | setStopMask => exact condition_ite rfl (State.changeStop_condition _ _)
  | readStop => rfl
  | clearStop => exact condition_ite rfl (State.changeStop_condition _ _)
  | setMonitor => exact serveSetMonitor_condition s port body
  | readMonitor => exact serveReadMonitor_condition s port body
  | readTallies => exact serveReadTallies_condition s port body
  | clearShift => rfl
  | setNotify => exact condition_ite rfl rfl
  | acknowledgeAttention => exact serveAcknowledge_condition s port body
  | lineSummary => rfl
  | reset => exact absurd rfl hk

end

end Sys2Proof.Machine

namespace Sys2Proof.Machine

/-! ## Held requests answered (R173, R174, R176)

In NORMAL every held request is served, and in SAVING it is served or answered NOT_READY, so none waits. A Reset served in NORMAL
would begin another warm reset; with none held the condition stands. -/

/-- The requests that the condition answers and that keep it: in NORMAL all but Reset, in SAVING all. -/
def Condition.Settles (c : Condition) (q : Request) : Prop := (c = .normal ∧ q.kind ≠ 0x4F) ∨ c = .saving

/-- The reply of a held request, by its kind and tag; in SAVING it is NOT_READY where the request passes its first tests and is
neither read-only nor Reset (Table 11-1). -/
def ReplyFits (c : Condition) (permits : RequestKind → Bool) (q : Request) (f : ReplyFrame) : Prop :=
  f.kind = q.kind ∧ f.tag = q.tag ∧ ∀ k, c = .saving → requestKind q.kind = some k → bodyLengthOk k q.body = true →
    permits k = true → k.readOnly = false → k ≠ .reset → f.reply = ⟨.notReady, .none⟩

theorem requestKind_reset {b : Byte} (h : requestKind b = some .reset) : b = 0x4F := by
  have hcode := List.find?_some h
  exact (of_decide_eq_true hcode).symm

section
variable {s t : State} {port : Port} {q : Request}

theorem serveReset_saving {body : List Byte} (h : s.audit.condition = .saving) :
    (serveReset port body s).2.audit.condition = .saving := by
  show s.requestReset.audit.condition = .saving
  unfold State.requestReset
  rw [h]
  exact h

theorem treatment_settles {hold : ResetHold} (k : RequestKind) (h : s.audit.condition.Settles q) :
    treatment s.audit.condition hold k ≠ .waits := by
  rcases h with ⟨hcond, -⟩ | hcond
  · rw [hcond]
    simp [treatment]
  · rw [hcond]
    unfold treatment
    dsimp only
    split <;> simp

theorem serve_settles {k : RequestKind} (h : s.audit.condition.Settles q) (hk : requestKind q.kind = some k) :
    (serve k port q.body s).2.audit.condition = s.audit.condition := by
  by_cases hreset : k = .reset
  · subst hreset
    rcases h with ⟨-, hkind⟩ | hcond
    · exact absurd (requestKind_reset hk) hkind
    · exact (serveReset_saving (port := port) (body := q.body) hcond).trans hcond.symm
  · exact serve_condition s port q.body hreset

/-- A held request is answered, the condition standing. -/
theorem State.answer_settles (h : s.audit.condition.Settles q) : ∃ x t, s.answer port q = some (x, t) ∧ Turn s t ∧
    t.audit.condition = s.audit.condition ∧ ReplyFits s.audit.condition (s.permits port) q (replyFrame q x) := by
  have hanswered : ∀ x t, s.answer port q = some (x, t) → t.audit.condition = s.audit.condition →
      (∀ k, s.audit.condition = .saving → requestKind q.kind = some k → bodyLengthOk k q.body = true →
        s.permits port k = true → k.readOnly = false → k ≠ .reset → x = ⟨.notReady, .none⟩) →
      ∃ x t, s.answer port q = some (x, t) ∧ Turn s t ∧ t.audit.condition = s.audit.condition ∧
        ReplyFits s.audit.condition (s.permits port) q (replyFrame q x) := fun x t hans hcond hfits =>
    ⟨x, t, hans, s.answer_turn port q (x, t) hans, hcond, rfl, rfl, hfits⟩
  have hdef : s.answer port q = match requestKind q.kind with
      | none => some (refuse .unknownKind s)
      | some k =>
        if bodyLengthOk k q.body = false then some (refuse .badLength s)
        else if s.permits port k = false then some (refuse .notPermitted s)
        else match treatment s.audit.condition s.straps.hold k with
          | .waits => none
          | .notReady => some (⟨.notReady, .none⟩, s)
          | .served => some (serve k port q.body s) := rfl
  cases hkind : requestKind q.kind with
  | none =>
    rw [hkind] at hdef
    exact hanswered _ _ hdef rfl (fun k _ hk => by cases hkind ▸ hk)
  | some k =>
    have hsame : ∀ k', some k = some k' → k' = k := fun k' hk => (Option.some.inj hk).symm
    rw [hkind] at hdef hanswered
    dsimp only at hdef
    cases hlen : bodyLengthOk k q.body with
    | false =>
      rw [if_pos hlen] at hdef
      refine hanswered _ _ hdef rfl fun k' _ hk hok => ?_
      rw [hsame k' hk, hlen] at hok
      cases hok
    | true =>
      rw [if_neg (by simp [hlen])] at hdef
      cases hperm : s.permits port k with
      | false =>
        rw [if_pos hperm] at hdef
        refine hanswered _ _ hdef rfl fun k' _ hk _ hok => ?_
        rw [hsame k' hk, hperm] at hok
        cases hok
      | true =>
        rw [if_neg (by simp [hperm])] at hdef
        cases htreat : treatment s.audit.condition s.straps.hold k with
        | waits => exact absurd htreat (treatment_settles k h)
        | notReady =>
          rw [htreat] at hdef
          exact hanswered _ _ hdef rfl fun _ _ _ _ _ _ _ => rfl
        | served =>
          rw [htreat] at hdef
          refine hanswered _ _ hdef (serve_settles h hkind) fun k' hcond hk _ _ hread hreset => ?_
          rw [hsame k' hk] at hread hreset
          simp [treatment, hcond, hread, hreset] at htreat

/-! ### Every held request -/

/-- A port's held requests can all be answered: the condition settles each, and there is room for their replies. -/
def State.CanAnswer (s : State) (p : Port) : Prop :=
  (s.port p).replies.length + (s.port p).held.length ≤ 4 ∧ ∀ q ∈ (s.port p).held, s.audit.condition.Settles q

/-- In `t` every request held at the port in `s` has been answered, in order. -/
def State.AllAnswered (s t : State) (p : Port) : Prop :=
  (t.port p).held = [] ∧ ∃ made, (t.port p).replies = (s.port p).replies ++ made ∧
    List.Forall₂ (ReplyFits s.audit.condition (s.permits p)) (s.port p).held made

theorem State.serveHead_of_none (h : (s.port port).held = []) : s.serveHead port = none := by simp [State.serveHead, h]

/-- The oldest request of a port answered: it leaves, its reply is formed, and nothing else of the ports' traffic changes. -/
theorem State.serveHead_of_held {rest : List Request} (hheld : (s.port port).held = q :: rest) (h : s.CanAnswer port) :
    ∃ t f, s.serveHead port = some t ∧ t.audit.condition = s.audit.condition ∧ t.permits = s.permits ∧
      ReplyFits s.audit.condition (s.permits port) q f ∧ (t.port port).held = rest ∧
      (t.port port).replies = (s.port port).replies ++ [f] ∧
      ∀ p, p ≠ port → (t.port p).held = (s.port p).held ∧ (t.port p).replies = (s.port p).replies := by
  obtain ⟨hroom, hsettles⟩ := h
  obtain ⟨x, u, hans, hturn, hcond, hfits⟩ := State.answer_settles (port := port) (hsettles q (by simp [hheld]))
  have hcap : ¬replyCapacity ≤ (s.port port).replies.length := by
    rw [hheld] at hroom
    simp only [List.length_cons] at hroom
    simp only [replyCapacity]
    omega
  have hhead : s.serveHead port = some (u.setPort port ({ u.port port with held := rest }.addReply (replyFrame q x))) := by
    unfold State.serveHead
    rw [if_neg hcap, hheld]
    dsimp only
    rw [hans]
  have hstraps : (u.setPort port ({ u.port port with held := rest }.addReply (replyFrame q x))).permits = s.permits := by
    have hu : u.straps = s.straps := hturn.course.fixed.1
    funext p k
    cases port <;> cases p <;> simp [State.permits, State.setPort, hu]
  refine ⟨_, _, hhead, ?_, hstraps, hfits, ?_, ?_, fun p hp => ?_⟩
  · rw [← hcond]
    cases port <;> rfl
  · simp [PortState.addReply]
  · simp [PortState.addReply, (hturn.traffic port).replies]
  · simp [hp, (hturn.traffic p).held, (hturn.traffic p).replies]

/-- A port's answers carried over a first one. -/
theorem State.AllAnswered.cons {u : State} {rest : List Request} {f : ReplyFrame} (h : t.AllAnswered u port)
    (hheld : (s.port port).held = q :: rest) (hrest : (t.port port).held = rest)
    (hreplies : (t.port port).replies = (s.port port).replies ++ [f]) (hcond : t.audit.condition = s.audit.condition)
    (hpermits : t.permits = s.permits) (hfits : ReplyFits s.audit.condition (s.permits port) q f) : s.AllAnswered u port := by
  obtain ⟨hnone, made, hmade, hall⟩ := h
  refine ⟨hnone, f :: made, by rw [hmade, hreplies, List.append_assoc]; rfl, ?_⟩
  rw [hheld]
  rw [hrest, hcond, hpermits] at hall
  exact .cons hfits hall

theorem State.AllAnswered.congr {u : State} (h : t.AllAnswered u port) (hheld : (t.port port).held = (s.port port).held)
    (hreplies : (t.port port).replies = (s.port port).replies) (hcond : t.audit.condition = s.audit.condition)
    (hpermits : t.permits = s.permits) : s.AllAnswered u port := by
  unfold State.AllAnswered at h ⊢
  rw [← hheld, ← hreplies, ← hcond, ← hpermits]
  exact h

theorem State.CanAnswer.congr (h : s.CanAnswer port) (hheld : (t.port port).held = (s.port port).held)
    (hreplies : (t.port port).replies = (s.port port).replies) (hcond : t.audit.condition = s.audit.condition) :
    t.CanAnswer port := by
  unfold State.CanAnswer at h ⊢
  rw [hheld, hreplies, hcond]
  exact h

/-- All held requests of both ports are answered, at most `n` being held, once the oldest of one of them is. -/
theorem State.allAnswered_of_head {n : Nat} (hcan : ∀ p, s.CanAnswer p)
    (hcount : (s.port .line).held.length + (s.port .panel).held.length ≤ n + 1) (hheld : (s.port port).held ≠ [])
    (ih : ∀ t : State, (∀ p, t.CanAnswer p) → (t.port .line).held.length + (t.port .panel).held.length ≤ n →
      (serveBoth n t).audit.condition = t.audit.condition ∧ ∀ p, t.AllAnswered (serveBoth n t) p) :
    ∃ t, s.serveHead port = some t ∧ (serveBoth n t).audit.condition = s.audit.condition ∧
      ∀ p, s.AllAnswered (serveBoth n t) p := by
  obtain ⟨q, rest, hq⟩ := List.exists_cons_of_ne_nil hheld
  obtain ⟨t, f, hhead, hcond, hpermits, hfits, hrest, hreplies, hother⟩ := State.serveHead_of_held hq (hcan port)
  have hcan' : ∀ p, t.CanAnswer p := fun p => by
    by_cases hp : p = port
    · subst hp
      obtain ⟨hroom, hsettles⟩ := hcan p
      refine ⟨?_, fun q' hq' => hcond ▸ hsettles q' ?_⟩
      · rw [hrest, hreplies]
        rw [hq] at hroom
        simp only [List.length_append, List.length_cons, List.length_nil] at hroom ⊢
        omega
      · rw [hq]
        rw [hrest] at hq'
        exact List.mem_cons_of_mem q hq'
    · obtain ⟨hh, hr⟩ := hother p hp
      exact (hcan p).congr hh hr hcond
  have hcount' : (t.port .line).held.length + (t.port .panel).held.length ≤ n := by
    cases port with
    | line =>
      rw [(hother .panel (by decide)).1, hrest]
      rw [hq, List.length_cons] at hcount
      omega
    | panel =>
      rw [(hother .line (by decide)).1, hrest]
      rw [hq, List.length_cons] at hcount
      omega
  obtain ⟨hthen, hall⟩ := ih t hcan' hcount'
  refine ⟨t, hhead, hthen.trans hcond, fun p => ?_⟩
  by_cases hp : p = port
  · subst hp
    exact (hall p).cons hq hrest hreplies hcond hpermits hfits
  · obtain ⟨hh, hr⟩ := hother p hp
    exact (hall p).congr hh hr hcond hpermits

theorem serveBoth_answers (n : Nat) : ∀ s : State, (∀ p, s.CanAnswer p) →
    (s.port .line).held.length + (s.port .panel).held.length ≤ n →
    (serveBoth n s).audit.condition = s.audit.condition ∧ ∀ p, s.AllAnswered (serveBoth n s) p := by
  induction n with
  | zero =>
    intro s _ hcount
    have hnone : ∀ p, (s.port p).held = [] := fun p => by
      cases p <;> exact List.length_eq_zero_iff.1 (by omega)
    exact ⟨rfl, fun p => ⟨hnone p, [], (List.append_nil _).symm, hnone p ▸ .nil⟩⟩
  | succ n ih =>
    intro s hcan hcount
    have hdef : serveBoth (n + 1) s = match s.serveHead .line, s.serveHead .panel with
      | none, none => s
      | some s', none => serveBoth n s'
      | none, some s' => serveBoth n s'
      | some _, some _ =>
        match (s.choose 2).2.serveHead (if (s.choose 2).1 = 0 then .line else .panel) with
        | some s' => serveBoth n s'
        | none => s := rfl
    by_cases hline : (s.port .line).held = []
    · rw [State.serveHead_of_none hline] at hdef
      by_cases hpanel : (s.port .panel).held = []
      · rw [State.serveHead_of_none hpanel] at hdef
        have hnone : ∀ p, (s.port p).held = [] := fun p => by cases p <;> assumption
        rw [hdef]
        exact ⟨rfl, fun p => ⟨hnone p, [], (List.append_nil _).symm, hnone p ▸ .nil⟩⟩
      · obtain ⟨t, hhead, hcond, hall⟩ := State.allAnswered_of_head hcan hcount hpanel ih
        rw [hhead] at hdef
        rw [hdef]
        exact ⟨hcond, hall⟩
    · obtain ⟨t, hhead, hcond, hall⟩ := State.allAnswered_of_head hcan hcount hline ih
      rw [hhead] at hdef
      by_cases hpanel : (s.port .panel).held = []
      · rw [State.serveHead_of_none hpanel] at hdef
        rw [hdef]
        exact ⟨hcond, hall⟩
      · obtain ⟨u, hhead', -⟩ := State.allAnswered_of_head hcan hcount hpanel ih
        rw [hhead'] at hdef
        dsimp only at hdef
        have hchosen : ∀ p, (s.port p).held ≠ [] := fun p => by cases p <;> assumption
        have hports : ∀ p, (s.choose 2).2.port p = s.port p := fun p => by cases p <;> rfl
        generalize (if (s.choose 2).1 = 0 then Port.line else .panel) = p at hdef
        have hcan' : ∀ p, (s.choose 2).2.CanAnswer p := fun p => (hcan p).congr (by rw [hports]) (by rw [hports]) rfl
        obtain ⟨v, hfirst, hcond', hall'⟩ := State.allAnswered_of_head hcan' (by rw [hports, hports]; exact hcount)
          (by rw [hports]; exact hchosen p) ih
        rw [hfirst] at hdef
        rw [hdef]
        exact ⟨hcond', fun p => (hall' p).congr (by rw [hports]) (by rw [hports]) rfl rfl⟩

theorem PortState.started_traffic (x : PortState) : x.started.held = x.held ∧ x.started.replies = x.replies := by
  unfold PortState.started
  cases x.sending with
  | some f => exact ⟨rfl, rfl⟩
  | none =>
    dsimp only
    split
    · exact ⟨rfl, rfl⟩
    · split <;> exact ⟨rfl, rfl⟩

/-- Every held request is answered by the end of the command (R176). -/
theorem State.pumpBoth_answers (hcan : ∀ p, s.CanAnswer p) (htwo : ∀ p, (s.port p).held.length ≤ 2) :
    s.pumpBoth.startSending.audit.condition = s.audit.condition ∧ ∀ p, s.AllAnswered s.pumpBoth.startSending p := by
  have hcount : (s.port .line).held.length + (s.port .panel).held.length ≤ 2 * heldCapacity := by
    have hline := htwo .line
    have hpanel := htwo .panel
    simp only [heldCapacity]
    omega
  obtain ⟨hcond, hall⟩ := serveBoth_answers _ s hcan hcount
  refine ⟨hcond, fun p => ?_⟩
  obtain ⟨hnone, made, hmade, hfits⟩ := hall p
  obtain ⟨hheld, hreplies⟩ := PortState.started_traffic (s.pumpBoth.port p)
  refine ⟨?_, made, ?_, hfits⟩
  · rw [State.startSending_port, hheld]
    exact hnone
  · rw [State.startSending_port, hreplies]
    exact hmade

end

end Sys2Proof.Machine

namespace Sys2Proof.Machine

/-! ## A request held alone (R176)

Whether one port's only held request is answered as the ports are pumped, or is answered as it arrives, is the same. -/

section
variable {s t u v : State} {port : Port} {q : Request}

/-- The head of a port answered leaves what the other port holds, and the rest of its own. -/
theorem State.serveHead_some (h : s.serveHead port = some t) :
    (t.port port).held = (s.port port).held.tail ∧ ∀ p, p ≠ port → (t.port p).held = (s.port p).held := by
  unfold State.serveHead at h
  split at h
  · cases h
  · split at h
    · cases h
    · rename_i r rest hheld
      split at h
      · cases h
      · rename_i x u hans
        cases h
        have hturn := s.answer_turn port r _ hans
        refine ⟨by simp [PortState.addReply, hheld], fun p hp => ?_⟩
        rw [State.port_setPort, if_neg hp]
        exact (hturn.traffic p).held

theorem serveBoth_idle (h : ∀ p, (s.port p).held = []) (n : Nat) : serveBoth n s = s := by
  cases n with
  | zero => rfl
  | succ n => simp [serveBoth, State.serveHead_of_none (h _)]

theorem servePort_idle (h : (s.port port).held = []) (n : Nat) : servePort port n s = s := by
  cases n with
  | zero => rfl
  | succ n => simp [servePort, State.serveHead_of_none h]

theorem State.pumpBoth_idle (h : ∀ p, (s.port p).held = []) : s.pumpBoth = s := serveBoth_idle h _

/-- With one request held at one port, pumping both ports is pumping that one. -/
theorem State.pumpBoth_eq_pump (hheld : (s.port port).held = [q]) (hother : ∀ p, p ≠ port → (s.port p).held = []) :
    s.pumpBoth = s.pump port := by
  have hboth : serveBoth (2 * heldCapacity) s = match s.serveHead port with
      | none => s
      | some t => serveBoth 3 t := by
    show serveBoth (3 + 1) s = _
    unfold serveBoth
    cases port with
    | line =>
      rw [State.serveHead_of_none (hother .panel (by decide))]
      cases s.serveHead .line <;> rfl
    | panel =>
      rw [State.serveHead_of_none (hother .line (by decide))]
      cases s.serveHead .panel <;> rfl
  have hone : s.pump port = match s.serveHead port with
      | none => s
      | some t => servePort port 1 t := rfl
  unfold State.pumpBoth
  rw [hboth, hone]
  cases hserve : s.serveHead port with
  | none => rfl
  | some t =>
    obtain ⟨hrest, hothers⟩ := State.serveHead_some hserve
    have hnone : ∀ p, (t.port p).held = [] := fun p => by
      by_cases hp : p = port
      · rw [hp, hrest, hheld]
        rfl
      · rw [hothers p hp, hother p hp]
    exact (serveBoth_idle hnone 3).trans (servePort_idle (hnone port) 1).symm

theorem PortState.started_of_sending {x : PortState} (h : x.sending ≠ none) : x.started = x := by
  unfold PortState.started
  cases hx : x.sending with
  | none => exact absurd hx h
  | some f => rfl

theorem State.startSending_of_sending (h : ∀ p, (s.port p).sending ≠ none) : s.startSending = s := by
  have hline : s.line.started = s.line := PortState.started_of_sending (h .line)
  have hpanel : s.panel.started = s.panel := PortState.started_of_sending (h .panel)
  unfold State.startSending
  rw [hline, hpanel]
  rfl

/-- The state with nothing held at the port. -/
def State.unheld (s : State) (port : Port) : State := s.setPort port { s.port port with held := [] }

theorem State.HoldsAlone.eq_holding (h : s.HoldsAlone port q) : s = (s.unheld port).holding port q := by
  obtain ⟨-, hheld, -, hhunting, -⟩ := h
  have hport : ∀ x : PortState, x.receiver = .hunting → x.held = [q] →
      { { x with held := [] } with receiver := .hunting, held := [q] } = x := fun x hx hh => by rw [← hx, ← hh]
  have hsame := hport (s.port port) hhunting hheld
  cases port with
  | line => exact (congrArg s.setLine hsame).symm
  | panel => exact (congrArg s.setPanel hsame).symm

/-- Once a turn has brought it to where the ports take bytes, the request held alone is answered as if it arrived then. -/
theorem State.HoldsAlone.answered (h : s.HoldsAlone port q) (hturn : Turn (s.unheld port) v)
    (hcond : v.audit.condition ≠ .recovering) :
    v.pumpBoth.startSending = v ∧ (v.holding port q).pumpBoth.startSending = (v.receive port q).startSending := by
  obtain ⟨habsent, hheld, -, -, hkind, hbody, hother, hsending⟩ := h
  have hport : ∀ p, ((s.unheld port).port p).held = [] ∧ ((s.unheld port).port p).sending = (s.port p).sending := fun p => by
    unfold State.unheld
    rw [State.port_setPort]
    split <;> rename_i hp
    · exact ⟨rfl, by rw [hp]⟩
    · exact ⟨hother p hp, rfl⟩
  have hnone : ∀ p, (v.port p).held = [] := fun p => (hturn.traffic p).held.trans (hport p).1
  have hbusy : ∀ p, (v.port p).sending ≠ none := fun p => by
    rw [(hturn.traffic p).sending, (hport p).2]
    exact hsending p
  have hlistens : v.listens port = true := by
    have hstraps : v.straps = s.straps := hturn.course.fixed.1.trans (by cases port <;> rfl)
    have habs : v.portAbsent port = false := by
      rw [← habsent]
      cases port with
      | line => rfl
      | panel => exact congrArg (fun x : Straps => decide (x.panel = .absent)) hstraps
    simp [State.listens, habs, hcond]
  have harrive : v.receive port q = (v.holding port q).pump port := by
    have hset : (v.setReceiver port .hunting).arrive port q = (v.holding port q).pump port := by
      simp [State.arrive, State.setReceiver, hnone port, heldCapacity, State.holding]
    unfold State.receive
    rw [hlistens, if_neg (by simp), if_neg (by simp [hkind, hbody]), hset]
  have hidle : v.pumpBoth = v := State.pumpBoth_idle hnone
  refine ⟨by rw [hidle, State.startSending_of_sending hbusy], ?_⟩
  rw [harrive]
  refine congrArg State.startSending (State.pumpBoth_eq_pump (q := q) (by simp) fun p hp => ?_)
  rw [State.port_holding, if_neg hp]
  exact hnone p

end

end Sys2Proof.Machine

namespace Sys2Proof.Machine

/-! ## The power-fail save (R156, R157) -/

section
variable {s : State}

theorem exec_powerFailWarning (s : State) :
    exec (.powerFailWarning true) s = .next (s.setPowerFail true).warnPower.pumpBoth.startSending := rfl

theorem exec_saveComplete (s : State) : exec .saveComplete s = .next
    (if s.audit.condition = .saving ∧ s.pipe.rows = [] ∧ s.audit.inFlight = [] then s.endSave else s).startSending := rfl

theorem State.warnPower_begins (h : s.audit.condition = .normal ∨ s.audit.condition = .resetting) :
    s.warnPower = s.beginSave := by
  unfold State.warnPower
  rcases h with h | h <;> rw [h]

theorem State.warnPower_stays
    (h : s.audit.condition = .recovering ∨ s.audit.condition = .saving ∨ s.audit.condition = .saved) : s.warnPower = s := by
  unfold State.warnPower
  rcases h with h | h | h <;> rw [h]

theorem State.beginSave_condition (s : State) : s.beginSave.audit.condition = .saving :=
  ((s.setCondition .saving).emptiedOut_reset .power).1

theorem State.warned_turn (s : State) : Turn s (s.setPowerFail true).warnPower :=
  (turn_powerFail s true).trans (State.warnPower_turn _)

theorem State.warned_unheld (hline : s.line.held = []) (hpanel : s.panel.held = []) (p : Port) :
    ((s.setPowerFail true).warnPower.port p).held = [] := by
  rw [(s.warned_turn.traffic p).held]
  cases p with
  | line => exact hline
  | panel => exact hpanel

theorem ReplyFits.map_eq {c : Condition} {permits : RequestKind → Bool} {held : List Request} {made : List ReplyFrame}
    (h : List.Forall₂ (ReplyFits c permits) held made) :
    made.map (fun f => (f.kind, f.tag)) = held.map (fun q => (q.kind, q.tag)) := by
  induction h with
  | nil => rfl
  | cons hfits _ ih =>
    obtain ⟨hkind, htag, -⟩ := hfits
    rw [List.map_cons, List.map_cons, ih, hkind, htag]

theorem forall₂_getElem? {α β : Type} {R : α → β → Prop} {l : List α} {m : List β} (h : List.Forall₂ R l m) {i : Nat}
    {a : α} {b : β} (ha : l[i]? = some a) (hb : m[i]? = some b) : R a b := by
  obtain ⟨hi, rfl⟩ := List.getElem?_eq_some_iff.1 ha
  obtain ⟨hj, rfl⟩ := List.getElem?_eq_some_iff.1 hb
  exact h.get hi hj

/-- Once a turn has brought it to a condition that settles them, the requests held are answered by the end of the command. -/
theorem State.pumpBoth_answers_held {v : State} (hturn : Turn s v)
    (hroom : ∀ p, (s.port p).held.length ≤ 2 ∧ (s.port p).replies.length + (s.port p).held.length ≤ 4)
    (hsettles : ∀ p, ∀ q ∈ (s.port p).held, v.audit.condition.Settles q) :
    v.pumpBoth.startSending.audit.condition = v.audit.condition ∧ ∀ p, (v.pumpBoth.startSending.port p).held = [] ∧
      ∃ made, (v.pumpBoth.startSending.port p).replies = (s.port p).replies ++ made ∧
        List.Forall₂ (ReplyFits v.audit.condition (s.permits p)) (s.port p).held made := by
  have hheld : ∀ p, (v.port p).held = (s.port p).held := fun p => (hturn.traffic p).held
  have hreplies : ∀ p, (v.port p).replies = (s.port p).replies := fun p => (hturn.traffic p).replies
  have hpermits : v.permits = s.permits := by
    funext p k
    unfold State.permits
    rw [hturn.course.fixed.1]
  obtain ⟨hcond, hall⟩ := State.pumpBoth_answers (s := v)
    (fun p => ⟨by rw [hheld, hreplies]; exact (hroom p).2, fun q hq => hsettles p q (hheld p ▸ hq)⟩)
    (fun p => by rw [hheld]; exact (hroom p).1)
  refine ⟨hcond, fun p => ?_⟩
  have hp := hall p
  unfold State.AllAnswered at hp
  rw [hheld, hreplies, hpermits] at hp
  exact hp

/-- Settles O57: the emptied pipeline (`State.beginSave_saveBegun`), and the held requests, in order and held alone. -/
theorem powerFailSaveBeginsAndEnds : Obligations.PowerFailSaveBeginsAndEnds := by
  refine ⟨fun s hcond hline hpanel => ?_, fun s hcond hline hpanel => ?_, fun s => rfl, fun s hcond hrows hflight hdue => ?_,
    fun s hcond hrows hflight hdue => ?_, fun s hnot => ?_, fun s hcond hheld => ?_, fun s u port q hcond halone hexec => ?_⟩
  · have hbegun := (s.setPowerFail true).beginSave_saveBegun
    obtain ⟨hemptied, hsaving, -⟩ := hbegun
    refine ⟨(s.setPowerFail true).beginSave.startSending, ?_, (s.setPowerFail true).beginSave_saveBegun,
      fun id => hemptied.job_state id, hemptied.freed_or (.inl hsaving)⟩
    rw [exec_powerFailWarning, State.pumpBoth_idle (State.warned_unheld hline hpanel),
      State.warnPower_begins (s := s.setPowerFail true) hcond]
  · rw [exec_powerFailWarning, State.pumpBoth_idle (State.warned_unheld hline hpanel),
      State.warnPower_stays (s := s.setPowerFail true) hcond]
  · rw [exec_saveComplete, if_pos ⟨hcond, hrows, hflight⟩, State.endSave]
    dsimp only
    rw [if_neg (by simp [hdue])]
  · rw [exec_saveComplete, if_pos ⟨hcond, hrows, hflight⟩, State.endSave]
    dsimp only
    rw [if_pos (by simp [hdue])]
    rfl
  · rw [exec_saveComplete, if_neg hnot]
  · have hsaving : (s.setPowerFail true).warnPower.audit.condition = .saving := by
      rw [State.warnPower_begins (s := s.setPowerFail true) hcond]
      exact State.beginSave_condition _
    obtain ⟨hstays, hall⟩ := State.pumpBoth_answers_held s.warned_turn hheld (fun p q _ => .inr hsaving)
    refine ⟨_, exec_powerFailWarning s, hstays.trans hsaving, fun p => ?_⟩
    obtain ⟨hnone, made, hmade, hfits⟩ := hall p
    refine ⟨hnone, made, hmade, ReplyFits.map_eq hfits, fun i q f k hq hf hkind hlen hperm hread hreset => ?_⟩
    obtain ⟨-, -, hnotReady⟩ := forall₂_getElem? hfits hq hf
    exact hnotReady k hsaving hkind hlen hperm hread hreset
  · have hwarned : (s.setPowerFail true).warnPower = ((s.unheld port).setPowerFail true).warnPower.holding port q := by
      rw [← State.warnPower_holding, ← State.setPowerFail_holding, ← halone.eq_holding]
    have hcond' : ((s.unheld port).setPowerFail true).warnPower.audit.condition ≠ .recovering := by
      rw [State.warnPower_begins (s := (s.unheld port).setPowerFail true) (by cases port <;> exact hcond),
        State.beginSave_condition]
      decide
    obtain ⟨hidle, hanswered⟩ := halone.answered (s.unheld port).warned_turn hcond'
    have hu : u = ((s.unheld port).setPowerFail true).warnPower := by
      have hnext := (exec_powerFailWarning (s.unheld port)).symm.trans hexec
      rw [hidle] at hnext
      exact (Host.Outcome.next.inj hnext).symm
    rw [exec_powerFailWarning, hwarned, hanswered, hu]
    rfl

end

end Sys2Proof.Machine

namespace Sys2Proof.Machine

/-! ## The jobs ended by a warm reset (R63, R139, R142) -/

/-- The feed may go with the job: it is a LIST job, RUNNING or LOADED (R63). -/
def Job.takesFeed (j : Job) : Bool := decide ((j.state = .running ∨ j.state = .loaded) ∧ j.plan.source = .list)

/-- A job of the list is RUNNING. -/
def someRunning (js : List Job) : Bool := (js.find? (fun x => decide (x.state = .running))).isSome

/-- The job that the feed goes with, of jobs still to be ended: the first LIST job, RUNNING or LOADED, from the RUNNING job on
(R63, R142). -/
def fedAmong (js : List Job) : Option Job :=
  (if someRunning js then js.dropWhile (fun x => decide (x.state ≠ .running)) else js).find? Job.takesFeed

/-- The job loses its recovery record in a warm reset (R142). -/
def Job.losesRecord (j : Job) : Bool := decide (j.state = .running ∨ j.state = .draining)

/-- The record of a job that a warm reset ends with so many fed numbers discarded (R139, R142). -/
def State.endedByReset (s : State) (discarded : Nat) (j : Job) : Job :=
  match j.state with
  | .ended => j
  | .draining => s.endedAs j .reset (j.draw.getD ⟨0, 0, 0⟩)
  | .running =>
    s.endedAs { j with draw := some ⟨s.gen.r, s.gen.listCount, discarded⟩ } .reset ⟨s.gen.r, s.gen.listCount, discarded⟩
  | .loaded => s.endedAs { j with draw := some ⟨0, 0, discarded⟩ } .cancelled ⟨0, 0, discarded⟩

section
variable {s t : State} {j : Job} {js done rest : List Job}

theorem State.endedByReset_of_running (h : j.state = .running) (n : Nat) : s.endedByReset n j =
    s.endedAs { j with draw := some ⟨s.gen.r, s.gen.listCount, n⟩ } .reset ⟨s.gen.r, s.gen.listCount, n⟩ := by
  rw [State.endedByReset, h]

theorem State.endedByReset_of_draining (h : j.state = .draining) (n : Nat) :
    s.endedByReset n j = s.endedAs j .reset (j.draw.getD ⟨0, 0, 0⟩) := by
  rw [State.endedByReset, h]

theorem State.endedByReset_of_loaded (h : j.state = .loaded) (n : Nat) :
    s.endedByReset n j = s.endedAs { j with draw := some ⟨0, 0, n⟩ } .cancelled ⟨0, 0, n⟩ := by
  rw [State.endedByReset, h]

theorem State.endedByReset_of_ended (h : j.state = .ended) (n : Nat) : s.endedByReset n j = j := by
  rw [State.endedByReset, h]

theorem State.endedByReset_state (s : State) (n : Nat) (j : Job) : (s.endedByReset n j).state = .ended := by
  unfold State.endedByReset
  cases h : j.state with
  | ended => exact h
  | _ => rfl

theorem State.endedByReset_id (s : State) (n : Nat) (j : Job) : (s.endedByReset n j).id = j.id := by
  unfold State.endedByReset
  cases j.state <;> rfl

/-! ### The job the feed goes with -/

theorem someRunning_iff : someRunning js = true ↔ ∃ x ∈ js, x.state = .running := by simp [someRunning]

theorem fedAmong_of_none_running (h : ∀ x ∈ js, x.state ≠ .running) : fedAmong js = js.find? Job.takesFeed := by
  have hnone : someRunning js ≠ true := fun hsome => by
    obtain ⟨x, hx, hrun⟩ := someRunning_iff.1 hsome
    exact h x hx hrun
  unfold fedAmong
  rw [if_neg hnone]

theorem fedAmong_running (h : j.state = .running) (hrest : ∀ x ∈ rest, x.state ≠ .running) :
    fedAmong (j :: rest) = if j.takesFeed then some j else fedAmong rest := by
  have hsome : someRunning (j :: rest) = true := someRunning_iff.2 ⟨j, by simp, h⟩
  rw [fedAmong_of_none_running hrest, fedAmong, if_pos hsome, List.dropWhile_cons_of_neg (by simp [h])]
  cases hfeed : j.takesFeed <;> simp [hfeed]

theorem fedAmong_of_later (h : j.state ≠ .running) (hrest : ∃ x ∈ rest, x.state = .running) :
    fedAmong (j :: rest) = fedAmong rest := by
  obtain ⟨x, hx, hrun⟩ := hrest
  have hsome : someRunning (j :: rest) = true := someRunning_iff.2 ⟨x, by simp [hx], hrun⟩
  rw [fedAmong, fedAmong, if_pos hsome, if_pos (someRunning_iff.2 ⟨x, hx, hrun⟩), List.dropWhile_cons_of_pos (by simp [h])]

theorem fedAmong_of_none (h : j.state ≠ .running) (hrest : ∀ x ∈ rest, x.state ≠ .running) :
    fedAmong (j :: rest) = if j.takesFeed then some j else fedAmong rest := by
  have hnone : ∀ x ∈ j :: rest, x.state ≠ .running := by
    intro x hx
    rcases List.mem_cons.1 hx with rfl | hx
    · exact h
    · exact hrest x hx
  rw [fedAmong_of_none_running hrest, fedAmong_of_none_running hnone]
  cases hfeed : j.takesFeed <;> simp [hfeed]

theorem fedAmong_mem (h : fedAmong js = some j) : j ∈ js ∧ j.takesFeed = true := by
  refine ⟨?_, List.find?_some h⟩
  have hmem := List.mem_of_find?_eq_some h
  split at hmem
  · exact (List.dropWhile_sublist _).mem hmem
  · exact hmem

theorem fedAmong_map (f : Job → Job) (hstate : ∀ x, (f x).state = x.state) (hplan : ∀ x, (f x).plan = x.plan) :
    fedAmong (js.map f) = (fedAmong js).map f := by
  have hfeed : Job.takesFeed ∘ f = Job.takesFeed := funext fun x => by simp [Function.comp, Job.takesFeed, hstate, hplan]
  have hrunning : someRunning (js.map f) = someRunning js := by
    unfold someRunning
    rw [find_state_map js f hstate, Option.isSome_map]
  have hdrop : (js.map f).dropWhile (fun x => decide (x.state ≠ .running)) =
      (js.dropWhile (fun x => decide (x.state ≠ .running))).map f := by
    rw [List.dropWhile_map]
    simp only [Function.comp_def, hstate]
  unfold fedAmong
  rw [hrunning, hdrop]
  split <;> rw [List.find?_map, hfeed]

section
variable (hjobs : s.jobs = done ++ j :: rest) (hok : JobsOk s.jobs) (hdone : ∀ x ∈ done, x.state = .ended)
include hjobs

/-- A job of a state none of whose earlier jobs qualifies. -/
theorem find?_after (p : Job → Bool) (h : ∀ x ∈ done, p x = false) : s.jobs.find? p = (j :: rest).find? p := by
  have hnone : done.find? p = none := List.find?_eq_none.2 fun x hx => by simp [h x hx]
  rw [hjobs, List.find?_append, hnone, Option.none_or]

include hok

theorem not_mem_rest : j ∉ rest := by
  obtain ⟨-, hids, -⟩ := hok
  rw [hjobs, List.map_append, List.map_cons] at hids
  have hcons := (List.nodup_cons.1 (List.nodup_append.1 hids).2.1).1
  exact fun hj => hcons (List.mem_map_of_mem hj)

include hdone

/-- Whether the feed goes with the oldest job still to be ended (R63): by its own record, where no later job is RUNNING. -/
theorem State.feedJob_among : ∃ b : Bool, fedAmong (j :: rest) = (if b then some j else fedAmong rest) ∧
    (s.feedJob = some j ↔ b = true) := by
  have hrunning : s.running = (j :: rest).find? (fun x => decide (x.state = .running)) :=
    find?_after hjobs _ fun x hx => by simp [hdone x hx]
  have hloaded : s.oldestLoaded = (j :: rest).find? (fun x => decide (x.state = .loaded)) :=
    find?_after hjobs _ fun x hx => by simp [hdone x hx]
  have hmem : j ∈ s.jobs := by rw [hjobs]; simp
  by_cases hj : j.state = .running
  · have hrest : ∀ x ∈ rest, x.state ≠ .running := fun x hx hrun => by
      have hx' : x ∈ s.jobs := by rw [hjobs]; simp [hx]
      exact not_mem_rest hjobs hok (hok.running_unique hx' hmem hrun hj ▸ hx)
    have hrun : s.running = some j := by rw [hrunning]; simp [hj]
    refine ⟨j.takesFeed, fedAmong_running hj hrest, ?_⟩
    rw [State.feedJob_of_running hrun]
    simp [Job.takesFeed, hj]
  · by_cases hrest : ∃ x ∈ rest, x.state = .running
    · refine ⟨false, by rw [fedAmong_of_later hj hrest]; rfl, ?_⟩
      obtain ⟨r, hr⟩ := Option.isSome_iff_exists.1 (someRunning_iff.2 hrest)
      have hrun : s.running = some r := by rw [hrunning]; simp [hj, hr]
      have hstate : r.state = .running := (State.running_mem hrun).2
      rw [State.feedJob_of_running hrun]
      refine ⟨fun h => ?_, fun h => by cases h⟩
      split at h
      · exact absurd (Option.some.inj h ▸ hstate) hj
      · cases h
    · have hrest' : ∀ x ∈ rest, x.state ≠ .running := fun x hx hrun => hrest ⟨x, hx, hrun⟩
      refine ⟨j.takesFeed, fedAmong_of_none hj hrest', ?_⟩
      have hnone : s.running = none := by
        rw [hrunning]
        simpa [hj] using hrest'
      rw [State.feedJob_eq, hnone, Option.none_or, hloaded]
      by_cases hl : j.state = .loaded
      · simp [hl, Job.takesFeed, Option.filter]
      · refine ⟨fun h => ?_, fun h => by simp [Job.takesFeed, hj, hl] at h⟩
        have hfound := List.find?_some (Option.eq_some_of_filter_eq_some h)
        exact absurd (of_decide_eq_true hfound) hl

theorem State.feedJob_eq_some_iff : s.feedJob = some j ↔ fedAmong (j :: rest) = some j := by
  obtain ⟨b, hfed, hown⟩ := State.feedJob_among hjobs hok hdone
  rw [hown, hfed]
  cases b with
  | true => simp
  | false => simpa using fun h => not_mem_rest hjobs hok (fedAmong_mem h).1

theorem fedAmong_cons_of_ne (h : fedAmong (j :: rest) ≠ some j) : fedAmong (j :: rest) = fedAmong rest := by
  obtain ⟨b, hfed, -⟩ := State.feedJob_among hjobs hok hdone
  cases b with
  | true => exact absurd hfed h
  | false => exact hfed

end

/-! ### One job ended -/

theorem State.feedOf_job (hok : JobsOk s.jobs) (hj : j ∈ s.jobs) :
    s.feedOf j.id = if s.feedJob = some j then s.gen.feed.length else 0 := by
  unfold State.feedOf
  cases hfeed : s.feedJob with
  | none => rfl
  | some x =>
    have hx : s.job x.id = some x := hok.find_id (State.feedJob_mem hfeed)
    have hfind : s.job j.id = some j := hok.find_id hj
    by_cases hid : x.id = j.id
    · rw [hid, hfind] at hx
      simp [Option.some.inj hx]
    · simp [hid, show x ≠ j from fun h => hid (congrArg Job.id h)]

/-- The state once one job is ended by a warm reset, the feed emptied where it goes with it (R142). -/
def State.oneEnded (s : State) (j : Job) : State :=
  ((s.setGen { s.gen with feed := if s.feedJob = some j then [] else s.gen.feed }).setJobs
    (s.jobs.map (fun x => if x.id = j.id then s.endedByReset (if s.feedJob = some j then s.gen.feed.length else 0) x else x))).setAudit
      { s.audit with records := s.audit.records.filter (fun z => !(j.losesRecord && decide (j.id = z.job))) }

theorem JobsOk.running_eq (hok : JobsOk s.jobs) (hj : j ∈ s.jobs) (h : j.state = .running) : s.running = some j := by
  obtain ⟨r, hr⟩ := Option.isSome_iff_exists.1 (someRunning_iff.2 ⟨j, hj, h⟩)
  have hrun : s.running = some r := hr
  obtain ⟨hmem, hstate⟩ := State.running_mem hrun
  rw [hrun, hok.running_unique hmem hj hstate h]

theorem State.takesFeed_of_feedJob (h : s.feedJob = some j) : j.takesFeed = true := by
  rw [State.feedJob_eq, Option.filter_eq_some_iff, Option.or_eq_some_iff] at h
  obtain ⟨hrun | ⟨-, hloaded⟩, hlist⟩ := h
  · simp_all [Job.takesFeed, (State.running_mem hrun).2]
  · have hstate := List.find?_some hloaded
    simp_all [Job.takesFeed]

theorem State.feedJob_ne (h : j.takesFeed = false) : s.feedJob ≠ some j := fun hfeed => by
  rw [State.takesFeed_of_feedJob hfeed] at h
  cases h

theorem records_kept (h : j.losesRecord = false) (zs : List RecoveryRecord) :
    zs.filter (fun z => !(j.losesRecord && decide (j.id = z.job))) = zs := by simp [h]

theorem records_lost (h : j.losesRecord = true) (zs : List RecoveryRecord) :
    zs.filter (fun z => !(j.losesRecord && decide (j.id = z.job))) = zs.filter (fun z => decide (z.job ≠ j.id)) := by
  simp [h, eq_comm]

theorem State.resetJob_eq (hok : JobsOk s.jobs) (hj : j ∈ s.jobs) : s.resetJob j = s.oneEnded j := by
  have hfind : s.job j.id = some j := hok.find_id hj
  have hfeedOf := State.feedOf_job hok hj
  have hsame : ∀ x ∈ s.jobs, x.id = j.id → x = j := fun x hx hid => by
    have hx' : s.job x.id = some x := hok.find_id hx
    rw [hid, hfind] at hx'
    exact (Option.some.inj hx').symm
  have hmaps : ∀ f : Job → Job, f j = s.endedByReset (if s.feedJob = some j then s.gen.feed.length else 0) j →
      s.jobs.map (fun x => if x.id = j.id then f x else x) = s.jobs.map (fun x => if x.id = j.id then
        s.endedByReset (if s.feedJob = some j then s.gen.feed.length else 0) x else x) := fun f hf =>
    List.map_congr_left fun x hx => by
      by_cases hid : x.id = j.id
      · rw [if_pos hid, if_pos hid, hsame x hx hid, hf]
      · rw [if_neg hid, if_neg hid]
  unfold State.resetJob State.oneEnded
  cases hstate : j.state with
  | running =>
    have hloses : j.losesRecord = true := by simp [Job.losesRecord, hstate]
    have hrun := hok.running_eq hj hstate
    have hown : s.feedJob = some j ↔ j.plan.source = .list := by rw [State.feedJob_of_running hrun]; simp
    rw [records_lost hloses]
    dsimp only
    rw [State.handedBack_of_running hrun]
    simp only [hown] at hmaps ⊢
    rw [← hmaps (fun x => { x with
      state := .ended
      draw := some (s.handedValues j)
      endRec := some (s.endRecordOf x .reset (s.handedValues j)) }) (State.endedByReset_of_running hstate _).symm]
    show State.setAudit (State.setJobs (State.setGen s _) (List.map _ (List.map _ s.jobs))) _ = State.setAudit _ _
    rw [List.map_map]
    refine congrArg (fun js => ((s.setGen _).setJobs js).setAudit _) (List.map_congr_left fun x hx => ?_)
    by_cases hid : x.id = j.id
    · simp [hid, State.endRecordOf]
    · simp [hid]
  | draining =>
    have hloses : j.losesRecord = true := by simp [Job.losesRecord, hstate]
    have hown : s.feedJob ≠ some j := State.feedJob_ne (by simp [Job.takesFeed, hstate])
    rw [records_lost hloses, if_neg hown, ← hmaps (fun x => { x with
      state := .ended
      endRec := some (s.endRecordOf x .reset (x.draw.getD ⟨0, 0, 0⟩)) }) (State.endedByReset_of_draining hstate _).symm]
    rfl
  | loaded =>
    have hloses : j.losesRecord = false := by simp [Job.losesRecord, hstate]
    rw [records_kept hloses]
    dsimp only
    rw [State.cancelLoaded_eq hok hfind,
      hmaps s.cancelledAs (by rw [State.endedByReset_of_loaded hstate, ← hfeedOf]; rfl)]
    rfl
  | ended =>
    have hloses : j.losesRecord = false := by simp [Job.losesRecord, hstate]
    have hown : s.feedJob ≠ some j := State.feedJob_ne (by simp [Job.takesFeed, hstate])
    have hsame : s.jobs.map (fun x => if x.id = j.id then id x else x) = s.jobs := map_id_of_forall fun x _ => by simp
    rw [records_kept hloses, if_neg hown, ← hmaps id (State.endedByReset_of_ended hstate _).symm, hsame]
    rfl

/-! ### All of them, oldest first -/

/-- The state once the jobs still to be ended are ended by a warm reset, after those that are (R142). -/
def State.allEnded (s : State) (done rest : List Job) : State :=
  ((s.setGen { s.gen with feed := if (fedAmong rest).isSome then [] else s.gen.feed }).setJobs
    (done ++ rest.map (fun j => s.endedByReset (if fedAmong rest = some j then s.gen.feed.length else 0) j))).setAudit
      { s.audit with records := s.audit.records.filter (fun z =>
          !rest.any (fun j => j.losesRecord && decide (j.id = z.job))) }

theorem State.oneEnded_jobs (hjobs : s.jobs = done ++ j :: rest) (hok : JobsOk s.jobs) : (s.oneEnded j).jobs =
    (done ++ [s.endedByReset (if s.feedJob = some j then s.gen.feed.length else 0) j]) ++ rest := by
  have hids : (s.jobs.map Job.id).Nodup := hok.2.1
  rw [hjobs, List.map_append, List.map_cons, List.nodup_append, List.nodup_cons] at hids
  obtain ⟨-, ⟨hlater, -⟩, hearlier⟩ := hids
  have hkept : ∀ (f : Job → Job) (l : List Job), (∀ x ∈ l, x.id ≠ j.id) →
      l.map (fun x => if x.id = j.id then f x else x) = l :=
    fun f l hl => map_id_of_forall fun x hx => if_neg (hl x hx)
  show s.jobs.map _ = _
  rw [hjobs, List.map_append, List.map_cons, if_pos rfl,
    hkept _ done (fun x hx => hearlier _ (List.mem_map_of_mem hx) _ (by simp)),
    hkept _ rest (fun x hx h => hlater (h ▸ List.mem_map_of_mem hx)), List.append_assoc]
  rfl

theorem State.allEnded_oneEnded (hfed : s.feedJob = some j ↔ fedAmong (j :: rest) = some j)
    (hlater : fedAmong (j :: rest) ≠ some j → fedAmong (j :: rest) = fedAmong rest) (hnot : j ∉ rest) :
    (s.oneEnded j).allEnded (done ++ [s.endedByReset (if s.feedJob = some j then s.gen.feed.length else 0) j]) rest =
      s.allEnded done (j :: rest) := by
  have hfeed : (if (fedAmong rest).isSome then [] else if s.feedJob = some j then [] else s.gen.feed) =
      if (fedAmong (j :: rest)).isSome then [] else s.gen.feed := by
    by_cases h : fedAmong (j :: rest) = some j
    · simp [hfed, h]
    · simp [mt hfed.1 h, hlater h]
  have hrecords : (s.audit.records.filter (fun z => !(j.losesRecord && decide (j.id = z.job)))).filter (fun z =>
        !rest.any (fun j => j.losesRecord && decide (j.id = z.job))) =
      s.audit.records.filter (fun z => !(j :: rest).any (fun j => j.losesRecord && decide (j.id = z.job))) := by
    rw [List.filter_filter]
    refine List.filter_congr fun z _ => ?_
    rw [List.any_cons, Bool.not_or, Bool.and_comm]
  have hjobs : (done ++ [s.endedByReset (if s.feedJob = some j then s.gen.feed.length else 0) j]) ++ rest.map (fun x =>
        (s.oneEnded j).endedByReset (if fedAmong rest = some x then (s.oneEnded j).gen.feed.length else 0) x) =
      done ++ (j :: rest).map (fun x =>
        s.endedByReset (if fedAmong (j :: rest) = some x then s.gen.feed.length else 0) x) := by
    rw [List.append_assoc, List.map_cons, List.singleton_append]
    simp only [hfed]
    refine congrArg (fun l => done ++ _ :: l) (List.map_congr_left fun x hx => ?_)
    have hlength : (if fedAmong rest = some x then (s.oneEnded j).gen.feed.length else 0) =
        if fedAmong (j :: rest) = some x then s.gen.feed.length else 0 := by
      show (if _ then (if s.feedJob = some j then [] else s.gen.feed : List Nat).length else 0) = _
      by_cases h : fedAmong (j :: rest) = some j
      · have hne : j ≠ x := fun hj => hnot (hj ▸ hx)
        simp [hfed, h, hne]
      · simp [mt hfed.1 h, hlater h]
    rw [hlength]
    rfl
  unfold State.allEnded
  rw [← hrecords, ← hfeed, ← hjobs]
  rfl

theorem State.resetJobs_fold (rest : List Job) : ∀ (done : List Job) (s : State), s.jobs = done ++ rest → JobsOk s.jobs →
    (∀ x ∈ done, x.state = .ended) → rest.foldl State.resetJob s = s.allEnded done rest := by
  induction rest with
  | nil =>
    intro done s hjobs _ _
    have hall : s.audit.records.filter (fun z => !([] : List Job).any (fun j => j.losesRecord && decide (j.id = z.job))) =
        s.audit.records := List.filter_eq_self.2 fun _ _ => rfl
    unfold State.allEnded
    rw [hall, List.map_nil, ← hjobs]
    rfl
  | cons j rest ih =>
    intro done s hjobs hok hdone
    have hmem : j ∈ s.jobs := by rw [hjobs]; simp
    have hone := State.oneEnded_jobs hjobs hok
    have hfed := State.feedJob_eq_some_iff hjobs hok hdone
    have hlater := fedAmong_cons_of_ne hjobs hok hdone
    have hok' : JobsOk (s.oneEnded j).jobs := hok.map_leaving _
      (fun x => by split; exacts [State.endedByReset_id _ _ _, rfl])
      (fun x => by split; exacts [fun h => by simp [State.endedByReset_state] at h, id])
    have hdone' : ∀ x ∈ done ++ [s.endedByReset (if s.feedJob = some j then s.gen.feed.length else 0) j], x.state = .ended := by
      intro x hx
      rcases List.mem_append.1 hx with hx | hx
      · exact hdone x hx
      · rw [List.mem_singleton.1 hx]
        exact State.endedByReset_state _ _ _
    rw [List.foldl_cons, State.resetJob_eq hok hmem, ih _ _ hone hok' hdone']
    exact State.allEnded_oneEnded hfed hlater (not_mem_rest hjobs hok)

/-- What a warm reset makes of the jobs, the feed and the recovery records (R142). -/
theorem State.resetJobs_eq (hok : JobsOk s.jobs) : s.resetJobs = ((s.setGen { s.gen with feed := [] }).setJobs
    (s.jobs.map (fun j => s.endedByReset (if fedAmong s.jobs = some j then s.gen.feed.length else 0) j))).setAudit
      { s.audit with records := s.audit.records.filter (fun z =>
          !s.jobs.any (fun j => j.losesRecord && decide (j.id = z.job))) } := by
  have hfold := State.resetJobs_fold s.jobs [] s rfl hok (fun x hx => by cases hx)
  unfold State.resetJobs
  dsimp only
  rw [hfold]
  rfl

end

end Sys2Proof.Machine

namespace Sys2Proof.Machine

/-! ## The steps of a warm reset (R155) -/

section
variable {s t y : State}

/-- A warm reset begun, with the state that its emptying leaves (R155 steps 1 and 2). -/
theorem State.beginReset_emptied (s : State) : s.Emptied s.beginReset .reset false := by
  have hemptied := (s.setAudit s.audit.resetBegun).emptiedOut_emptied .reset
  rw [State.beginReset_eq]
  exact hemptied

theorem State.beginReset_reset (s : State) : s.beginReset.audit.condition = .resetting ∧ s.beginReset.audit.resetDue = false ∧
    s.beginReset.audit.resetStage = .emptied ∧
      s.beginReset.audit.resetNotQueued = (s.emptied .reset).any VoidRecord.notQueued := by
  obtain ⟨hcond, hdue, hstage, hnotQueued⟩ := (s.setAudit s.audit.resetBegun).emptiedOut_reset .reset
  rw [State.beginReset_eq]
  refine ⟨hcond, hdue, hstage, hnotQueued.trans ?_⟩
  show (false || ((s.emptied .reset).any VoidRecord.notQueued && decide (Condition.resetting = .resetting))) = _
  simp

theorem State.beginReset_ports (s : State) (h : s.stop.Consistent) : s.beginReset.stop.Consistent ∧
    s.beginReset.stop.output = s.stop.output ∧ s.beginReset = s.portsEmptied s.beginReset .reset := by
  have hsteady := (s.setAudit s.audit.resetBegun).emptiedOut_steady .reset h
  have hports := (s.setAudit s.audit.resetBegun).emptiedOut_ports .reset h
  obtain ⟨hconsistent, hout, -⟩ := hsteady
  rw [State.beginReset_eq]
  exact ⟨hconsistent, hout, hports⟩

theorem State.beginReset_left (s : State) : s.beginReset.resetLeft = 2 := by
  obtain ⟨hcond, -, hstage, -⟩ := s.beginReset_reset
  unfold State.resetLeft
  rw [hcond, hstage]
  rfl

theorem State.resetLeft_le (s : State) : s.resetLeft ≤ 2 := by
  unfold State.resetLeft
  split
  · cases s.audit.resetStage <;> simp
  · simp

theorem State.requestReset_begun (h : s.audit.condition = .normal ∨ s.audit.condition = .saved) :
    s.requestReset = s.beginReset.advanceReset := by
  unfold State.requestReset
  rcases h with h | h <;> rw [h]

/-! ### Step 3: the jobs -/

/-- The jobs ended after the emptying of the pipeline, the test of R7 to come (R155 step 3, R142). -/
def State.jobsEnded (s : State) : State := (s.beginReset.setResetStage .ended).resetJobs

theorem resetSteps_one (s : State) : resetSteps 1 s.beginReset = s.jobsEnded.testFree := by
  obtain ⟨-, -, hstage, -⟩ := s.beginReset_reset
  show s.beginReset.resetStep = _
  unfold State.resetStep
  rw [hstage]
  rfl

theorem State.resetEnded_congr (h : t.audit.queue = y.audit.queue) : s.resetEnded t = s.resetEnded y := by
  funext j
  unfold State.resetEnded State.endedAs
  rw [h]

/-- A record ended by the reset, from the record as the emptying left it. -/
theorem State.endedByReset_emptied (hok : JobsOk s.jobs) {j : Job} (hj : j ∈ s.jobs) (hgen : t.gen = s.gen) :
    t.endedByReset (if fedAmong (s.jobs.map s.jobEmptied) = some (s.jobEmptied j) then t.gen.feed.length else 0) (s.jobEmptied j) =
      s.resetEnded t j := by
  have hfed : fedAmong (s.jobs.map s.jobEmptied) = some (s.jobEmptied j) ↔ fedAmong s.jobs = some j := by
    rw [fedAmong_map s.jobEmptied (fun _ => rfl) (fun _ => rfl)]
    cases hfed : fedAmong s.jobs with
    | none => simp
    | some x =>
      rw [Option.map_some, Option.some.injEq, Option.some.injEq]
      refine ⟨fun h => ?_, congrArg s.jobEmptied⟩
      have hid : x.id = j.id := (congrArg Job.id h :)
      have hx := hok.find_id (fedAmong_mem hfed).1
      rw [hid, hok.find_id hj] at hx
      exact (Option.some.inj hx).symm
  have hstate : (s.jobEmptied j).state = j.state := rfl
  have hdraw : (s.jobEmptied j).draw = j.draw := rfl
  have hdef : s.resetEnded t j = match j.state with
      | .ended => s.jobEmptied j
      | .draining => t.endedAs (s.jobEmptied j) .reset (j.draw.getD ⟨0, 0, 0⟩)
      | .running => t.endedAs { s.jobEmptied j with draw := some ⟨s.gen.r, s.gen.listCount,
          if fedAmong s.jobs = some j then s.gen.feed.length else 0⟩ } .reset
            ⟨s.gen.r, s.gen.listCount, if fedAmong s.jobs = some j then s.gen.feed.length else 0⟩
      | .loaded => t.endedAs { s.jobEmptied j with draw := some ⟨0, 0,
          if fedAmong s.jobs = some j then s.gen.feed.length else 0⟩ } .cancelled
            ⟨0, 0, if fedAmong s.jobs = some j then s.gen.feed.length else 0⟩ := by
    unfold State.resetEnded
    cases j.state <;> rfl
  rw [hdef]
  simp only [hfed, hgen]
  unfold State.endedByReset
  rw [hstate, hdraw]
  cases j.state <;> simp only [hgen]

/-- What step 3 makes of the jobs, their recovery records and the feed; all else is as the emptying left it (R142, log entry 29). -/
theorem State.jobsEnded_eq (hok : JobsOk s.jobs) : s.jobsEnded =
    ((s.beginReset.setGen { s.gen with feed := [] }).setJobs (s.jobs.map (s.resetEnded s.beginReset))).setAudit
      { s.beginReset.audit with
        resetStage := .ended
        records := s.beginReset.audit.records.filter (fun z => !s.jobs.any (fun j =>
          decide (j.id = z.job ∧ (j.state = .running ∨ j.state = .draining)))) } := by
  have hemptied := s.beginReset_emptied
  obtain ⟨-, hjobs, -, -, -, -, -, -, -, -, -, -, -, hgen, -⟩ := hemptied
  unfold State.jobsEnded
  generalize s.beginReset = t at hjobs hgen
  have hok' : JobsOk t.jobs := hjobs ▸ hok.map s.jobEmptied (fun _ => rfl) (fun _ => rfl)
  have hended : t.jobs.map (fun j => (t.setResetStage .ended).endedByReset
      (if fedAmong t.jobs = some j then t.gen.feed.length else 0) j) = s.jobs.map (s.resetEnded t) := by
    rw [hjobs, List.map_map]
    exact List.map_congr_left fun j hj => State.endedByReset_emptied (t := t.setResetStage .ended) hok hj hgen
  have hrecords : (fun z : RecoveryRecord => !t.jobs.any (fun j => j.losesRecord && decide (j.id = z.job))) =
      fun z => !s.jobs.any (fun j => decide (j.id = z.job ∧ (j.state = .running ∨ j.state = .draining))) := by
    funext z
    rw [hjobs, List.any_map]
    refine congrArg (fun b => !b) (congrArg (List.any s.jobs) (funext fun j => ?_))
    show (j.losesRecord && decide (j.id = z.job)) = _
    rw [Job.losesRecord, Bool.decide_and, Bool.and_comm]
  rw [State.resetJobs_eq (s := t.setResetStage .ended) hok', ← hended, ← hrecords, ← hgen]
  rfl

theorem State.resetEnded_state (s t : State) (j : Job) : (s.resetEnded t j).state = .ended := by
  unfold State.resetEnded
  cases h : j.state with
  | ended => exact h
  | _ => rfl

theorem State.resetEnded_id (s t : State) (j : Job) : (s.resetEnded t j).id = j.id := by
  unfold State.resetEnded
  cases j.state <;> rfl

/-- No job is RUNNING after step 3. -/
theorem State.jobsEnded_running (hok : JobsOk s.jobs) : s.jobsEnded.running = none := by
  rw [State.jobsEnded_eq hok]
  refine List.find?_eq_none.2 fun j hj => ?_
  obtain ⟨x, -, rfl⟩ := List.mem_map.1 hj
  simp [State.resetEnded_state]

theorem State.jobsEnded_goesFree (hok : JobsOk s.jobs) : s.jobsEnded.goesFree = s.beginReset.trk.epoch.isSome := by
  have hemptied := s.beginReset_emptied
  obtain ⟨-, -, -, hpipe, -⟩ := hemptied
  have hrows : s.jobsEnded.pipe.rows = [] := by
    rw [State.jobsEnded_eq hok]
    show s.beginReset.pipe.rows = []
    rw [hpipe]
  have htrk : s.jobsEnded.trk = s.beginReset.trk := by rw [State.jobsEnded_eq hok]; rfl
  unfold State.goesFree
  rw [State.jobsEnded_running hok, hrows, htrk]
  simp

/-! ### The return to FREE of an emptied pipeline (R7) -/

theorem State.testFree_kept {α : Type} (f : State → α) (hf : ∀ x : State, f x.core = f x) (hfree : f s.atFree = f s) :
    f s.testFree = f s := by
  refine (core_field f hf s.testFree_atFree).trans ?_
  split
  · exact hfree
  · rfl

theorem State.returnToFree_freed (s : State) : s.Freed s.returnToFree := by
  have hcore := s.returnToFree_atFree
  have heased := s.returnToFree_eased
  rw [State.atFree_eq] at hcore
  generalize s.returnToFree = t at hcore heased
  have htrk := core_field State.trk (fun _ => rfl) hcore
  have hpipe := core_field State.pipe (fun _ => rfl) hcore
  have hepoch : t.trk.epoch = none := by rw [htrk]; rfl
  have hcond : t.audit.condition = s.audit.condition := (State.condition_of_core hcore).trans rfl
  refine ⟨hepoch, by rw [hpipe]; rfl, fun p => ⟨State.sync_of_no_epoch hepoch p, ?_, ?_, ?_, fun y hy => ?_⟩, ?_⟩
  · rw [core_field State.marks (fun _ => rfl) hcore]
    exact PerPly.get_map _ _ _
  · rw [heased.held]
    simp [State.easedAtFree, levelsEased]
  · rw [core_field State.zones (fun _ => rfl) hcore]
    exact PerPly.get_all _ _
  · rw [htrk] at hy
    have hev := (List.mem_filter.1 hy).2
    constructor <;> rintro hy <;> rw [hy] at hev <;> cases hev
  · rw [hcond, hpipe]
    show _ ∨ _ ∨ (s.pipe.reserve && s.savingOrSaved) = false
    by_cases hsaving : s.savingOrSaved = true
    · unfold State.savingOrSaved at hsaving
      rw [Bool.or_eq_true] at hsaving
      rcases hsaving with h | h
      · exact .inl (of_decide_eq_true h)
      · exact .inr (.inl (of_decide_eq_true h))
    · simp [hsaving]

theorem State.Freed.of_marks (h : t.Freed y) (hmarks : ∀ p, (t.marks.get p).off = (s.marks.get p).off) : s.Freed y := by
  obtain ⟨hepoch, hnext, hplies, hreserve⟩ := h
  refine ⟨hepoch, hnext, fun p => ?_, hreserve⟩
  obtain ⟨hsync, hoff, hrest⟩ := hplies p
  exact ⟨hsync, hoff.trans (hmarks p), hrest⟩

theorem State.Freed.congr (h : s.Freed t) (htrk : y.trk = t.trk) (hpipe : y.pipe = t.pipe) (hmarks : y.marks = t.marks)
    (hstop : y.stop = t.stop) (hzones : y.zones = t.zones) (hcond : y.audit.condition = t.audit.condition) : s.Freed y := by
  obtain ⟨hepoch, hnext, hplies, hreserve⟩ := h
  have hepoch' : y.trk.epoch = none := by rw [htrk]; exact hepoch
  refine ⟨hepoch', by rw [hpipe]; exact hnext, fun p => ⟨State.sync_of_no_epoch hepoch' p, ?_⟩, ?_⟩
  · rw [hmarks, hstop, hzones, htrk]
    exact (hplies p).2
  · rw [hcond, hpipe]
    exact hreserve

/-- The blocks that step 3 leaves to the test of R7. -/
theorem State.jobsEnded_rest (hok : JobsOk s.jobs) : s.jobsEnded.trk = s.beginReset.trk ∧ s.jobsEnded.pipe = s.beginReset.pipe ∧
    s.jobsEnded.marks = s.beginReset.marks ∧ s.jobsEnded.stop = s.beginReset.stop ∧ s.jobsEnded.zones = s.beginReset.zones ∧
    s.jobsEnded.audit.condition = s.beginReset.audit.condition := by
  rw [State.jobsEnded_eq hok]
  generalize s.beginReset = t
  exact ⟨rfl, rfl, rfl, rfl, rfl, rfl⟩

theorem State.jobsEnded_free (hok : JobsOk s.jobs) : s.jobsEnded.testFree.trk.epoch = none ∧
    (s.trk.epoch ≠ none → s.Freed s.jobsEnded.testFree) ∧
    ∀ p, (s.jobsEnded.testFree.marks.get p).off = (s.marks.get p).off := by
  have hgoes := State.jobsEnded_goesFree hok
  have hor := s.beginReset_emptied.freed_or (.inr (.inr rfl))
  obtain ⟨htrk, hpipe, hmarks, hstop, hzones, hcond⟩ := State.jobsEnded_rest hok
  generalize s.jobsEnded = y at hgoes htrk hpipe hmarks hstop hzones hcond
  rw [State.testFree_eq, hgoes]
  split at hor <;> rename_i hrunning
  · obtain ⟨hepoch, -⟩ := id hor
    have hfreed : s.Freed y := hor.congr htrk hpipe hmarks hstop hzones hcond
    obtain ⟨hnone, -, hplies, -⟩ := id hfreed
    rw [if_neg (by simp [hepoch])]
    refine ⟨hnone, fun _ => hfreed, fun p => ?_⟩
    rw [(hplies p).2.1]
    rfl
  · obtain ⟨hepoch, hsame, -⟩ := hor
    have hstay : y.marks = s.marks := hmarks.trans hsame
    rw [hepoch]
    cases hopen : s.trk.epoch with
    | none =>
      have hnone : y.trk.epoch = none := by rw [htrk, hepoch, hopen]
      exact ⟨hnone, fun h => absurd rfl h, fun p => by rw [← hstay]; rfl⟩
    | some e =>
      have hfreed : s.Freed y.returnToFree := y.returnToFree_freed.of_marks (fun p => by rw [hstay])
      obtain ⟨hnone, -, hplies, -⟩ := id hfreed
      refine ⟨hnone, fun _ => hfreed, fun p => ?_⟩
      show (y.returnToFree.marks.get p).off = _
      rw [(hplies p).2.1]
      rfl

end

end Sys2Proof.Machine

namespace Sys2Proof.Machine

section
variable {s t : State}

/-- The recovery records that outlive the jobs ended (R142). -/
def State.recordsLeft (s : State) (zs : List RecoveryRecord) : List RecoveryRecord :=
  zs.filter (fun z => !s.jobs.any (fun j => decide (j.id = z.job ∧ (j.state = .running ∨ j.state = .draining))))

/-- A warm reset after step 3. -/
def State.stepThree (s : State) : State := s.jobsEnded.testFree

section
variable (hok : JobsOk s.jobs)
include hok

theorem State.stepThree_audit : s.stepThree.audit = { s.beginReset.audit with
    resetStage := .ended
    records := s.recordsLeft s.beginReset.audit.records } := by
  refine (State.testFree_kept State.audit (fun _ => rfl) rfl).trans ?_
  rw [State.jobsEnded_eq hok]
  rfl

theorem State.stepThree_jobs : s.stepThree.jobs = s.jobs.map (s.resetEnded s.stepThree) := by
  have hqueue : s.beginReset.audit.queue = s.stepThree.audit.queue := by rw [State.stepThree_audit hok]
  rw [← State.resetEnded_congr hqueue]
  refine (State.testFree_kept State.jobs (fun _ => rfl) rfl).trans ?_
  rw [State.jobsEnded_eq hok]
  rfl

theorem State.stepThree_gen : s.stepThree.gen = { s.gen with feed := [] } := by
  refine (State.testFree_kept State.gen (fun _ => rfl) rfl).trans ?_
  rw [State.jobsEnded_eq hok]
  rfl

/-- What step 3 leaves as the emptying left it. -/
theorem State.stepThree_kept {α : Type} (f : State → α) (hf : ∀ x : State, f x.core = f x)
    (hfree : ∀ x : State, f x.atFree = f x) (hjobs : ∀ (x : State) g js a, f (((x.setGen g).setJobs js).setAudit a) = f x) : f s.stepThree = f s.beginReset := by
  refine (State.testFree_kept f hf (hfree _)).trans ?_
  rw [State.jobsEnded_eq hok]
  exact hjobs _ _ _ _

theorem State.stepThree_rest : s.stepThree.shift = s.beginReset.shift ∧ s.stepThree.drivers = s.beginReset.drivers ∧
    s.stepThree.monitors = s.beginReset.monitors ∧ s.stepThree.pipe.markers = s.beginReset.pipe.markers ∧
    s.stepThree.trk.capture = s.beginReset.trk.capture ∧ s.stepThree.pipe.rows = s.beginReset.pipe.rows ∧
    s.stepThree.pipe.formsDiscarded = s.beginReset.pipe.formsDiscarded ∧ s.stepThree.requests = s.beginReset.requests ∧
    s.stepThree.readers = s.beginReset.readers ∧ s.stepThree.plies = s.beginReset.plies ∧
    s.stepThree.straps = s.beginReset.straps ∧ s.stepThree.headLink = s.beginReset.headLink ∧
    s.stepThree.powerFail = s.beginReset.powerFail :=
  ⟨State.stepThree_kept hok State.shift (fun _ => rfl) (fun _ => rfl) (fun _ _ _ _ => rfl),
    State.stepThree_kept hok State.drivers (fun _ => rfl) (fun _ => rfl) (fun _ _ _ _ => rfl),
    State.stepThree_kept hok State.monitors (fun _ => rfl) (fun _ => rfl) (fun _ _ _ _ => rfl),
    State.stepThree_kept hok (fun x => x.pipe.markers) (fun _ => rfl) (fun _ => rfl) (fun _ _ _ _ => rfl),
    State.stepThree_kept hok (fun x => x.trk.capture) (fun _ => rfl) (fun _ => rfl) (fun _ _ _ _ => rfl),
    State.stepThree_kept hok (fun x => x.pipe.rows) (fun _ => rfl) (fun _ => rfl) (fun _ _ _ _ => rfl),
    State.stepThree_kept hok (fun x => x.pipe.formsDiscarded) (fun _ => rfl) (fun _ => rfl) (fun _ _ _ _ => rfl),
    State.stepThree_kept hok State.requests (fun _ => rfl) (fun _ => rfl) (fun _ _ _ _ => rfl),
    State.stepThree_kept hok State.readers (fun _ => rfl) (fun _ => rfl) (fun _ _ _ _ => rfl),
    State.stepThree_kept hok State.plies (fun _ => rfl) (fun _ => rfl) (fun _ _ _ _ => rfl),
    State.stepThree_kept hok State.straps (fun _ => rfl) (fun _ => rfl) (fun _ _ _ _ => rfl),
    State.stepThree_kept hok State.headLink (fun _ => rfl) (fun _ => rfl) (fun _ _ _ _ => rfl),
    State.stepThree_kept hok State.powerFail (fun _ => rfl) (fun _ => rfl) (fun _ _ _ _ => rfl)⟩

/-- The ports and the Stop Unit at step 3: in a consistent one nothing is raised. -/
theorem State.stepThree_eased : Eased s.beginReset s.stepThree (fun x => s.jobsEnded.goesFree && s.jobsEnded.easedAtFree x) := by
  have hended : Eased s.beginReset s.jobsEnded (fun _ => false) := by
    rw [State.jobsEnded_eq hok]
    generalize s.beginReset = t
    exact Eased.of_eq rfl rfl rfl
  exact (hended.trans s.jobsEnded.testFree_eased).congr fun x => Bool.false_or _

theorem State.stepThree_ended : ∀ j ∈ s.stepThree.jobs, j.state = .ended := by
  rw [State.stepThree_jobs hok]
  intro j hj
  obtain ⟨x, -, rfl⟩ := List.mem_map.1 hj
  exact s.resetEnded_state _ x

theorem State.stepThree_reset : s.stepThree.audit.condition = .resetting ∧ s.stepThree.audit.resetStage = .ended := by
  rw [State.stepThree_audit hok]
  exact ⟨s.beginReset_reset.1, rfl⟩

end

end

end Sys2Proof.Machine

namespace Sys2Proof.Machine

/-! ### Step 4: the blocks -/

section
variable {s t v : State}

/-- The blocks but the Stop Unit and the ports, once a warm reset has cleared those of a state with no row (R155 step 4). -/
def State.clearedCore (v : State) : State :=
  (((((v.setTrk { v.trk with epoch := none, schedule := [], capture := powerUpCapture }).setMarks
    (v.marks.map MarkPly.off)).setZones (PerPly.all [])).setPipe { v.pipe with
      nextIndex := none
      reserve := v.pipe.reserve && v.savingOrSaved
      markers := PerLane.all false }).setReaders (v.readers.map (fun x => { x with expectations := [] }))).setMonitors
    (v.monitors.map (fun m => { m with counter := 0, previous := false }))

/-- The state once its zones and expectations are gone and it has returned to FREE, at step 4 with no row held. -/
def State.quieted (v : State) : State := v.zonesOff.endAllExpectations.returnToFree

/-- The schedule, the capture, the marker outputs and the monitors cleared (R155 step 4). -/
def State.wiped (v : State) : State :=
  ((v.setTrk { v.trk with schedule := [], capture := powerUpCapture }).setPipe { v.pipe with
    markers := PerLane.all false }).setMonitors (v.monitors.map (fun m => { m with counter := 0, previous := false }))

/-- The Stop Unit cleared of every cause that is not held (R155 step 4, R169). -/
def State.stopCleared (v : State) : State := v.changeStop (fun u => u.cleared (BitVec.allOnes 17))

theorem State.clearBlocks_of_no_row (hrows : v.pipe.rows = []) : v.clearBlocks =
    (v.quieted.wiped.stopCleared.setLine v.quieted.wiped.stopCleared.line.cleared).setPanel
      v.quieted.wiped.stopCleared.panel.cleared := by
  have hrows' : v.zonesOff.endAllExpectations.pipe.rows = [] := hrows
  unfold State.clearBlocks
  dsimp only
  rw [if_pos hrows']
  rfl

theorem core_wiped {s t : State} (h : s.core = t.core) : s.wiped.core = t.wiped.core := by
  have htrk : s.trk = t.trk := core_field State.trk (fun _ => rfl) h
  have hpipe : s.pipe = t.pipe := core_field State.pipe (fun _ => rfl) h
  have hmonitors : s.monitors = t.monitors := core_field State.monitors (fun _ => rfl) h
  unfold State.wiped
  rw [htrk, hpipe, hmonitors]
  exact congrArg (fun x : State => ((x.setTrk _).setPipe _).setMonitors _) h

theorem State.clearBlocks_core (hrows : v.pipe.rows = []) : v.clearBlocks.core = v.clearedCore.core := by
  have hstop : v.clearBlocks.core = v.quieted.wiped.core := by
    rw [State.clearBlocks_of_no_row hrows]
    have hports : ∀ (u : State) (l p : PortState), ((u.setLine l).setPanel p).core = u.core := fun _ _ _ => rfl
    rw [hports]
    exact core_changeStop v.quieted.wiped _
  have hfree := core_wiped v.zonesOff.endAllExpectations.returnToFree_atFree
  rw [hstop]
  refine hfree.trans ?_
  rw [State.atFree_eq]
  rfl

/-- The Stop Unit after step 4: what is latched is what is held, and the levels that end are those of the return to FREE. -/
theorem State.clearBlocks_stop (hrows : v.pipe.rows = []) : v.clearBlocks.stop.latched = v.clearBlocks.stop.held ∧
    v.clearBlocks.stop.mask = v.stop.mask ∧
    ∀ x, StopSet.has v.clearBlocks.stop.held x = (StopSet.has v.stop.held x && !v.easedAtFree x) := by
  have heased := v.zonesOff.endAllExpectations.returnToFree_eased
  have hstop : v.clearBlocks.stop = (v.quieted.wiped.stop.cleared (BitVec.allOnes 17)).reformed := by
    rw [State.clearBlocks_of_no_row hrows]
    generalize v.quieted.wiped = w
    exact State.changeStop_stop w _
  rw [hstop]
  refine ⟨?_, heased.mask, heased.held⟩
  show (v.quieted.stop.latched &&& ~~~BitVec.allOnes 17) ||| (BitVec.allOnes 17 &&& v.quieted.stop.held) = v.quieted.stop.held
  rw [BitVec.allOnes_and, BitVec.not_allOnes, BitVec.and_zero, BitVec.zero_or]

theorem PortState.SameTraffic.eq_cleared {x y : PortState} (h : x.SameTraffic y) (hpending : y.pending = 0)
    (hunsent : y.unsent = false) : y = { x with pending := 0, unsent := false } := by
  obtain ⟨hreceiver, hheld, hreplies, hsending⟩ := h
  cases y
  simp_all

/-- A port after step 4: no attention pending and no unsent notice (R177 step 4). -/
theorem State.clearBlocks_port (hturn : Turn s v) (p : Port) : v.clearBlocks.port p = { s.port p with
    pending := 0
    unsent := false } := by
  obtain ⟨u, -, -, hu⟩ := v.clearBlocks_eq
  refine ((hturn.trans v.clearBlocks_turn).traffic p).eq_cleared ?_ ?_
  · rw [hu]
    cases p <;> rfl
  · rw [hu]
    cases p <;> rfl

end

end Sys2Proof.Machine

namespace Sys2Proof.Machine

/-! ## A warm reset with both its steps taken (R155) -/

section
variable {s : State}

/-- A warm reset after step 4. -/
def State.stepFour (s : State) : State := (s.stepThree.setResetStage .cleared).clearBlocks

theorem resetSteps_stepThree (s : State) : resetSteps 1 s.beginReset = s.stepThree := resetSteps_one s

section
variable (hok : JobsOk s.jobs)
include hok

theorem resetSteps_stepFour : resetSteps 2 s.beginReset = s.stepFour := by
  have hstep : resetSteps 2 s.beginReset = (resetSteps 1 s.beginReset).resetStep := rfl
  rw [hstep, resetSteps_stepThree, State.resetStep, (State.stepThree_reset hok).2]
  rfl

theorem State.stepThree_rows : s.stepThree.pipe.rows = [] := by
  obtain ⟨-, -, -, -, -, hrows, -⟩ := State.stepThree_rest hok
  obtain ⟨-, -, -, hpipe, -⟩ := s.beginReset_emptied
  rw [hrows, hpipe]

theorem State.stepFour_core : s.stepFour.core = (s.stepThree.setResetStage .cleared).clearedCore.core :=
  State.clearBlocks_core (State.stepThree_rows hok)

theorem State.stepFour_audit : s.stepFour.audit = { s.auditEmptied .reset with
    condition := .resetting
    resetDue := false
    resetNotQueued := (s.emptied .reset).any VoidRecord.notQueued
    resetStage := .cleared
    records := s.recordsLeft (s.auditEmptied .reset).records } := by
  have haudit : s.stepFour.audit = { s.stepThree.audit with resetStage := .cleared } :=
    core_field State.audit (fun _ => rfl) (State.stepFour_core hok)
  obtain ⟨hcond, hdue, hstage, hnotQueued⟩ := s.beginReset_reset
  obtain ⟨hstore, -⟩ := s.beginReset_emptied
  rw [haudit, State.stepThree_audit hok, hstore, hcond, hdue, hnotQueued]

theorem State.stepFour_left : s.stepFour.audit.condition = .resetting ∧ s.stepFour.resetLeft = 0 := by
  have haudit := State.stepFour_audit hok
  refine ⟨by rw [haudit], ?_⟩
  unfold State.resetLeft
  rw [haudit]
  rfl

theorem State.stepFour_jobs : s.stepFour.jobs = s.jobs.map (s.resetEnded s.stepFour) := by
  have hqueue : s.stepThree.audit.queue = s.stepFour.audit.queue :=
    (core_field (fun x : State => x.audit.queue) (fun _ => rfl) (State.stepFour_core hok)).symm
  have hkept : ∀ v : State, (v.setResetStage .cleared).clearedCore.jobs = v.jobs := fun _ => rfl
  rw [← State.resetEnded_congr hqueue, ← State.stepThree_jobs hok, ← hkept s.stepThree]
  exact core_field State.jobs (fun _ => rfl) (State.stepFour_core hok)

theorem State.stepFour_job (id : Nat) : s.stepFour.job id = (s.job id).map (s.resetEnded s.stepFour) := by
  unfold State.job
  rw [State.stepFour_jobs hok]
  exact find_id_map s.jobs _ (s.resetEnded_id _) id

theorem State.stepFour_trk : s.stepFour.trk = { s.trk with epoch := none, schedule := [], capture := powerUpCapture } := by
  obtain ⟨-, -, -, -, -, -, -, htrk, -⟩ := s.beginReset_emptied
  have hkept := State.stepThree_kept hok (fun x => ({ x.trk with
    epoch := none
    schedule := []
    capture := powerUpCapture } : Tracker)) (fun _ => rfl) (fun x => by rw [State.atFree_eq]; rfl) (fun _ _ _ _ => rfl)
  refine (core_field State.trk (fun _ => rfl) (State.stepFour_core hok)).trans (hkept.trans ?_)
  dsimp only
  rw [htrk]

theorem State.stepFour_pipe : s.stepFour.pipe = { s.pipe with
    rows := []
    nextIndex := none
    reserve := false
    markers := PerLane.all false } := by
  obtain ⟨-, -, -, hpipe, -⟩ := s.beginReset_emptied
  have hkept := State.stepThree_kept hok (fun x => ({ x.pipe with
    nextIndex := none
    reserve := false
    markers := PerLane.all false } : Pipeline)) (fun _ => rfl) (fun x => by rw [State.atFree_eq]; rfl) (fun _ _ _ _ => rfl)
  have hcond := (State.stepThree_reset hok).1
  have hsaving : (s.stepThree.setResetStage .cleared).savingOrSaved = false := by
    have hsame : (s.stepThree.setResetStage .cleared).audit.condition = .resetting := hcond
    simp [State.savingOrSaved, hsame]
  refine (core_field State.pipe (fun _ => rfl) (State.stepFour_core hok)).trans ?_
  have hcleared : (s.stepThree.setResetStage .cleared).clearedCore.pipe = { s.stepThree.pipe with
      nextIndex := none
      reserve := false
      markers := PerLane.all false } := by
    show ({ s.stepThree.pipe with
      nextIndex := none
      reserve := s.stepThree.pipe.reserve && (s.stepThree.setResetStage .cleared).savingOrSaved
      markers := PerLane.all false } : Pipeline) = _
    rw [hsaving, Bool.and_false]
  refine hcleared.trans (hkept.trans ?_)
  dsimp only
  rw [hpipe]

theorem State.stepFour_freed : s.Freed s.stepFour := by
  have hcore := State.stepFour_core hok
  have hpipe := State.stepFour_pipe hok
  have htrk := State.stepFour_trk hok
  obtain ⟨-, -, hheld⟩ := State.clearBlocks_stop (v := s.stepThree.setResetStage .cleared) (State.stepThree_rows hok)
  obtain ⟨-, -, hmarks⟩ := State.jobsEnded_free hok
  have hepoch : s.stepFour.trk.epoch = none := by rw [htrk]
  refine ⟨hepoch, by rw [hpipe], fun p => ⟨State.sync_of_no_epoch hepoch p, ?_, ?_, ?_, fun y hy => ?_⟩,
    .inr (.inr (by rw [hpipe]))⟩
  · rw [core_field State.marks (fun _ => rfl) hcore]
    exact (PerPly.get_map _ _ _).trans (hmarks p)
  · exact (hheld (.markLost p)).trans (by simp [State.easedAtFree, levelsEased])
  · rw [core_field State.zones (fun _ => rfl) hcore]
    exact PerPly.get_all _ _
  · rw [htrk] at hy
    cases hy

end

end

end Sys2Proof.Machine

namespace Sys2Proof.Machine

section
variable {s : State}

/-! ### The clauses of a reset begun -/

/-- What the beginning of a warm reset does (R155 steps 1 and 2). -/
theorem beginReset_begins (s : State) :
    let t := s.beginReset
    t.audit.condition = .resetting ∧ t.resetLeft = 2 ∧ t.audit.resetDue = false ∧
      t.audit.resetNotQueued = (s.emptied .reset).any VoidRecord.notQueued ∧
      s.Emptied t .reset false ∧ (s.stop.Consistent → t.stop.output = s.stop.output ∧ t = s.portsEmptied t .reset) ∧
      (∀ id, (t.job id).map Job.state = (s.job id).map Job.state) ∧
      (if s.running = none ∧ s.trk.epoch ≠ none then s.Freed t
       else t.trk.epoch = s.trk.epoch ∧ t.marks = s.marks ∧ t.zones = s.zones) := by
  obtain ⟨hcond, hdue, -, hnotQueued⟩ := s.beginReset_reset
  exact ⟨hcond, s.beginReset_left, hdue, hnotQueued, s.beginReset_emptied, fun h => (s.beginReset_ports h).2,
    s.beginReset_emptied.job_state, s.beginReset_emptied.freed_or (.inr (.inr rfl))⟩

/-- What step 3 of a warm reset does (R155, R142). -/
theorem stepThree_ends (hok : JobsOk s.jobs) :
    let t := s.beginReset
    let v := resetSteps 1 t
    v.resetLeft = 1 ∧ v.running = none ∧ v.gen.feed = [] ∧ (∀ j ∈ v.jobs, j.state = .ended) ∧
    (s.trk.epoch ≠ none → s.Freed v) ∧ v.trk.epoch = none ∧
    v.audit = { t.audit with
      resetStage := .ended
      records := t.audit.records.filter (fun z => !s.jobs.any (fun j =>
        decide (j.id = z.job ∧ (j.state = .running ∨ j.state = .draining)))) } ∧
    v.jobs = s.jobs.map (s.resetEnded v) ∧ v.shift = t.shift ∧ (s.stop.Consistent → v.line = t.line ∧ v.panel = t.panel) ∧
    v.drivers = t.drivers ∧ v.monitors = s.monitors ∧ v.pipe.markers = s.pipe.markers ∧ v.trk.capture = s.trk.capture := by
  have hended := State.stepThree_ended hok
  have hleft : s.stepThree.resetLeft = 1 := by
    obtain ⟨hcond, hstage⟩ := State.stepThree_reset hok
    unfold State.resetLeft
    rw [hcond, hstage]
    rfl
  have hrunning : s.stepThree.running = none := List.find?_eq_none.2 fun j hj => by simp [hended j hj]
  obtain ⟨hepoch, hfreed, -⟩ := State.jobsEnded_free hok
  obtain ⟨hshift, hdrivers, hmonitors, hmarkers, hcapture, -⟩ := State.stepThree_rest hok
  have hemptied := s.beginReset_emptied
  obtain ⟨-, -, -, hpipe, -, -, -, htrk, -, -, -, -, -, -, -, hmonitors', -⟩ := hemptied
  have hports : s.stop.Consistent → s.stepThree.line = s.beginReset.line ∧ s.stepThree.panel = s.beginReset.panel := fun h => by
    obtain ⟨hsteady, -, -⟩ := s.beginReset_ports h
    obtain ⟨-, -, hline, hpanel⟩ := (State.stepThree_eased hok).steady hsteady
    exact ⟨hline, hpanel⟩
  intro t v
  have hv : v = s.stepThree := resetSteps_stepThree s
  rw [hv]
  exact ⟨hleft, hrunning, by rw [State.stepThree_gen hok], hended, hfreed, hepoch, State.stepThree_audit hok,
    State.stepThree_jobs hok, hshift, hports, hdrivers, hmonitors.trans hmonitors', hmarkers.trans (by rw [hpipe]),
    hcapture.trans (by rw [htrk])⟩

/-! ### What step 4 leaves -/

theorem State.stepFour_port (p : Port) : s.stepFour.port p = { s.port p with
    pending := 0
    unsent := false } := by
  refine State.clearBlocks_port (v := s.stepThree.setResetStage .cleared) ?_ p
  have hturn : Turn s s.stepThree := s.beginReset_turn.trans (resetSteps_stepThree s ▸ resetSteps_turn 1 s.beginReset)
  exact hturn.trans (State.setResetStage_turn _ _)

section
variable (hok : JobsOk s.jobs)
include hok

/-- What neither step 4 nor the emptying changes, or step 4 clears. -/
theorem State.stepFour_kept {α : Type} (f : State → α) (hf : ∀ x : State, f x.core = f x)
    (hcleared : ∀ x : State, f (x.setResetStage .cleared).clearedCore = f x) : f s.stepFour = f s.stepThree :=
  (core_field f hf (State.stepFour_core hok)).trans (hcleared _)

theorem State.stepFour_gen : s.stepFour.gen = { s.gen with feed := [] } :=
  (State.stepFour_kept hok State.gen (fun _ => rfl) (fun _ => rfl)).trans (State.stepThree_gen hok)

theorem State.stepFour_readers (p : Ply) : s.stepFour.readers.get p = { s.readers.get p with expectations := [] } := by
  obtain ⟨-, -, -, -, -, -, -, -, hreaders, -⟩ := State.stepThree_rest hok
  have hemptied := s.beginReset_emptied
  obtain ⟨-, -, -, -, -, hreaders', -⟩ := hemptied
  have hcleared : s.stepFour.readers = s.stepThree.readers.map (fun x => { x with expectations := [] }) :=
    core_field State.readers (fun _ => rfl) (State.stepFour_core hok)
  rw [hcleared, PerPly.get_map, hreaders, hreaders']

theorem State.stepFour_monitors (i : Mon) : s.stepFour.monitors.get i = { s.monitors.get i with
    counter := 0
    previous := false } := by
  obtain ⟨-, -, hmonitors, -⟩ := State.stepThree_rest hok
  have hemptied := s.beginReset_emptied
  obtain ⟨-, -, -, -, -, -, -, -, -, -, -, -, -, -, -, hmonitors', -⟩ := hemptied
  have hcleared : s.stepFour.monitors = s.stepThree.monitors.map (fun m => { m with counter := 0, previous := false }) :=
    core_field State.monitors (fun _ => rfl) (State.stepFour_core hok)
  rw [hcleared, PerMon.get_map, hmonitors, hmonitors']

theorem State.stepFour_stop : s.stepFour.stop.latched = s.stepFour.stop.held ∧ s.stepFour.stop.mask = s.stop.mask ∧
    (∀ p, StopSet.has s.stepFour.stop.held (.markLost p) = false) ∧
    ∀ d, StopSet.has s.stepFour.stop.held (.driverDown d) = StopSet.has s.stop.held (.driverDown d) := by
  obtain ⟨hlatched, hmask, hheld⟩ := State.clearBlocks_stop (v := s.stepThree.setResetStage .cleared) (State.stepThree_rows hok)
  have heased := State.stepThree_eased hok
  have hemptied := s.beginReset_emptied
  obtain ⟨-, -, -, -, -, -, -, -, -, -, -, hmask', hheld', -⟩ := hemptied
  refine ⟨hlatched, hmask.trans (heased.mask.trans hmask'), fun p => ?_, fun d => ?_⟩
  · exact (hheld (.markLost p)).trans (by simp [State.easedAtFree, levelsEased])
  · refine (hheld (.driverDown d)).trans ?_
    show (StopSet.has s.stepThree.stop.held (.driverDown d) && !false) = _
    rw [heased.held, hheld']
    simp [State.easedAtFree, levelsEased]

/-- The blocks that step 4 leaves as the emptying left them. -/
theorem State.stepFour_rest : s.stepFour.shift = s.shiftEmptied ∧ s.stepFour.zones = PerPly.all [] ∧ s.stepFour.requests = [] ∧
    (∀ d, s.stepFour.drivers.get d = { s.drivers.get d with
      orders := []
      counts := { (s.drivers.get d).counts with
        abandoned := satAdd (s.drivers.get d).counts.abandoned (s.drivers.get d).orders.length } }) ∧
    s.stepFour.plies = s.plies ∧ s.stepFour.straps = s.straps ∧ s.stepFour.headLink = s.headLink ∧
    s.stepFour.powerFail = s.powerFail := by
  obtain ⟨hshift, hdrivers, -, -, -, -, -, hrequests, -, hplies, hstraps, hlink, hpower⟩ := State.stepThree_rest hok
  have hemptied := s.beginReset_emptied
  obtain ⟨-, -, hshift', -, hrequests', -, hdrivers', -, -, -, -, -, -, -, hplies', -, hstraps', hlink', hpower', -⟩ := hemptied
  have hkept := State.stepFour_kept hok State.drivers (fun _ => rfl) (fun _ => rfl)
  refine ⟨(State.stepFour_kept hok State.shift (fun _ => rfl) (fun _ => rfl)).trans (hshift.trans hshift'), ?_,
    (State.stepFour_kept hok State.requests (fun _ => rfl) (fun _ => rfl)).trans (hrequests.trans hrequests'), fun d => ?_,
    (State.stepFour_kept hok State.plies (fun _ => rfl) (fun _ => rfl)).trans (hplies.trans hplies'),
    (State.stepFour_kept hok State.straps (fun _ => rfl) (fun _ => rfl)).trans (hstraps.trans hstraps'),
    (State.stepFour_kept hok State.headLink (fun _ => rfl) (fun _ => rfl)).trans (hlink.trans hlink'),
    (State.stepFour_kept hok State.powerFail (fun _ => rfl) (fun _ => rfl)).trans (hpower.trans hpower')⟩
  · exact core_field State.zones (fun _ => rfl) (State.stepFour_core hok)
  · rw [hkept, hdrivers]
    exact hdrivers' d

/-- Each job after the reset: ended, RESET where it was RUNNING or DRAINING, CANCELLED where it was LOADED (R142). -/
theorem State.stepFour_endings (id : Nat) (j : Job) (hj : s.job id = some j) : ∃ j', s.stepFour.job id = some j' ∧
    j'.state = .ended ∧ j'.owner = j.owner ∧
    (match j.state with
     | .ended => j'.endRec = j.endRec
     | .loaded => ∃ e, j'.endRec = some e ∧ e.reason = .cancelled
     | _ => (∃ e, j'.endRec = some e ∧ e.reason = .reset) ∧ ∀ r ∈ s.stepFour.audit.records, r.job ≠ id) := by
  have hmem : j ∈ s.jobs := List.mem_of_find?_eq_some hj
  have hid : j.id = id := by simpa using List.find?_some hj
  have hlost : j.state = .running ∨ j.state = .draining → ∀ r ∈ s.stepFour.audit.records, r.job ≠ id := by
    intro hstate r hr hjob
    rw [State.stepFour_audit hok] at hr
    have hleft := (List.mem_filter.1 hr).2
    have hany : s.jobs.any (fun j => decide (j.id = r.job ∧ (j.state = .running ∨ j.state = .draining))) = true :=
      List.any_eq_true.2 ⟨j, hmem, decide_eq_true ⟨hid.trans hjob.symm, hstate⟩⟩
    rw [hany] at hleft
    cases hleft
  refine ⟨s.resetEnded s.stepFour j, by rw [State.stepFour_job hok, hj]; rfl, s.resetEnded_state _ j, ?_, ?_⟩
  · unfold State.resetEnded
    cases j.state <;> rfl
  · unfold State.resetEnded
    cases hstate : j.state with
    | ended => rfl
    | loaded => exact ⟨_, rfl, rfl⟩
    | running => exact ⟨⟨_, rfl, rfl⟩, hlost (.inl hstate)⟩
    | draining => exact ⟨⟨_, rfl, rfl⟩, hlost (.inr hstate)⟩

end

/-! ### The Reset message (R177) -/

theorem State.receive_ready {port : Port} {q : Request} (h : s.Ready port) (hkind : isReplyKind q.kind = false)
    (hbody : q.body.length ≤ 240) : s.receive port q = (s.holding port q).pump port := by
  obtain ⟨hlisten, hnone, -⟩ := h
  simp [State.receive, hlisten, hkind, Nat.not_lt.2 hbody, State.arrive, State.setReceiver, hnone, heldCapacity, State.holding]

theorem treatment_reset {c : Condition} {hold : ResetHold} (hrecovering : c ≠ .recovering) (hresetting : c ≠ .resetting) :
    treatment c hold .reset = .served := by
  cases c with
  | recovering => exact absurd rfl hrecovering
  | resetting => exact absurd rfl hresetting
  | _ => rfl

/-- A Reset message is answered OK, with the reset begun or due (R177). -/
theorem reset_answered {port : Port} {tag : Byte} (h : s.Ready port) (hperm : s.permits port .reset = true)
    (hcond : s.audit.condition ≠ .resetting) :
    let u := (s.holding port ⟨0x4F, tag, []⟩).requestReset
    exec (.reset port tag []) s = .next (u.setPort port { u.port port with
      held := []
      replies := (s.port port).replies ++ [{ kind := 0x4F, tag := tag, reply := .plain }] }).startSending := by
  intro u
  have hreceive := State.receive_ready (q := ⟨0x4F, tag, []⟩) h (by decide : isReplyKind 0x4F = false) (by simp)
  obtain ⟨hlisten, hnone, hcap⟩ := h
  have hrecovering : s.audit.condition ≠ .recovering := fun hc => by simp [State.listens, hc] at hlisten
  have htraffic := (s.holding port ⟨0x4F, tag, []⟩).requestReset_turn.traffic port
  have hanswer : (s.holding port ⟨0x4F, tag, []⟩).answer port ⟨0x4F, tag, []⟩ = some (⟨.ok, .none⟩, u) := by
    have hkind : requestKind 0x4F = some .reset := requestKind_code .reset
    unfold State.answer
    rw [hkind, State.permits_holding, State.audit_holding, State.straps_holding]
    dsimp only
    rw [if_neg (by decide), if_neg (by simp [hperm]), treatment_reset hrecovering hcond]
    rfl
  have hhead : (s.holding port ⟨0x4F, tag, []⟩).serveHead port = some (u.setPort port { u.port port with
      held := []
      replies := (s.port port).replies ++ [{ kind := 0x4F, tag := tag, reply := .plain }] }) := by
    have hreplies : (u.port port).replies = (s.port port).replies := htraffic.replies.trans (by simp)
    unfold State.serveHead
    rw [if_neg (by simpa [replyCapacity] using hcap)]
    simp only [State.port_holding, if_true, hanswer]
    simp [PortState.addReply, replyFrame, Reply.plain, hreplies]
  have hpump : (s.holding port ⟨0x4F, tag, []⟩).pump port = u.setPort port { u.port port with
      held := []
      replies := (s.port port).replies ++ [{ kind := 0x4F, tag := tag, reply := .plain }] } := by
    have hdef : (s.holding port ⟨0x4F, tag, []⟩).pump port = match (s.holding port ⟨0x4F, tag, []⟩).serveHead port with
      | none => s.holding port ⟨0x4F, tag, []⟩
      | some t => servePort port 1 t := rfl
    rw [hdef, hhead]
    exact servePort_idle (by simp) 1
  show Host.Outcome.next (s.receive port ⟨0x4F, tag, []⟩).startSending = _
  rw [hreceive, hpump]

end

end Sys2Proof.Machine

namespace Sys2Proof.Machine

/-! ## The end of a warm reset (R155 step 5, R156) -/

section
variable {s : State}

theorem State.emptyFeedOf_audit (s : State) (id : Nat) : (s.emptyFeedOf id).audit = s.audit := by
  rw [State.emptyFeedOf_eq]
  rfl

/-- The condition, the appends in flight and the stage of the reset: what tells how far a warm reset has come. -/
def AuditStore.progress (a : AuditStore) : Condition × List VoidRecord × ResetStage := (a.condition, a.inFlight, a.resetStage)

theorem State.resetJob_progress (s : State) (j : Job) : (s.resetJob j).audit.progress = s.audit.progress := by
  have hback : (s.handedBack j.id).audit = s.audit := State.emptyFeedOf_audit _ _
  have hcancel : (s.cancelLoaded j.id).audit = s.audit := State.emptyFeedOf_audit _ _
  unfold State.resetJob
  cases j.state with
  | running => exact (congrArg AuditStore.progress hback :)
  | draining => rfl
  | loaded => exact congrArg AuditStore.progress hcancel
  | ended => rfl

theorem State.resetJobs_progress (s : State) : s.resetJobs.audit.progress = s.audit.progress := by
  have hfold : ∀ (js : List Job) (x : State), (js.foldl State.resetJob x).audit.progress = x.audit.progress := fun js => by
    induction js with
    | nil => exact fun _ => rfl
    | cons j js ih => exact fun x => (ih _).trans (x.resetJob_progress j)
  exact hfold s.jobs s

theorem State.returnToFree_audit (s : State) : s.returnToFree.audit = s.audit := by
  have hcore := s.returnToFree_atFree
  rw [State.atFree_eq] at hcore
  have hsame := core_field State.audit (fun _ => rfl) hcore
  exact hsame

theorem State.clearBlocks_audit (s : State) : s.clearBlocks.audit = s.audit := by
  have hfree : (if s.zonesOff.endAllExpectations.pipe.rows = [] then s.zonesOff.endAllExpectations.returnToFree
      else s.zonesOff.endAllExpectations).audit = s.audit := by
    split
    · exact State.returnToFree_audit _
    · rfl
  have hports : ∀ (u : State) (l p : PortState), ((u.setLine l).setPanel p).audit = u.audit := fun _ _ _ => rfl
  have hstop : ∀ (u : State) f, (u.changeStop f).audit = u.audit := fun u f =>
    core_field State.audit (fun _ => rfl) (core_changeStop u f)
  unfold State.clearBlocks
  dsimp only
  rw [hports, hstop]
  exact hfree

theorem State.testFree_audit (s : State) : s.testFree.audit = s.audit := State.testFree_kept State.audit (fun _ => rfl) rfl

/-- How many steps of a reset in progress are still to come at a stage. -/
def ResetStage.left : ResetStage → Nat
  | .emptied => 2
  | .ended => 1
  | .cleared => 0

/-- A step of the reset keeps the condition and the appends in flight, and leaves one step fewer. -/
theorem State.resetStep_keeps (h : s.audit.condition = .resetting) : s.resetStep.audit.condition = .resetting ∧
    s.resetStep.audit.inFlight = s.audit.inFlight ∧ s.resetStep.resetLeft = s.resetLeft - 1 := by
  have hjobs : (s.setResetStage .ended).resetJobs.testFree.audit.progress =
      (Condition.resetting, s.audit.inFlight, ResetStage.ended) := by
    rw [State.testFree_audit, State.resetJobs_progress]
    exact congrArg (·, s.audit.inFlight, ResetStage.ended) h
  have hblocks : (s.setResetStage .cleared).clearBlocks.audit.progress =
      (Condition.resetting, s.audit.inFlight, ResetStage.cleared) := by
    rw [State.clearBlocks_audit]
    exact congrArg (·, s.audit.inFlight, ResetStage.cleared) h
  have hleft : ∀ (u : State) st, u.audit.progress = (Condition.resetting, s.audit.inFlight, st) →
      u.audit.condition = .resetting ∧ u.audit.inFlight = s.audit.inFlight ∧
        u.resetLeft = st.left := fun u st hu => by
    obtain ⟨hcond, hrest⟩ := Prod.mk.inj hu
    obtain ⟨hflight, hstage⟩ := Prod.mk.inj hrest
    refine ⟨hcond, hflight, ?_⟩
    unfold State.resetLeft
    rw [hcond, hstage]
    cases st <;> rfl
  obtain ⟨-, -, hthis⟩ := hleft s s.audit.resetStage (congrArg (·, s.audit.inFlight, s.audit.resetStage) h)
  rw [hthis]
  unfold State.resetStep
  cases hstage : s.audit.resetStage with
  | emptied => exact hleft _ _ hjobs
  | ended => exact hleft _ _ hblocks
  | cleared => exact ⟨h, rfl, by rw [hthis, hstage]; rfl⟩

theorem resetSteps_keep (n : Nat) (s : State) (h : s.audit.condition = .resetting) :
    (resetSteps n s).audit.condition = .resetting ∧ (resetSteps n s).audit.inFlight = s.audit.inFlight ∧
      (resetSteps n s).resetLeft = s.resetLeft - n := by
  induction n generalizing s with
  | zero => exact ⟨h, rfl, rfl⟩
  | succ n ih =>
    obtain ⟨hcond, hflight, hleft⟩ := State.resetStep_keeps h
    obtain ⟨hcond', hflight', hleft'⟩ := ih s.resetStep hcond
    exact ⟨hcond', hflight'.trans hflight, by rw [resetSteps, hleft', hleft]; omega⟩

/-! ### RESET_COMPLETE -/

theorem exec_resetComplete (s : State) : exec .resetComplete s = .next
    (if s.audit.condition = .resetting ∧ s.audit.inFlight = [] then s.endReset.pumpBoth else s).startSending := rfl

/-- The steps still to come may be taken before the event: the reset ends the same (log entry 16). -/
theorem resetComplete_advanced (hcond : s.audit.condition = .resetting) (hflight : s.audit.inFlight = []) :
    exec .resetComplete s = exec .resetComplete (resetSteps s.resetLeft s) := by
  obtain ⟨hcond', hflight', hleft⟩ := resetSteps_keep s.resetLeft s hcond
  have hends : (resetSteps s.resetLeft s).endReset = s.endReset := by
    rw [State.endReset_eq, State.endReset_eq s, hleft, Nat.sub_self]
    rfl
  rw [exec_resetComplete, exec_resetComplete, if_pos ⟨hcond, hflight⟩, if_pos ⟨hcond', hflight'.trans hflight⟩, hends]

theorem State.resetOver_audit (u : State) :
    u.resetOver.audit = { u.audit with condition := .normal, resetNotQueued := false } := by
  unfold State.resetOver
  rw [State.raiseIf_audit, State.raiseIf_audit, State.raiseIf_audit]
  rfl

theorem State.resetOver_core (u : State) : u.resetOver.core =
    ((u.setAudit { u.audit with condition := .normal, resetNotQueued := false }).syncAll).core := by
  unfold State.resetOver
  rw [core_raiseIf, core_raiseIf, core_raiseIf]

theorem State.resetOver_has (u : State) {p : Port} (h : u.portAbsent p = false) (a : Attention) :
    AttentionSet.has (u.resetOver.startSending.port p).pending a = (AttentionSet.has (u.port p).pending a ||
      decide (.resetDone = a) || (decide (u.audit.notifyLevel ≤ u.audit.voids.length) && decide (.voidReady = a)) ||
      (u.audit.resetNotQueued && decide (.makeUp = a))) := by
  have habsent : ∀ (v : State) b c, (v.raiseIf b c).portAbsent p = v.portAbsent p := fun v b c =>
    congrFun (core_field State.portAbsent (fun _ => rfl) (core_raiseIf v b c)) p
  have hport : ((u.setAudit { u.audit with condition := .normal, resetNotQueued := false }).syncAll).port p = u.port p := by
    cases p <;> rfl
  have hstraps : ((u.setAudit { u.audit with condition := .normal, resetNotQueued := false }).syncAll).portAbsent p = false := h
  rw [State.startSending_port, PortState.started_pending]
  unfold State.resetOver
  rw [State.raiseIf_has _ (by rw [habsent, habsent]; exact hstraps), State.raiseIf_has _ (by rw [habsent]; exact hstraps),
    State.raiseIf_has _ hstraps, hport, Bool.true_and]

theorem State.endReset_condition (s : State) : s.endReset.audit.condition = .normal := by
  rw [State.endReset_eq, State.resetOver_audit]

theorem State.raiseIf_eq (s : State) (b : Bool) (c : Attention) : ∃ l p, s.raiseIf b c = (s.setLine l).setPanel p := by
  cases b with
  | true => exact s.raiseBoth_eq c
  | false => exact ⟨s.line, s.panel, rfl⟩

/-- The end of a reset changes the store, the head link and the ports alone. -/
theorem State.resetOver_frame (u : State) :
    u.resetOver.startSending = (((u.setAudit u.resetOver.startSending.audit).setHeadLink
      u.resetOver.startSending.headLink).setLine u.resetOver.startSending.line).setPanel u.resetOver.startSending.panel := by
  obtain ⟨l, p, hdone⟩ := ((u.setAudit { u.audit with condition := .normal, resetNotQueued := false }).syncAll).raiseIf_eq
    true .resetDone
  obtain ⟨l', p', hready⟩ := (((u.setAudit { u.audit with condition := .normal, resetNotQueued := false }).syncAll.raiseIf
    true .resetDone)).raiseIf_eq (decide (u.audit.notifyLevel ≤ u.audit.voids.length)) .voidReady
  obtain ⟨l'', p'', hmakeUp⟩ := (((u.setAudit { u.audit with condition := .normal, resetNotQueued := false }).syncAll.raiseIf
    true .resetDone).raiseIf (decide (u.audit.notifyLevel ≤ u.audit.voids.length)) .voidReady).raiseIf_eq
      u.audit.resetNotQueued .makeUp
  have hover : u.resetOver = ((u.setAudit { u.audit with condition := .normal, resetNotQueued := false }).syncAll.setLine
      l'').setPanel p'' := by
    rw [State.resetOver, hmakeUp, hready, hdone]
    rfl
  rw [hover]
  rfl

/-- Settles O56: the beginning, steps 3 and 4 (`State.stepThree`, `State.stepFour`), the end, and the requests held until it. -/
theorem warmResetBeginsAndEnds : Obligations.WarmResetBeginsAndEnds := by
  refine ⟨fun s => rfl, fun s hcond => ?_, fun s hcond => beginReset_begins s, fun s hcond hok => stepThree_ends hok,
    fun s hcond hok => ?_, fun s hcond => ?_, fun s hcond => ?_,
    fun s port tag hready hperm hcond => reset_answered hready hperm hcond,
    fun s hcond hflight => resetComplete_advanced hcond hflight, fun s hcond hflight hleft hline hpanel => ?_, fun s hnot => ?_,
    fun s hcond hflight hheld => ?_, fun s u port q hcond hflight halone hexec => ?_⟩
  · obtain ⟨n, hn, hreset⟩ := s.beginReset.advanceReset_advanced
    exact ⟨n, hn.trans (State.resetLeft_le _), by rw [State.requestReset_begun hcond, hreset]⟩
  · intro t
    have ht : t = s.stepFour := resetSteps_stepFour hok
    rw [ht]
    obtain ⟨hnormal, hleft⟩ := State.stepFour_left hok
    have hpipe := State.stepFour_pipe hok
    obtain ⟨hlatched, hmask, hmarkLost, hdown⟩ := State.stepFour_stop hok
    obtain ⟨hshift, hzones, hrequests, hdrivers, hplies, hstraps, hlink, hpower⟩ := State.stepFour_rest hok
    exact ⟨hnormal, hleft, State.stepFour_freed hok, State.stepFour_audit hok, State.stepFour_jobs hok, hshift,
      by rw [hpipe], by rw [hpipe], by rw [hpipe], by rw [hpipe], by rw [hpipe], State.stepFour_trk hok, hzones, hrequests,
      State.stepFour_gen hok, State.stepFour_readers hok, hdrivers, State.stepFour_monitors hok, hlatched, hmask, hmarkLost,
      hdown, State.stepFour_port, State.stepFour_endings hok, hplies, hstraps, hlink, hpower⟩
  · unfold State.requestReset
    rw [hcond]
  · unfold State.requestReset
    rcases hcond with hcond | hcond <;> rw [hcond]
  · have hends : s.endReset = s.resetOver := by
      rw [State.endReset_eq, hleft]
      rfl
    have hidle : s.resetOver.pumpBoth = s.resetOver := State.pumpBoth_idle fun p => by
      rw [← hends, (s.endReset_turn.traffic p).held]
      cases p with
      | line => exact hline
      | panel => exact hpanel
    refine ⟨s.resetOver.startSending, by rw [exec_resetComplete, if_pos ⟨hcond, hflight⟩, hends, hidle], s.resetOver_audit,
      ?_, fun p hp => ⟨?_, ?_, ?_⟩, s.resetOver_frame⟩
    · refine (core_field State.headLink (fun _ => rfl) s.resetOver_core).trans ?_
      rw [State.syncAll_eq]
      rfl
    · rw [s.resetOver_has hp]
      simp
    · rw [s.resetOver_has hp]
      simp
    · rw [s.resetOver_has hp]
      simp
  · rw [exec_resetComplete, if_neg hnot]
  · obtain ⟨hstays, hall⟩ := State.pumpBoth_answers_held s.endReset_turn (fun p => ⟨(hheld p).1, (hheld p).2.1⟩)
      (fun p q hq => .inl ⟨s.endReset_condition, (hheld p).2.2 q hq⟩)
    refine ⟨s.endReset.pumpBoth.startSending, by rw [exec_resetComplete, if_pos ⟨hcond, hflight⟩],
      hstays.trans s.endReset_condition, fun p => ?_⟩
    obtain ⟨hnone, made, hmade, hfits⟩ := hall p
    refine ⟨hnone, ?_⟩
    rw [hmade, List.map_append, ReplyFits.map_eq hfits]
  · have hends : s.endReset = (s.unheld port).endReset.holding port q := by
      rw [← State.endReset_holding, ← halone.eq_holding]
    have hreset : (s.unheld port).audit.condition = .resetting ∧ (s.unheld port).audit.inFlight = [] := by
      cases port <;> exact ⟨hcond, hflight⟩
    obtain ⟨hidle, hanswered⟩ := halone.answered (s.unheld port).endReset_turn
      (by rw [State.endReset_condition]; decide)
    have hu : u = (s.unheld port).endReset := by
      have hnext := (exec_resetComplete (s.unheld port)).symm.trans hexec
      rw [if_pos hreset, hidle] at hnext
      exact (Host.Outcome.next.inj hnext).symm
    rw [exec_resetComplete, if_pos ⟨hcond, hflight⟩, hends, hanswered, hu]
    rfl

end

end Sys2Proof.Machine
